-- ==== Sys2Proof/Word.lean ====
section
/-! DEFINITION. The words of the device: 32-bit registers (spec/18_register_map.md R452) and bytes. -/

namespace Sys2Proof

/-- A register word: every address of the register space holds 32 bits (R452). -/
abbrev Word := BitVec 32

/-- A byte of memory, of an image or of a packet. -/
abbrev Byte := BitVec 8

end Sys2Proof
end

