-- ==== Sys2Proof/Syntax.lean ====
section
/-! DEFINITION. The commands of the block: one constructor per row of spec/opcode_table.json. Every command carries `t`, the
instant in ns at which it acts (notes/assumptions/2.md). The other operands are what the command's sender supplies: a path
and a value for a register access, the bytes of a record, the outcome of a read (notes/assumptions/15.md). -/

namespace Sys2Proof

/-- The paths that reach registers (18 R455, R456). -/
inductive Path where
  | image | mgmt | dbg | bar0
  deriving DecidableEq, Repr

/-- What a PCIe configuration request does (12 R311, Table 12.1): a read of a DWORD of the header, a read of a DWORD of the
capability with an ID, found by walking the list of capabilities or of extended capabilities, or a write of one group of the
fields that the device acts on. -/
inductive CfgOp where
  | read (offset : Nat)
  | capability (extended : Bool) (id offset : Nat)
  /-- ASPM Control of the Link Control register -/
  | linkControl (aspm : Nat)
  /-- a 1 written to Poisoned TLP Received of the AER Uncorrectable Error Status -/
  | aerClear
  | command (memEn busMaster : Bool)
  | deviceControl (relaxed : Bool) (mps mrrs : Nat)
  | deviceControl2 (ctoRange : Nat) (ctoDisable : Bool)
  | msixControl (en mask : Bool)
  | bar0 (base : Nat)
  | bar2 (base : Nat)
  deriving DecidableEq, Repr

/-- What disturbs a handshake of a core (spec/14 R364 to R372): nothing, a parity error on an operand of a lane (in column
lanes 0 to 63), the sequencer and its duplicate disagreeing, a bit of the new partial sum of a lane flipped, or a protected
word of core memory read with a correctable (CE) or uncorrectable (UE) error. -/
inductive Upset where
  | none
  | parity (lane : Nat)
  | lockstep
  | flip (lane bit : Nat)
  | ecc (ue : Bool) (addr : Nat)
  deriving DecidableEq, Repr

/-- How a read ended: well, with a correctable or an uncorrectable error, or with a bus error (a completion without data). -/
inductive ReadStatus where
  | ok | ce | ue | bad
  deriving DecidableEq, Repr

/-- How a completion of an outbound host read ends (12 R322): with data, Unsupported Request, Completer Abort, poisoned, or
malformed. -/
inductive CplStatus where
  | ok | ur | ca | poisoned | malformed
  deriving DecidableEq, Repr

/-- What SFDP tells (02 R36, R47): the density in bytes, 0 where it gives none, and the read command and dummy cycles of the
parameter table that the boot source needs, `none` where it lacks that table. -/
structure Sfdp where
  density : Nat
  read : Option (Nat × Nat)
  deriving DecidableEq, Repr

/-- A DBG_ACCESS operation (17 R437): a register read or write, or a read or write of device memory. -/
inductive DbgOp where
  | readReg (addr : Nat)
  | writeReg (addr : Nat) (value : Word)
  | readMem (addr len : Nat)
  | writeMem (addr : Nat) (data : List Byte)
  deriving DecidableEq, Repr

/-- A command. -/
inductive Instr where
  /-- RESET_ASSERT (R33). -/
  | resetAssert (t : Nat) (pwrgood : Bool)
  /-- RESET_RELEASE (R33). -/
  | resetRelease (t bootSrc xtalDly mgmtAddr : Nat) (railsOk : Bool)
  /-- RC_OSCILLATOR_START (R390). -/
  | rcOscillatorStart (t : Nat)
  /-- VDD_CORE_SETTLED (R38). -/
  | vddCoreSettled (t : Nat)
  /-- XTAL_AMP_DETECT (R389). -/
  | xtalAmpDetect (t : Nat)
  /-- XTAL_COUNT_DONE (R389). -/
  | xtalCountDone (t : Nat)
  /-- XTAL_DLY_DONE (R35). -/
  | xtalDlyDone (t : Nat)
  /-- XO_START_TIMEOUT (R44). -/
  | xoStartTimeout (t : Nat)
  /-- PLL_LOCKED (R397). -/
  | pllLocked (t n : Nat)
  /-- PLL_UNLOCK (R398). -/
  | pllUnlock (t n : Nat) (xoFailing : Bool)
  /-- MEM_INIT_DONE (R39). -/
  | memInitDone (t : Nat)
  /-- PCIE_CONFIG_REQUEST (R40). -/
  | pcieConfigRequest (t : Nat) (op : CfgOp)
  /-- IMAGE_HEADER (R47). -/
  | imageHeader (t : Nat) (data : List Byte) (sfdp : Option Sfdp)
  /-- LOAD_FAIL_ZEROED (R59). -/
  | loadFailZeroed (t : Nat)
  /-- REG_WRITE (R55). -/
  | regWrite (t : Nat) (data : List Byte)
  /-- REG_BLOCK (R55). -/
  | regBlock (t : Nat) (data : List Byte)
  /-- MEM_LOAD (R53). -/
  | memLoad (t : Nat) (data : List Byte)
  /-- WAIT (R51). -/
  | wait (t : Nat) (data : List Byte)
  /-- WAIT_TIMEOUT (R51). -/
  | waitTimeout (t : Nat)
  /-- DELAY (R51). -/
  | delay (t : Nat) (data : List Byte)
  /-- DELAY_EXPIRE (R51). -/
  | delayExpire (t : Nat)
  /-- INFO (R51). -/
  | info (t : Nat) (data : List Byte)
  /-- LOCK (R54). -/
  | lock (t : Nat) (data : List Byte)
  /-- ARM (R54). -/
  | arm (t : Nat) (data : List Byte)
  /-- GO (R482). -/
  | go (t : Nat) (path : Path)
  /-- STAGE_DATA (R62). -/
  | stageData (t : Nat) (path : Path) (value : Word)
  /-- PUSH_GO (R62). -/
  | pushGo (t : Nat) (path : Path)
  /-- REARM (R63). -/
  | rearm (t : Nat) (path : Path) (abort : Bool)
  /-- REARM_DRAIN_TIMEOUT (R63). -/
  | rearmDrainTimeout (t : Nat)
  /-- REARM_STEP_DONE (R63). -/
  | rearmStepDone (t : Nat)
  /-- FRAME_START (R85). -/
  | frameStart (t port vc fn ecc : Nat)
  /-- FRAME_END (R88). -/
  | frameEnd (t port vc fn ecc : Nat)
  /-- LONG_PACKET (R80). -/
  | longPacket (t port vc dt wc ecc : Nat) (data : List Byte) (crcOk : Bool)
  /-- SHORT_PACKET_IGNORED (R72). -/
  | shortPacketIgnored (t port vc dt ecc : Nat)
  /-- FRAME_CLOSE_TIMEOUT (R88). -/
  | frameCloseTimeout (t src : Nat)
  /-- FRAME_SLOT_EXPIRE (R85). -/
  | frameSlotExpire (t src : Nat)
  /-- SENSOR_COMMAND_ISSUE (R95). -/
  | sensorCommandIssue (t port : Nat)
  /-- SENSOR_COMMAND_DONE (R96). -/
  | sensorCommandDone (t port : Nat) (rdata : List Word) (nack : Bool)
  /-- IBI (R97). -/
  | ibi (t port addr : Nat) (payload : List Byte)
  /-- HOT_JOIN (R94). -/
  | hotJoin (t port : Nat)
  /-- SC_CMD (R95). -/
  | scCmd (t : Nat) (path : Path) (port : Nat) (value : Word)
  /-- SC_FLUSH (R95). -/
  | scFlush (t : Nat) (path : Path) (port : Nat)
  /-- SC_RDATA_READ (R95). -/
  | scRdataRead (t : Nat) (path : Path) (port : Nat)
  /-- SC_IBI_READ (R97). -/
  | scIbiRead (t : Nat) (path : Path) (port : Nat)
  /-- FSYNC_PULSE (R99). -/
  | fsyncPulse (t output : Nat)
  /-- GENLOCK_EDGE (R100). -/
  | genlockEdge (t width : Nat)
  /-- GENLOCK_LOST (R100). -/
  | genlockLost (t : Nat)
  /-- COMMIT (R123). -/
  | commit (t : Nat) (path : Path) (src : Nat) (discard : Bool)
  /-- NEXT (R123). -/
  | next (t : Nat) (path : Path) (src : Nat) (discard : Bool)
  /-- DISCARD (R123). -/
  | discard (t : Nat) (path : Path) (src : Nat)
  /-- SHARED_STRIPE_START (R106). -/
  | sharedStripeStart (t : Nat)
  /-- SHARED_STRIPE_DONE (R106). -/
  | sharedStripeDone (t : Nat)
  /-- INLINE_SEGMENT_OFFER (R116). -/
  | inlineSegmentOffer (t : Nat)
  /-- MICROSECOND_TICK (R24). -/
  | microsecondTick (t : Nat) (probes : List Nat)
  /-- PACE_WINDOW_CLOSE (R27). -/
  | paceWindowClose (t : Nat)
  /-- PACE_PROBE_START (R25). -/
  | paceProbeStart (t core : Nat)
  /-- PACE_CTRL_WRITE (R27). -/
  | paceCtrlWrite (t : Nat) (path : Path) (value : Word)
  /-- PART_MARGIN_LOW_READ (R28). -/
  | partMarginLowRead (t : Nat) (path : Path) (p : Nat)
  /-- MACRO_FETCH (R151). -/
  | macroFetch (t core ctx : Nat) (ecc : Option Bool)
  /-- CONV (R205). -/
  | conv (t core : Nat)
  /-- DWCONV (R207). -/
  | dwconv (t core : Nat)
  /-- MATMUL (R205). -/
  | matmul (t core : Nat)
  /-- XFORM_FORWARD (R220). -/
  | xformForward (t core : Nat)
  /-- XFORM_INVERSE (R220). -/
  | xformInverse (t core : Nat)
  /-- POOL_MAX (R213). -/
  | poolMax (t core : Nat)
  /-- POOL_AVERAGE (R214). -/
  | poolAverage (t core : Nat)
  /-- RESAMPLE_NEAREST (R216). -/
  | resampleNearest (t core : Nat)
  /-- RESAMPLE_BILINEAR (R216). -/
  | resampleBilinear (t core : Nat)
  /-- ELTW (R229). -/
  | eltw (t core : Nat)
  /-- COPY (R193). -/
  | copy (t core : Nat)
  /-- BWD_DATA (R351). -/
  | bwdData (t core : Nat)
  /-- BWD_WGT (R352). -/
  | bwdWgt (t core : Nat)
  /-- UPDATE_STEP (R356). -/
  | updateStep (t core : Nat)
  /-- UPDATE_LOSS (R355). -/
  | updateLoss (t core : Nat)
  /-- UPDATE_PUBLISH (R360). -/
  | updatePublish (t core : Nat)
  /-- PUBLICATION (R362). -/
  | publication (t core : Nat)
  /-- CLAIM (R262). -/
  | claim (t core : Nat)
  /-- CLAIM_ANSWER (R262). -/
  | claimAnswer (t core ctx : Nat) (stuck : Bool) (ecc : Option Bool)
  /-- WAIT_SEM (R256). -/
  | waitSem (t core : Nat)
  /-- SIGNAL_SEM (R256). -/
  | signalSem (t core : Nat)
  /-- SEMAPHORE_UPDATE (R256). -/
  | semaphoreUpdate (t : Nat) (ecc : Option Bool)
  /-- LOOP (R179). -/
  | loop (t core : Nat)
  /-- END (R180). -/
  | endStop (t core : Nat)
  /-- END_RESTART (R180). -/
  | endRestart (t core : Nat)
  /-- CORE_CYCLE (R134). -/
  | coreCycle (t core : Nat) (upset : Upset)
  /-- RESIDUE_INTERVAL_TIMEOUT (R148). -/
  | residueIntervalTimeout (t core : Nat)
  /-- RESIDUE_COMPARE (R147). -/
  | residueCompare (t core : Nat)
  /-- DRAIN_ROW (R145). -/
  | drainRow (t core : Nat) (upset : Upset)
  /-- ARBITRATION_GRANT (R288). -/
  | arbitrationGrant (t point : Nat) (ecc : Option Bool)
  /-- READ_COMPLETION (R285). -/
  | readCompletion (t id : Nat) (status : ReadStatus)
  /-- WRITE_ACCEPT (R286). -/
  | writeAccept (t id : Nat)
  /-- PAGE_MAP_ENTRY_READ (R299). -/
  | pageMapEntryRead (t id : Nat) (status : ReadStatus)
  /-- PM_FLUSH (R299). -/
  | pmFlush (t : Nat) (path : Path)
  /-- PF_INFO_READ (R301). -/
  | pfInfoRead (t : Nat) (path : Path)
  /-- RESUME (R302). -/
  | resume (t : Nat) (path : Path) (value : Word)
  /-- CANCEL (R304). -/
  | cancel (t : Nat) (path : Path) (value : Word)
  /-- STREAM_CANCEL_DONE (R304). -/
  | streamCancelDone (t requester slot : Nat)
  /-- TAG_TIMEOUT (R297). -/
  | tagTimeout (t id : Nat)
  /-- STRIPE_RELEASE (R267). -/
  | stripeRelease (t src frame stripe : Nat)
  /-- FRAME_RECORD_FINAL (R239). -/
  | frameRecordFinal (t src frame : Nat)
  /-- STALL_TIMEOUT (R275). -/
  | stallTimeout (t p : Nat)
  /-- TX_SLOT (R242). -/
  | txSlot (t port strm : Nat)
  /-- TX_PACKET_SENT (R242). -/
  | txPacketSent (t port : Nat)
  /-- LINK_UP (R310). -/
  | linkUp (t gen width : Nat)
  /-- LINK_DOWN (R313). -/
  | linkDown (t : Nat)
  /-- HOT_RESET (R313). -/
  | hotReset (t : Nat)
  /-- D3HOT (R312). -/
  | d3hot (t : Nat) (enter : Bool)
  /-- BAR2_READ (R318). -/
  | bar2Read (t addr len : Nat) (status : ReadStatus)
  /-- BAR2_WRITE (R318). -/
  | bar2Write (t addr : Nat) (data : List Byte) (ep : Bool)
  /-- MSIX_MASK_WRITE (R320). -/
  | msixMaskWrite (t : Nat) (path : Path) (addr : Nat) (value : Word)
  /-- PCIE_COMPLETION (R322). -/
  | pcieCompletion (t tag : Nat) (status : CplStatus) (data : List Byte)
  /-- COMPLETION_TIMEOUT (R322). -/
  | completionTimeout (t tag : Nat)
  /-- CH_DOORBELL (R324). -/
  | chDoorbell (t : Nat) (path : Path) (ch : Nat) (value : Word)
  /-- DESCRIPTOR_FETCH (R325). -/
  | descriptorFetch (t ch : Nat)
  /-- DESCRIPTOR_RECEIVED (R327). -/
  | descriptorReceived (t ch : Nat)
  /-- DMA_BEAT (R331). -/
  | dmaBeat (t dataPath : Nat)
  /-- SOURCE_ACCEPT (R337). -/
  | sourceAccept (t ch : Nat)
  /-- START (R343). -/
  | start (t : Nat) (path : Path) (ch : Nat)
  /-- STOP (R343). -/
  | stop (t : Nat) (path : Path) (ch : Nat)
  /-- ABORT (R343). -/
  | abort (t : Nat) (path : Path) (ch : Nat)
  /-- RESTART (R343). -/
  | restart (t : Nat) (path : Path) (ch : Nat)
  /-- RESET_IDX (R343). -/
  | resetIdx (t : Nat) (path : Path) (ch : Nat)
  /-- SCRUB_READ (R369). -/
  | scrubRead (t addr : Nat) (upset : ReadStatus)
  /-- HANDSHAKE_TIMEOUT (R373). -/
  | handshakeTimeout (t die pos kind : Nat)
  /-- ALERT_ACK (R378). -/
  | alertAck (t : Nat) (path : Path) (value : Word)
  /-- CNT_CLEAR (R385). -/
  | cntClear (t : Nat) (path : Path) (addr : Nat) (value : Word)
  /-- MONITOR_WINDOW (R391). -/
  | monitorWindow (t count : Nat)
  /-- RC_WINDOW_TIMEOUT (R392). -/
  | rcWindowTimeout (t : Nat)
  /-- PLL_CFG_WRITE (R397). -/
  | pllCfgWrite (t : Nat) (path : Path) (n : Nat) (value : Word)
  /-- SSC_CFG_WRITE (R401). -/
  | sscCfgWrite (t : Nat) (path : Path) (n : Nat) (value : Word)
  /-- MCLK_CFG_WRITE (R403). -/
  | mclkCfgWrite (t : Nat) (path : Path) (n : Nat) (value : Word)
  /-- AVS_PERIOD (R411). -/
  | avsPeriod (t : Nat)
  /-- AVS_RESPONSE (R411). -/
  | avsResponse (t : Nat) (good : Bool) (mv amp : Nat)
  /-- RAIL_DIP_START (R415). -/
  | railDipStart (t n mv : Nat)
  /-- RAIL_DIP_END (R415). -/
  | railDipEnd (t n lowest : Nat)
  /-- SUPPLY_RESET (R416). -/
  | supplyReset (t n : Nat)
  /-- THERMAL_SAMPLE (R417). -/
  | thermalSample (t : Nat) (temps : List Int)
  /-- PWR_REQ_RUN (R421). -/
  | pwrReqRun (t : Nat) (path : Path)
  /-- PWR_REQ_SLEEP (R420). -/
  | pwrReqSleep (t : Nat) (path : Path)
  /-- PWR_REQ_DEEP_SLEEP (R420). -/
  | pwrReqDeepSleep (t : Nat) (path : Path)
  /-- POWER_ENTRY_DRAIN_TIMEOUT (R420). -/
  | powerEntryDrainTimeout (t : Nat)
  /-- POWER_ENTRY_STEP_DONE (R420). -/
  | powerEntryStepDone (t : Nat)
  /-- WAKE_STEP_DONE (R421). -/
  | wakeStepDone (t : Nat)
  /-- VBAT_SWITCHOVER (R424). -/
  | vbatSwitchover (t : Nat)
  /-- VDD_1V8_RESTORED (R424). -/
  | vdd1v8Restored (t : Nat)
  /-- PROGRAM (R429). -/
  | program (t : Nat) (path : Path)
  /-- FUSE_PROGRAM_DONE (R429). -/
  | fuseProgramDone (t : Nat) (readBack : Word)
  /-- BYPASS (R435). -/
  | bypass (t : Nat)
  /-- IDCODE (R435). -/
  | idcode (t : Nat)
  /-- SAMPLE_PRELOAD (R435). -/
  | samplePreload (t : Nat)
  /-- EXTEST (R435). -/
  | extest (t : Nat)
  /-- CLAMP (R435). -/
  | clamp (t : Nat)
  /-- HIGHZ (R435). -/
  | highz (t : Nat)
  /-- DBG_ACCESS (R437). -/
  | dbgAccess (t : Nat) (op : DbgOp)
  /-- TEST_LOGIC_RESET (R435). -/
  | testLogicReset (t : Nat)
  /-- MGMT_WRITE (R440). -/
  | mgmtWrite (t : Nat) (data : List Byte)
  /-- MGMT_READ (R440). -/
  | mgmtRead (t len : Nat)
  /-- MGMT_IBI_RETRY (R442). -/
  | mgmtIbiRetry (t : Nat)
  /-- ENEC (R439). -/
  | enec (t events : Nat)
  /-- DISEC (R439). -/
  | disec (t events : Nat)
  /-- RSTDAA (R439). -/
  | rstdaa (t : Nat)
  /-- ENTDAA (R439). -/
  | entdaa (t addr : Nat)
  /-- SETDASA (R439). -/
  | setdasa (t static addr : Nat)
  /-- SETNEWDA (R439). -/
  | setnewda (t addr : Nat)
  /-- GETPID (R439). -/
  | getpid (t : Nat)
  /-- GETBCR (R439). -/
  | getbcr (t : Nat)
  /-- GETDCR (R439). -/
  | getdcr (t : Nat)
  /-- GETSTATUS (R439). -/
  | getstatus (t : Nat)
  /-- SETMWL (R439). -/
  | setmwl (t len : Nat)
  /-- GETMWL (R439). -/
  | getmwl (t : Nat)
  /-- SETMRL (R439). -/
  | setmrl (t len : Nat)
  /-- GETMRL (R439). -/
  | getmrl (t : Nat)
  /-- UNSUPPORTED_CCC (R439). -/
  | unsupportedCcc (t : Nat) (direct : Bool)
  /-- SET (R446). -/
  | set (t : Nat) (path : Path)
  /-- SET_AT_PPS (R446). -/
  | setAtPps (t : Nat) (path : Path)
  /-- PPS_EDGE (R448). -/
  | ppsEdge (t width : Nat)
  /-- PPS_HOLDOVER (R448). -/
  | ppsHoldover (t : Nat)
  /-- XT32_STOPPED (R445). -/
  | xt32Stopped (t : Nat)
  /-- CHRONO_FRAC_READ (R447). -/
  | chronoFracRead (t : Nat) (path : Path)
  /-- LOW_WORD_READ (R12). -/
  | lowWordRead (t : Nat) (path : Path) (addr : Nat) (wide : Bool)
  /-- BUF_PEAK_READ (R102). -/
  | bufPeakRead (t : Nat) (path : Path) (port : Nat)
  /-- TXQ_PEAK_READ (R248). -/
  | txqPeakRead (t : Nat) (path : Path) (port : Nat)
  /-- MON_COUNT_READ (R391). -/
  | monCountRead (t : Nat) (path : Path)
  /-- MON_MIN_READ (R415). -/
  | monMinRead (t : Nat) (path : Path) (n : Nat)
  /-- RESPLIT_LAST_READ (R192). -/
  | resplitLastRead (t : Nat) (path : Path) (core : Nat)
  /-- REGISTER_WRITE (R11). -/
  | registerWrite (t : Nat) (path : Path) (addr : Nat) (value : Word) (high : Option Word)
  /-- SUPPLY_RESET_RELEASE (R416). -/
  | supplyResetRelease (t bootSrc xtalDly mgmtAddr : Nat)
  /-- HS_BURST_END (R71). -/
  | hsBurstEnd (t port : Nat)
  /-- PHY_ERR (R102). -/
  | phyErr (t port : Nat)
  /-- DESKEW (R67). -/
  | deskew (t port : Nat)
  /-- BAR0_BAD (R316). -/
  | bar0Bad (t addr : Nat) (write : Bool) (len : Nat)
  /-- VBAT_LOW (R424). -/
  | vbatLow (t mv : Nat)
  /-- POWER_ON (R445). -/
  | powerOn (t : Nat)
  /-- ALWAYS_ON_POWER_LOSS (R445). -/
  | alwaysOnPowerLoss (t : Nat)
  deriving DecidableEq, Repr

end Sys2Proof
end

