-- ==== Sys2Proof/Machine/Bits.lean ====
section
/-! DEFINITION. Bit fields, sign extension, byte order and the arithmetic helpers that every chapter uses. -/

namespace Sys2Proof.Machine

/-- Field [lo+len-1:lo] of a number. -/
def nfld (w lo len : Nat) : Nat := (w >>> lo) % 2 ^ len

/-- Field [lo+len-1:lo] of a register word. -/
def fld (w : Word) (lo len : Nat) : Nat := nfld w.toNat lo len

/-- Bit i of a number. -/
def nbit (w i : Nat) : Bool := (w >>> i) % 2 == 1

/-- Bit i of a register word. -/
def bit (w : Word) (i : Nat) : Bool := nbit w.toNat i

/-- A word from a number, modulo 2^32. -/
def wd (n : Nat) : Word := BitVec.ofNat 32 n

/-- 1 or 0. -/
def b2n (b : Bool) : Nat := if b then 1 else 0

/-- The word with field [lo+len-1:lo] replaced by v. -/
def setFld (w : Word) (lo len v : Nat) : Word :=
  wd (w.toNat - nfld w.toNat lo len * 2 ^ lo + (v % 2 ^ len) * 2 ^ lo)

/-- The number with bit i set. -/
def nset (w i : Nat) : Nat := w ||| (1 <<< i)

/-- The number with bit i cleared. -/
def nclr (w i : Nat) : Nat := if nbit w i then w - 2 ^ i else w

/-- A `bits`-bit two's-complement pattern as an integer. -/
def sx (bits n : Nat) : Int :=
  let m := n % 2 ^ bits
  if m < 2 ^ (bits - 1) then (m : Int) else (m : Int) - (2 ^ bits : Nat)

/-- An integer as a `bits`-bit two's-complement pattern. -/
def toU (bits : Nat) (i : Int) : Nat := (i % ((2 ^ bits : Nat) : Int)).toNat

/-- Clamp to an interval. -/
def clampI (lo hi x : Int) : Int := if x < lo then lo else if hi < x then hi else x

/-- Largest and smallest value of a signed format of `bits` bits. -/
def smax (bits : Nat) : Int := ((2 ^ (bits - 1) : Nat) : Int) - 1
def smin (bits : Nat) : Int := -((2 ^ (bits - 1) : Nat) : Int)

/-- Saturate to a signed format of `bits` bits. -/
def sat (bits : Nat) (x : Int) : Int := clampI (smin bits) (smax bits) x

/-- Floor of x ÷ 2^k. -/
def ashr (x : Int) (k : Nat) : Int := x / ((2 ^ k : Nat) : Int)

/-- x ÷ 2^k rounded to nearest, ties to even. -/
def rheShift (x : Int) (k : Nat) : Int :=
  let d : Int := ((2 ^ k : Nat) : Int)
  let q := x / d
  let r := x % d
  if 2 * r < d then q else if d < 2 * r then q + 1 else if q % 2 = 0 then q else q + 1

/-- n ÷ d rounded to nearest, ties to even (d > 0). -/
def rheDiv (n d : Int) : Int :=
  let q := n / d
  let r := n % d
  if 2 * r < d then q else if d < 2 * r then q + 1 else if q % 2 = 0 then q else q + 1

/-- x ÷ 2^k rounded half up: floor((x + 2^(k-1)) ÷ 2^k); x itself when k is 0. -/
def rhuShift (x : Int) (k : Nat) : Int :=
  if k = 0 then x else (x + ((2 ^ (k - 1) : Nat) : Int)) / ((2 ^ k : Nat) : Int)

/-- n ÷ d rounded up. -/
def ceilDiv (n d : Nat) : Nat := (n + (d - 1)) / d

/-- The n little-endian bytes of a number. -/
def bytesLE : Nat → Nat → List Byte
  | 0, _ => []
  | n + 1, v => BitVec.ofNat 8 v :: bytesLE n (v / 256)

/-- The number that little-endian bytes spell. -/
def ofBytesLE : List Byte → Nat
  | [] => 0
  | b :: bs => b.toNat + 256 * ofBytesLE bs

/-- The number that big-endian bytes spell. -/
def ofBytesBE (bs : List Byte) : Nat := bs.foldl (fun a b => a * 256 + b.toNat) 0

/-- `n` bytes of a list from offset `o`, zeros where the list ends. -/
def slice (bs : List Byte) (o n : Nat) : List Byte :=
  let r := (bs.drop o).take n
  r ++ List.replicate (n - r.length) 0

/-- Little-endian field of a byte list. -/
def leAt (bs : List Byte) (o n : Nat) : Nat := ofBytesLE (slice bs o n)

/-- Every byte of the slice is zero. -/
def zerosAt (bs : List Byte) (o n : Nat) : Bool := (slice bs o n).all (· == 0)

/-- Saturating increment of a 32-bit counter value. -/
def satInc (w : Word) : Word := if w.toNat + 1 < 2 ^ 32 then wd (w.toNat + 1) else wd (2 ^ 32 - 1)

/-- Saturating addition within 32 bits. -/
def satAdd32 (a b : Nat) : Nat := min (a + b) (2 ^ 32 - 1)

/-! Finite maps as sorted association lists. -/

/-- The value at a key, or the default. -/
def tget {α : Type} (d : α) : List (Nat × α) → Nat → α
  | [], _ => d
  | (k, v) :: r, i => if i = k then v else tget d r i

/-- The value at a key, if listed. -/
def tfind {α : Type} : List (Nat × α) → Nat → Option α
  | [], _ => none
  | (k, v) :: r, i => if i = k then some v else tfind r i

/-- The map with a key set, keys kept rising. -/
def tput {α : Type} : List (Nat × α) → Nat → α → List (Nat × α)
  | [], i, x => [(i, x)]
  | (k, v) :: r, i, x =>
    if i = k then (i, x) :: r
    else if i < k then (i, x) :: (k, v) :: r
    else (k, v) :: tput r i x

/-- The map without a key. -/
def tdel {α : Type} (m : List (Nat × α)) (i : Nat) : List (Nat × α) := m.filter (fun e => e.1 != i)

/-- The list with element i replaced, unchanged if there is none. -/
def lset {α : Type} : List α → Nat → α → List α
  | [], _, _ => []
  | _ :: r, 0, x => x :: r
  | y :: r, i + 1, x => y :: lset r i x

end Sys2Proof.Machine
end

