-- ==== Sys2Proof/Machine/Numbers.lean ====
section
/-! DEFINITION. Number formats (spec/06_numbers_and_folding.md R155 to R175), the checksum of records (spec/03 R91), the
front-stage sample path (spec/04 R108 to R112), the drain's shift (spec/05 R144), border coordinates (spec/08 R199), and the
optimiser's tables and generator (spec/13 R358, R359). Arithmetic only: nothing here reads the state. -/

namespace Sys2Proof.Machine

/-! ## CRC-32 of R91 -/

/-- Eight steps of the reflected IEEE 802.3 polynomial. -/
def crcBits : Nat → Nat → Nat
  | 0, c => c
  | n + 1, c => crcBits n (if c % 2 = 1 then (c / 2) ^^^ 0xEDB8_8320 else c / 2)

/-- The running CRC over bytes, without the initial and final inversion. -/
def crcRun (c : Nat) (bs : List Byte) : Nat := bs.foldl (fun c b => crcBits 8 (c ^^^ b.toNat)) c

/-- CRC-32 of bytes, and of bytes that continue earlier ones. -/
def crcMore (crc : Nat) (bs : List Byte) : Nat := crcRun (crc ^^^ 0xFFFF_FFFF) bs ^^^ 0xFFFF_FFFF
def crc32 (bs : List Byte) : Nat := crcMore 0 bs

/-! ## Formats in memory (R155, R156) -/

/-- Bytes of one element of a tensor format: S8, S12, S16, S32, and U8L; 0 for the B8 sequences. -/
def fmtSize (f : Nat) : Nat :=
  match f with
  | 0 => 1 | 1 => 2 | 2 => 2 | 3 => 4 | 5 => 1 | _ => 0

/-- Significant bits of a signed format. -/
def fmtBits (f : Nat) : Nat :=
  match f with
  | 0 => 8 | 1 => 12 | 2 => 16 | 3 => 32 | _ => 8

/-- An element read from memory: an S12 container uses bits [11:0] only (R156); U8L is unsigned. -/
def fmtDec (f raw : Nat) : Int := if f = 5 then ((raw % 256 : Nat) : Int) else sx (fmtBits f) raw

/-- The bytes of an element: S12 is sign-filled to its 16-bit container (R156). -/
def fmtEnc (f : Nat) (x : Int) : List Byte := bytesLE (fmtSize f) (toU (8 * fmtSize f) x)

/-! ## The core drain (R144) -/

/-- Shift right with one rounding, half to even: q of R144 before the saturation. -/
def drainShift (x : Int) (sh : Nat) : Int := if sh = 0 then x else rheShift x sh

/-- A 32-bit sum limited to S32 (R134). -/
def sat32 (x : Int) : Int := sat 32 x

/-! ## Front stage samples (04 R108 to R112) -/

/-- Linearisation of a left-aligned code through knots L (R109): U24. -/
def linearise (L : Nat → Nat) (x20 : Nat) : Nat :=
  let i := x20 / 4096
  let f := x20 % 4096
  let d : Int := (L (i + 1) : Int) - (L i : Int)
  min (((L i : Int) + (d * f + 2048) / 4096).toNat) 0xFF_FFFF

/-- Parameters of one exposure in merge (R111). -/
structure MergePar where
  gain : Nat
  knee : Nat
  sat : Nat
  rcp : Nat
  deriving DecidableEq, Repr

/-- Gained value of an exposure: U32. -/
def mergeV (p : MergePar) (y : Nat) : Nat := min ((y * p.gain + 128) / 256) 0xFFFF_FFFF

/-- Merge of the values of one sample position, longest exposure first (R111). -/
def mergeRun : List (MergePar × Nat) → Nat
  | [] => 0
  | [(p, y)] => mergeV p y
  | (p, y) :: (p1, y1) :: r =>
    if y ≤ p.knee then mergeV p y
    else if y < p.sat then
      let a := min 65536 ((y - p.knee) * p.rcp / 2 ^ 24)
      (mergeV p y * (65536 - a) + mergeV p1 y1 * a + 32768) / 65536
    else mergeRun ((p1, y1) :: r)

/-- The pseudo-logarithm of R112: 15 bits. -/
def pseudoLog (v : Nat) : Nat :=
  if v = 0 then 0
  else
    let m := Nat.log2 v
    let mant := if m ≤ 10 then (v - 2 ^ m) * 2 ^ (10 - m) else (v - 2 ^ m) / 2 ^ (m - 10)
    m * 1024 + mant

/-- Encoding through knots E (R112): S8 when `s8`, else S12. -/
def encodeV (E : Nat → Int) (s8 : Bool) (v : Nat) : Int :=
  let u := pseudoLog v
  let seg := u / 128
  let frac : Int := ((u % 128 : Nat) : Int)
  sat (if s8 then 8 else 12) (E seg + ((E (seg + 1) - E seg) * frac + 64) / 128)

/-! ## Borders (08 R199) -/

/-- MIRROR about the edge samples. -/
def mirror (u : Int) (n : Nat) : Int :=
  if n ≤ 1 then 0
  else
    let p : Int := 2 * ((n : Int) - 1)
    let v := u % p
    if (n : Int) ≤ v then p - v else v

/-- What a coordinate outside 0 to n − 1 reads: another coordinate, or a value. -/
inductive Edge where
  | sample (u : Int)
  | value (x : Int)
  deriving DecidableEq, Repr

/-- Border modes (Table 8.1); `const` is already in the input format. -/
def borderAt (mode : Nat) (const : Int) (u : Int) (n : Nat) : Edge :=
  if 0 ≤ u ∧ u < (n : Int) then .sample u
  else
    match mode with
    | 0 => .value 0
    | 1 => .sample (if u < 0 then 0 else (n : Int) - 1)
    | 2 => .sample (mirror u n)
    | _ => .value const

/-! ## B8 blocks (R170, R171) -/

/-- Rounding to nearest, ties to even, of x ÷ 2^t for a signed t. -/
def rhePow (x : Int) (t : Int) : Int := if t < 0 then x * ((2 ^ (-t).toNat : Nat) : Int) else rheShift x t.toNat

/-- The smallest t with rhe(a ÷ 2^t) at most 127, searched upward from a lower bound. -/
def b8Scale : Nat → Int → Int → Int
  | 0, _, t => t
  | n + 1, a, t => if rhePow a t ≤ 127 then t else b8Scale n a (t + 1)

/-- Largest magnitude of a block. -/
def blockMax (xs : List Int) : Int := xs.foldl (fun a x => max a (if x < 0 then -x else x)) 0

/-- A block as exponent, mantissas and whether it was clamped at E = 63, from values X that stand for X × 2^EB. The
exponent follows R170, the prose of R171 and its example: E = t + 39 + EB (notes/assumptions/14.md). -/
def b8Encode (xs : List Int) (eb : Int) : Nat × List Int × Bool :=
  let a := blockMax xs
  if a = 0 then (0, xs.map (fun _ => 0), false)
  else
    let lo : Int := (Nat.log2 a.toNat : Int) - 8
    let t := b8Scale 12 a lo
    let e0 := t + 39 + eb
    let e := clampI 0 63 e0
    let t1 := e - 39 - eb
    (e.toNat, xs.map (fun x => clampI (-127) 127 (rhePow x t1)), decide (63 < e0))

/-! ## U8L (R175, R358) -/

/-- The code of n ÷ 2^k: the number of boundaries 2^((u − 127.5) ÷ 8) at or below it, compared exactly in 16th powers. -/
def u8lCode (n k : Nat) : Nat :=
  let t := n ^ 16 * 2 ^ 255
  (List.range 255).foldl (fun c u => if 2 ^ (2 * u + 16 * k) ≤ t then u + 1 else c) 0

/-- The integer part of 2^(e ÷ 8), bit by bit from bit i. -/
def root8 (e : Nat) : Nat → Nat → Nat
  | 0, r => r
  | i + 1, r => root8 e i (if (r + 2 ^ i) ^ 8 ≤ 2 ^ e then r + 2 ^ i else r)

/-- VD(u) × 2^40 (R358). -/
def vd40 (u : Nat) : Nat :=
  if u = 0 then 0
  else
    let e := u + 192
    let r := root8 e 57 0
    if (2 * r + 1) ^ 8 ≤ 2 ^ (e + 8) then r + 1 else r

/-- The generator of stochastic rounding (R359). -/
def lfsrNext (s : Nat) : Nat := if s % 2 = 1 then (s / 2) ^^^ 0x8020_0003 else s / 2

/-! ## Residues (05 R147) -/

/-- An integer modulo 7, 0 to 6. -/
def mod7 (x : Int) : Nat := (x % 7).toNat

/-! ## Weights of the block DFT (08 R220) -/

/-- Sign and centroid index of cos(2πm ÷ 64): 0 selects nothing. -/
def tw (m0 : Nat) : Int × Nat :=
  let m := if 32 < m0 then 64 - m0 else m0
  if m = 16 then (0, 0) else if m < 16 then (1, m) else (-1, 32 - m)

/-- The generated weight of point n, frequency k, with components (0 real, 1 imaginary). -/
def xformWeight (inverse : Bool) (n ri k co : Nat) : Int × Nat :=
  let th := n * k % 64
  if ri = co then tw th
  else
    let s := tw ((th + 48) % 64)
    -- forward: re from im is +sin, im from re is −sin; inverse the other way round
    let plus := (ri == 1 && co == 0) != inverse
    if plus then s else (-s.1, s.2)

end Sys2Proof.Machine
end

