-- ==== Sys2Proof/Config.lean ====
section
/-! DEFINITION. What the spec leaves to the part: values burnt in at production whose numbers the spec does not give,
and the free values. None has a body, so no proof can see one (notes/assumptions/5.md, 8.md). -/

namespace Sys2Proof.Config

/-- The `n`-th free word: a value the spec leaves open after which the machine goes on. `n` is `State.freeCount`. -/
opaque freeWord : Nat → Word

/-- The `n`-th free natural number, for values wider than a word. -/
opaque freeNat : Nat → Nat

/-- The `n`-th free byte. -/
opaque freeByte : Nat → Byte

/-- IDENT_SERIAL, the package serial (17 R438): unique, structure not defined. -/
opaque serial : BitVec 64

/-- The part is an engineering sample: which of the two orderable codes IDENT_SKU shows (19 Table 19.14). -/
opaque engineeringSample : Bool

/-- IDENT_DIE[n] words 0 and 1 (17 Table 17.4) without the KIND field; of WAFER, what selects one of 1 to 25. -/
opaque dieLot : Nat → Word
opaque diePlace : Nat → BitVec 16

/-- Words 128 to 255 of the fuse array, the Skoica region (17 Table 17.1); its layout is not given. -/
opaque skoicaFuse : Nat → Word

/-- Skoica's JEDEC manufacturer code (17 R435) and MIPI manufacturer ID (17 R439), both from the Skoica region. -/
opaque jedecMfr : BitVec 11
opaque mipiMfr : BitVec 15

/-- The PCI vendor ID (12 Table 12.1), from the Skoica region. -/
opaque pciVendor : BitVec 16

/-- FREQ of HBM0 and HBM1, from fuses: what selects one of the 801 values of 15 Table 15.4. -/
opaque hbmFreq : Nat → BitVec 12

/-- The largest of the four fuse voltages of the compute dies in mV (16 R410). -/
opaque vMax : Nat

/-- Guard columns that the shared front stage leaves between the members of a fold group, by lead source; the fold list that
names them lies in a vault that the front stage is not said to read (notes/assumptions/23.md). -/
opaque foldGuard : Nat → Nat

end Sys2Proof.Config
end

