-- ==== Sys2Proof/Machine/RegTab.lean ====
section
/-! DEFINITION. The register map (spec/18_register_map.md): one row per register or array of registers, with the bits
software writes, the bits a 1 clears, the bits a read clears, who may write, the lock bit and the reset value. Rows whose
value follows other state are answered by Machine/RegRead.lean; their row says only that the address is listed. -/

namespace Sys2Proof.Machine

/-- Who may write a register (R453). -/
inductive Gate where
  /-- every path -/
  | any
  /-- "image only": other paths are ignored after step 14 -/
  | img
  /-- image records and MGMT only -/
  | imgMgmt
  /-- MGMT only -/
  | mgmt
  /-- only while the DMA channel is STOPPED -/
  | stopped
  deriving DecidableEq, Repr

/-- A register or an array of registers. -/
structure RegRow where
  base : Nat
  /-- array dimensions, largest stride first: (stride, count) -/
  dims : List (Nat × Nat)
  /-- bits a write sets -/
  rw : Nat
  /-- bits that a written 1 clears -/
  w1c : Nat
  /-- bits that a read clears -/
  rc : Nat
  gate : Gate
  /-- lock bit and the bits it protects -/
  lock : Option (Nat × Nat)
  reset : Nat
  deriving DecidableEq, Repr

/-- Whether an offset is one of the array's elements. -/
def inDims : List (Nat × Nat) → Nat → Bool
  | [], off => off == 0
  | (st, n) :: r, off =>
    let i := min (off / st) (n - 1)
    inDims r (off - i * st)

/-- Whether the row lists the address. -/
def RegRow.covers (r : RegRow) (a : Nat) : Bool := decide (r.base ≤ a) && inDims r.dims (a - r.base)

/-- All 32 bits. -/
def m32 : Nat := 0xFFFF_FFFF

/-- A read-only row. -/
def ro (base : Nat) (dims : List (Nat × Nat) := []) (reset : Nat := 0) : RegRow :=
  ⟨base, dims, 0, 0, 0, .any, none, reset⟩

/-- A row with writable bits. -/
def rwr (base : Nat) (dims : List (Nat × Nat)) (mask : Nat) (gate : Gate) (reset : Nat := 0) : RegRow :=
  ⟨base, dims, mask, 0, 0, gate, none, reset⟩

/-- A W1C row. -/
def w1 (base : Nat) (dims : List (Nat × Nat)) (mask : Nat) : RegRow := ⟨base, dims, 0, mask, 0, .any, none, 0⟩

/-- A row of a 64-bit register pair. -/
def ro2 (base : Nat) (dims : List (Nat × Nat) := []) : RegRow := ro base (dims ++ [(4, 2)])

/-- Table 18.5. -/
def rowsGlobal : List RegRow :=
  [ ro 0x0 [] 0x5C01_9440, ro 0x4 [] 0xA1, ro 0x10, rwr 0x14 [] 0xFFFF .any, rwr 0x20 [] 0xF .img,
    ro 0x40, ro 0x44, ro 0x50, ro 0x100, ro 0x104, ro 0x108, ro 0x120 [(4, 18)],
    rwr 0x200 [] 0x31F .any 0x041A_010A, w1 0x204 [] 0x3, rwr 0x208 [] 0xFFFF .any 0x1100, ro 0x20C,
    ro 0x300 [(4, 4)], ro 0x400 [(4, 64)], ⟨0x500, [(4, 64)], 0, 0, 0xFFFF, .any, none, 0⟩ ]

/-- Table 18.6. -/
def rowsClock : List RegRow :=
  [ ro 0x1_0000, rwr 0x1_0004 [] 0x3 .img 2, rwr 0x1_0010 [] 0x81FF_01FF .img 0x819D_0151,
    ro 0x1_0014, ro 0x1_0100 [(0x20, 3)], ro 0x1_01E0, rwr 0x1_0160 [(0x20, 4)] 0x1_0FFF .img,
    rwr 0x1_0144 [] 0xFFF .img, rwr 0x1_01A4 [] 0xFFF .img, rwr 0x1_0300 [(4, 16)] 0x0FFF_FFFF .img,
    rwr 0x1_0400 [] 0x35C .img 0x3FF, rwr 0x1_0404 [] 0x3FF .img 0xC0, rwr 0x1_0408 [] 0x3DF .img ]

/-- Table 18.7. -/
def rowsPower : List RegRow :=
  [ ro 0x2_0000, rwr 0x2_0004 [] 0 .mgmt, ro 0x2_0010, rwr 0x2_0014 [] 0x3F .img, ro 0x2_0018, ro 0x2_0100 [(8, 9)],
    ro 0x2_0104 [(8, 8)], ro 0x2_0200, ro 0x2_0204, ro 0x2_0240 [(4, 9)], rwr 0x2_0300 [] 0x7FFF_0001 .img,
    ro 0x2_0400 [(4, 9)], rwr 0x2_0440 [] 0xFF .any 0x69, ro 0x2_0444 ]

/-- Table 18.8. -/
def rowsBoot : List RegRow :=
  [ ro 0x3_0000, ro 0x3_0004, ro 0x3_0008, ro 0x3_000C,
    ⟨0x3_0010, [], 0x34, 0, 0, .any, some (3, 0x30), 0⟩,
    rwr 0x3_0014 [] m32 .any, rwr 0x3_0018 [] 0x0FFF_FFFC .any, ro 0x3_001C, ro 0x3_0020, ro 0x3_0024, ro 0x3_0028,
    ro 0x3_002C ]

/-- Table 18.9. -/
def rowsSecurity : List RegRow :=
  [ ro 0x4_0000, ⟨0x4_0010, [], 0xF0F, 0, 0, .any, some (0, 0xF0F), 0xF0F⟩, ⟨0x4_0020, [], 1, 0, 0, .any, some (4, 1), 0⟩, ro 0x4_0024,
    rwr 0x4_0100 [] 0xFF .imgMgmt, rwr 0x4_0104 [] m32 .imgMgmt, rwr 0x4_0108 [] 0 .imgMgmt, ro 0x4_010C, ro 0x4_0200,
    ro 0x4_0400 [(4, 256)] ]

/-- Table 18.10. -/
def rowsChrono : List RegRow :=
  [ ro 0x5_0000, rwr 0x5_0004 [] 0xFFFF_001F .img, ro 0x5_0010, ro 0x5_0014, ro 0x5_0018, ro 0x5_0020, ro 0x5_0024, ro 0x5_0030, ro 0x5_0034,
    rwr 0x5_0040 [] m32 .any, rwr 0x5_0044 [] m32 .any, rwr 0x5_0048 [] 0xFFFF .any, ro 0x5_004C, ro 0x5_0060, ro 0x5_0064,
    ro 0x5_0068, rwr 0x5_006C [] m32 .any, ro 0x5_0070 ]

/-- Table 18.11. -/
def rowsFault : List RegRow :=
  [ ro 0x6_0000, ro 0x6_0004, ro 0x6_0008, ro 0x6_000C, rwr 0x6_0010 [] 0x3_FFFF .img 0x3_FFFF,
    rwr 0x6_0014 [] 0x1_03FF .img 0x1_0064, rwr 0x6_0018 [] 0xFFFF .img 0x3E8, w1 0x6_0020 [] 0xD,
    rwr 0x6_0024 [] 0x3F .any 0x3F, rwr 0x6_0030 [(4, 4)] m32 .any m32, ro 0x6_0040, ro 0x6_0048, ro 0x6_004C,
    ro 0x6_0080 [(4, 5)], ro 0x6_00A0 [(4, 5)], ro 0x6_00C0 [(4, 18)], w1 0x6_0200 [(4, 4)] m32, ro 0x6_0210,
    rwr 0x6_0214 [] m32 .any m32, rwr 0x6_0218 [] 0x17F .any, ro 0x6_0400 [(4, 128)], ro 0x6_1000 [(4, 2048)] ]

/-- Table 18.12. -/
def rowsIngress : List RegRow :=
  [ rwr 0x8_0000 [(0x1000, 16)] 0x1F_FFFF .img, rwr 0x8_0004 [(0x1000, 16)] 0x1_FFFF .img 0x688,
    ro 0x8_0010 [(0x1000, 16)], ro 0x8_0014 [(0x1000, 16)], ro 0x8_0100 [(0x1000, 16), (4, 15)],
    w1 0x8_0140 [(0x1000, 16)] 0x7FFF, ro 0x8_0144 [(0x1000, 16)], rwr 0x8_0148 [(0x1000, 16)] m32 .any m32,
    rwr 0x8_014C [(0x1000, 16)] 0x10F .any, ro 0x8_0180 [(0x1000, 16), (4, 2)], ro 0x9_0000 ]

/-- Table 18.13. -/
def rowsSensctl : List RegRow :=
  [ rwr 0xA_0000 [(0x100, 16)] 0xFF_FF07 .img, rwr 0xA_0004 [(0x100, 16)] 0 .img, ro 0xA_0008 [(0x100, 16)],
    ro 0xA_000C [(0x100, 16)], rwr 0xA_0010 [(0x100, 16)] 0 .img, ro 0xA_0014 [(0x100, 16)], ro 0xA_0018 [(0x100, 16)],
    ro 0xA_0020 [(0x100, 16)], ro 0xA_0024 [(0x100, 16)],
    rwr 0xA_2000 [(0x10, 4)] 0xFFFF_00F7 .img, rwr 0xA_2004 [(0x10, 4)] m32 .img, rwr 0xA_2008 [(0x10, 4)] m32 .img,
    ro 0xA_200C [(0x10, 4)], ro 0xA_2100, ro 0xA_2104, ro 0xA_2108, ro 0xA_210C ]

/-- Table 18.14. -/
def rowsFront : List RegRow :=
  [ rwr 0xC_0010 [] m32 .img, rwr 0xC_0014 [] 0xF .img, rwr 0xC_0018 [] m32 .img,
    rwr 0xC_0020 [] m32 .img, rwr 0xC_0024 [] 0xF .img, ro 0xC_0040, ro 0xC_0080 [(4, 2)], ro 0xC_0088 [(4, 2)],
    ro 0xC_0100 [(4, 4)], w1 0xC_0140 [] 0xF, ro 0xC_0144,
    rwr 0xC_1000 [(0x20, 512)] 0x00FF_FFF3 .img, rwr 0xC_1004 [(0x20, 512)] m32 .img,
    rwr 0xC_1008 [(0x20, 512)] 0xF .img, rwr 0xC_100C [(0x20, 512)] 0xFFF .img, rwr 0xC_1010 [(0x20, 512)] 0x1FFF .img,
    rwr 0xC_1014 [(0x20, 512)] m32 .img, rwr 0xC_1018 [(0x20, 512)] m32 .img, rwr 0xC_101C [(0x20, 512)] 0xF_FFFF .img,
    rwr 0xC_8000 [(0x800, 32), (4, 257)] 0x1FF_FFFF .img, ro 0xC_8404 [(0x800, 32), (4, 255)],
    rwr 0xD_8000 [(0x400, 32), (4, 128)] m32 .img, rwr 0xD_8200 [(0x400, 32)] 0xFFFF .img,
    ro 0xD_8204 [(0x400, 32), (4, 127)] ]
/-- A TXS word: image only and locked by the transmit-port assignment bit (Table 18.15, 17 Table 17.3). -/
def txsRow (w mask : Nat) : RegRow :=
  ⟨0xE_0200 + 4 * w, [(0x1000, 4), (0x20, 16)], mask, 0, 0, .img, some (5, mask), 0⟩

/-- Table 18.15. -/
def rowsTransmit : List RegRow :=
  [ rwr 0xE_0000 [(0x1000, 4)] 0x3F_FFCF .img, rwr 0xE_0004 [(0x1000, 4)] 0x1_FFFF .img 0x688,
    ro 0xE_0010 [(0x1000, 4)], ro 0xE_0014 [(0x1000, 4)], ro 0xE_0100 [(0x1000, 4), (4, 6)],
    w1 0xE_0140 [(0x1000, 4)] 0x3F, ro 0xE_0144 [(0x1000, 4)], rwr 0xE_0148 [(0x1000, 4)] m32 .any m32,
    rwr 0xE_014C [(0x1000, 4)] 0x107 .any, ro 0xE_0180 [(0x1000, 4), (4, 2)],
    txsRow 0 0x1FF_FFFF, txsRow 1 m32, txsRow 2 m32, txsRow 3 m32, txsRow 4 m32, txsRow 5 0xFFFF, txsRow 6 0, txsRow 7 0 ]
/-- Table 18.16. -/
def rowsHost : List RegRow :=
  [ ro 0x10_0000, rwr 0x10_0004 [] 0x1FF .img 0x85, ro 0x10_0008, ro 0x10_0100 [(4, 6)], w1 0x10_0140 [] 0x3F,
    ro 0x10_0144, rwr 0x10_0148 [] m32 .any m32, rwr 0x10_014C [] 0x107 .any, ro 0x10_0180, ro 0x10_0184, ro 0x10_0188,
    ro 0x10_018C, rwr 0x10_1000 [(0x100, 32)] 0xFFFF7F .img 0x00FF_0000, rwr 0x10_1004 [(0x100, 32)] 0x1FF_FFFF .img,
    rwr 0x10_1008 [(0x100, 32)] 0x1F1F .stopped, rwr 0x10_1010 [(0x100, 32), (4, 2)] m32 .stopped,
    rwr 0x10_1018 [(0x100, 32), (4, 2)] m32 .stopped, ro 0x10_1020 [(0x100, 32)], ro 0x10_1024 [(0x100, 32)],
    ro 0x10_1028 [(0x100, 32)], ro 0x10_102C [(0x100, 32)], ro 0x10_1030 [(0x100, 32), (4, 2)], ro 0x10_1038 [(0x100, 32)],
    ro 0x10_1040 [(0x100, 32), (4, 2)], ro 0x10_1050 [(0x100, 32), (4, 3)], w1 0x10_1060 [(0x100, 32)] 7,
    ro 0x10_1064 [(0x100, 32)], rwr 0x10_1068 [(0x100, 32)] m32 .any m32, rwr 0x10_106C [(0x100, 32)] 0x103 .any,
    rwr 0x10_8000 [(16, 256)] 0xFFFF_FFFC .any, rwr 0x10_8004 [(16, 256)] m32 .any, rwr 0x10_8008 [(16, 256)] m32 .any,
    rwr 0x10_800C [(16, 256)] 1 .any 1, ro 0x10_9000 [(4, 8)] ]

/-- Table 18.17. -/
def rowsMemory : List RegRow :=
  [ ro 0x20_0000, ro 0x20_0008, ⟨0x20_0010, [], 0xFFFF_FFFF, 0, 0, .img, some (1, 0xFFFF_FFFF), 0⟩,
    ⟨0x20_0014, [], 0xF, 0, 0, .img, some (1, 0xF), 0⟩, ro 0x20_0018, ro 0x20_0020, ro 0x20_0024, ro 0x20_0028,
    rwr 0x20_002C [] 0xFF .img 0xFF, ro 0x20_0030, ro 0x20_0034, rwr 0x20_0040 [] m32 .img, rwr 0x20_0044 [] 0xF .img,
    rwr 0x20_0048 [] 0x1FF_0FFF .img 0x00FF_0000, ro 0x20_004C, ro 0x20_0080 [(4, 7)], w1 0x20_00C0 [] 0x7F, ro 0x20_00C4,
    rwr 0x20_00C8 [] m32 .any m32, rwr 0x20_00CC [] 0x107 .any, ro 0x20_0100 [(4, 2)], ro 0x20_0110 [(4, 2)],
    ro 0x20_0200 [(4, 73)], ro 0x20_0400 [(0x20, 5), (4, 5)],
    rwr 0x20_1000 [(0x40, 68), (0x10, 3)] m32 .img, rwr 0x20_1004 [(0x40, 68), (0x10, 3)] m32 .img,
    rwr 0x20_1008 [(0x40, 68), (0x10, 3)] 0x0FFF_1FFF .img, rwr 0x20_100C [(0x40, 68), (0x10, 3)] 1 .img,
    ro 0x20_4000 [(0x20, 68), (8, 3), (4, 2)] ]

/-- A Source Table word (03 Table 3.3). -/
def srcRow (w mask : Nat) : RegRow := rwr (0x41_0000 + 4 * w) [(64, 4096)] mask .img

/-- A LINK word (10 Table 10.2); entry 0 is reserved. -/
def linkRow (w mask : Nat) : RegRow := rwr (0x47_0080 + 4 * w) [(0x80, 1023)] mask .img

/-- Words of a parameter shadow (04 Table 4.4). -/
def psRow (off n mask : Nat) : RegRow := rwr (0x50_0000 + off) [(0x800, 4096), (4, n)] mask .any

/-- Table 18.18. -/
def rowsEph : List RegRow :=
  [ ro 0x40_0000, ro 0x40_0008 [(4, 2)], ro 0x40_0010, rwr 0x40_0020 [] 0x1_FFFF .any, w1 0x40_0028 [(4, 2)] m32,
    ro 0x40_0080 [(4, 2)], ro 0x40_0100 [(4, 6)], w1 0x40_0140 [] 0x3F, ro 0x40_0144, rwr 0x40_0148 [] m32 .any m32,
    rwr 0x40_014C [] 0x107 .any, ⟨0x40_0200, [(4, 144)], 0x13F, 0, 0, .img, some (2, 0x13F), 0⟩, ro 0x40_0500 [(4, 64)],
    srcRow 0 0x0FFF_7FFF, srcRow 1 m32, srcRow 2 0x01FF_FFFF, srcRow 3 m32, srcRow 4 m32, srcRow 5 0x8000_000F,
    srcRow 6 0x0F0F_FFFF, srcRow 7 m32, srcRow 8 m32, srcRow 9 m32, srcRow 10 0xFFFF_7FFF, ro 0x41_002C [(64, 4096), (4, 5)],
    rwr 0x45_0000 [(0x20, 4096), (4, 3)] m32 .img, rwr 0x45_000C [(0x20, 4096)] 0x1FFF .img, ro 0x45_0010 [(0x20, 4096), (4, 4)],
    linkRow 0 0x3FFF_FF0F, linkRow 1 0xFFFF, linkRow 2 m32, linkRow 3 m32, ro 0x47_0090 [(0x80, 1023), (4, 4)],
    rwr 0x47_00A0 [(0x80, 1023), (4, 16)] m32 .img, ro 0x47_00E0 [(0x80, 1023), (4, 8)],
    rwr 0x49_0000 [(0x80, 64)] 0xFFF .img, rwr 0x49_0004 [(0x80, 64)] 0x3FF .img, ro 0x49_0008 [(0x80, 64), (4, 14)],
    rwr 0x49_0040 [(0x80, 64), (4, 16)] m32 .img,
    rwr 0x4A_0000 [(0x10, 256)] 0x3FF .img, ro 0x4A_0004 [(0x10, 256), (4, 3)], ro 0x4B_0010 [(0x10, 1023), (4, 3)],
    psRow 0 1 m32, ro 0x50_0004 [(0x800, 4096), (4, 15)], psRow 0x40 4 0x1F, psRow 0x50 1 0x11F, ro 0x50_0054 [(0x800, 4096), (4, 3)],
    psRow 0x60 16 0xFF_FFFF, psRow 0xA0 4 0xFF_FFFF, psRow 0xB0 4 0xFF_FFFF, psRow 0xC0 4 0xFF_FFFF, psRow 0xD0 4 m32,
    ro 0x50_00E0 [(0x800, 4096), (4, 8)], psRow 0x100 64 m32, psRow 0x200 64 m32, psRow 0x300 1 0x3F, psRow 0x304 63 m32,
    ro 0x50_0400 [(0x800, 4096), (4, 256)] ]
/-- Table 18.19. -/
def rowsCore : List RegRow :=
  let d := [(0x1_0000, 144)]
  let b := 0x100_0000
  [ ro b d, ro (b + 4) d, rwr (b + 0x10) (d ++ [(4, 4)]) 0x7F01 .img, rwr (b + 0x20) (d ++ [(4, 4)]) 0x0FFF_07FF .img,
    rwr (b + 0x30) (d ++ [(4, 4)]) 0x3F_FFFF .img, rwr (b + 0x40) d 3 .img 3, ro (b + 0x44) d, ro (b + 0x48) d,
    ⟨b + 0x4C, d, 0, 0, 0xFFFF_3FFF, .any, none, 0⟩, ro (b + 0x80) (d ++ [(4, 10)]), ro (b + 0xC0) (d ++ [(4, 4)]),
    w1 (b + 0xE0) d 0xF, ro (b + 0xE4) d, rwr (b + 0xE8) d m32 .any m32, rwr (b + 0xEC) d 0x103 .any,
    ro (b + 0x100) (d ++ [(0x20, 16), (4, 5)]), ro (b + 0x300) (d ++ [(4, 4)]), w1 (b + 0x310) d 0xF, ro (b + 0x314) d,
    rwr (b + 0x318) d m32 .any m32, rwr (b + 0x31C) d 0x103 .any, ro (b + 0x320) (d ++ [(4, 7)]),
    ro (b + 0xF00) (d ++ [(4, 7)]) ]
def rowsPagemap : List RegRow := [ rwr 0x200_0000 [(8, 4194304), (4, 2)] m32 .any ]

end Sys2Proof.Machine
end

