-- ==== Sys2Proof/Machine/State.lean ====
section
/-! DEFINITION. The state of the device: plain data, holding all that the spec gives the machine (INVENTORY.md, State),
the queue of waiting commands, and the reasons a step can stop. -/

namespace Sys2Proof.Machine

/-! ## Outputs -/

/-- The interfaces of Table 2.1 (02 R34): 1S-1S-1S at 50 MHz, 1S-4S-4S at 100 MHz, 8D-8D-8D at 200 MHz. -/
inductive NvmMode where
  | single | quad | octal
  deriving DecidableEq, Repr

/-- What the block puts on its pins, buses and links. A record only: nothing in the block reads it back. -/
inductive Out where
  /-- Data answered to a register or memory read on a path (the address, the word). -/
  | readWord (path : Nat) (addr : Nat) (value : Word)
  /-- Bytes answered to a BAR2 or debug read; `ep` is the poison bit of the completion (14 R368). -/
  | readBytes (path : Nat) (addr : Nat) (data : List Byte) (ep : Bool)
  /-- A completion with Unsupported Request (12 R316, R318). -/
  | unsupported (addr : Nat)
  /-- A configuration completion: `none` is Request Retry Status (02 R40), `some` the data. -/
  | cfgReply (data : Option Nat)
  /-- The list of capabilities ends without the one asked for (12 R311). -/
  | cfgAbsent (id : Nat)
  /-- A memory write posted to the host: address, bytes, and its No Snoop and Relaxed Ordering attributes (12 R321). -/
  | hostWrite (addr : Nat) (data : List Byte) (noSnoop relaxed : Bool)
  /-- A memory read sent to the host: tag, address, length, and its No Snoop attribute (12 R321). -/
  | hostRead (tag addr len : Nat) (noSnoop : Bool)
  /-- The MSI-X message of a vector: the address and data of its table entry (12 R320). -/
  | msix (vector addr data : Nat)
  /-- An In-Band Interrupt of the MGMT target with its payload byte (17 R442). -/
  | mgmtIbi (payload : Nat)
  /-- Bytes answered on the MGMT bus (17 R439, R440). -/
  | mgmtData (data : List Byte)
  /-- The MGMT target NACKs (17 R439). -/
  | mgmtNack
  /-- A VDD_CORE target or a read-back request on AVSBus (16 R411). -/
  | avsTarget (mv : Nat)
  | avsRead
  /-- The reset pulse on XSPI_RST_N before the NVM is read (19 R471). -/
  | xspiReset
  /-- A command to the NVM in 1S-1S-1S at 25 MHz: 0x66 and 0x99 of the software reset pair, 0x5A for SFDP (02 R36). -/
  | nvmCommand (code : Nat)
  /-- The enable sequence of 8D-8D-8D (02 R36). -/
  | nvmOctal
  /-- A read of the NVM: the interface, the read command and its dummy cycles, the address and the length (02 R36, Table 2.1). -/
  | nvmRead (mode : NvmMode) (code dummy addr len : Nat)
  /-- An edge of FSYNC_OUT (03 R99): the output and its level. -/
  | fsync (output : Nat) (level : Bool)
  /-- A frame on a sensor bus (03 R95): port, target address, direction, bytes written. -/
  | sensorBus (port : Nat) (command : List Word)
  /-- ACK or NACK of a sensor's request on the bus (03 R94, R97). -/
  | sensorAck (port : Nat) (ack : Bool)
  /-- A packet sent by a transmit port: port, virtual channel, data type, payload; the header ECC on D-PHY, the CRC of a long
  packet, and whether the lanes are scrambled (09 R240 to R245). -/
  | txPacket (port vc dt : Nat) (payload : List Byte) (ecc crc : Option Nat) (scramble : Bool)
  /-- The lanes of a transmit port leave high-impedance for LP-11, with a continuous or non-continuous clock (09 R240, R246). -/
  | txLanes (port : Nat) (continuous : Bool)
  /-- A deskew of a transmit port, initial or periodic (09 R240). -/
  | txDeskew (port : Nat) (periodic : Bool)
  /-- A fuse word sent to be programmed (17 R429). -/
  | fuseBurn (word value : Nat)
  /-- Data shifted out of TDO (17 R435 to R437): length in bits and value. -/
  | tdo (bits value : Nat)
  deriving DecidableEq, Repr

/-! ## Start-up and image load (02) -/

/-- BOOT_STATUS.STATE (Table 2.10). -/
inductive Phase where
  | clocks | memInit | header | pushWait | loading | armedWait | running | failed | recoveryWait | rearming | heldNoXo
  deriving DecidableEq, Repr

/-- Straps as latched at reset release (R33). -/
structure Straps where
  bootSrc : Nat
  xtalDly : Nat
  mgmtAddr : Nat
  deriving DecidableEq, Repr

/-- The fields of an accepted image header that later steps use (Table 2.3). -/
structure Header where
  advanceSvn : Bool
  svn : Nat
  length : Nat
  buildId : Nat
  keySlot : Nat
  aesSlot : Nat
  deriving DecidableEq, Repr

/-- A WAIT record in progress (R51), with the polls made at ticks. -/
structure WaitRec where
  addr : Nat
  mask : Nat
  value : Nat
  timeout : Nat
  ticks : Nat
  deriving DecidableEq, Repr

/-- An address range of one of the MEM_LOAD spaces, in device-memory addresses, end exclusive (R56). -/
structure Range where
  lo : Nat
  hi : Nat
  deriving DecidableEq, Repr

/-- An image load in progress, after its header passed (R46 to R54). -/
structure Load where
  hdr : Header
  /-- index of the next record, or of the WAIT or DELAY in progress, the first being 1 -/
  index : Nat
  /-- image byte offset of that record -/
  offset : Nat
  /-- hash the next record must have -/
  expect : Nat
  wait : Option WaitRec
  /-- the instant a DELAY ends -/
  delay : Option Nat
  /-- a LOCK record has been seen, and the bits gathered -/
  seenLock : Bool
  lockBits : Nat
  /-- ranges that ENC MEM_LOADs of this load need -/
  ranges : List Range
  /-- old values of the registers the image has written (R59 action 4) -/
  saved : List (Nat × Word)
  /-- the copy of the AES key in the decryption engine (17 R430), with its slot -/
  key : Nat
  deriving DecidableEq, Repr

/-- A failed load whose zeroing is not yet complete (R59). -/
structure FailedLoad where
  saved : List (Nat × Word)
  deriving DecidableEq, Repr

/-- The steps of a re-arm (R63). -/
inductive RearmStep where
  /-- frames drain (step 2) -/
  | drain
  /-- transmit ports finish their lines (step 3) -/
  | ports
  /-- memories and protected ranges are zeroed (step 4) -/
  | zero
  /-- waiting for PUSH_GO, or for the header of the new image -/
  | image
  deriving DecidableEq, Repr

/-- A re-arm in progress. -/
structure Rearm where
  since : Nat
  abort : Bool
  step : RearmStep
  /-- source of the new image, encoded as BOOT_SRC -/
  src : Nat
  deriving DecidableEq, Repr

/-- How the NVM is read (02 R36): the interface, the read command with its dummy cycles, and the density that SFDP reported, 0
if none. -/
structure Nvm where
  mode : NvmMode
  code : Nat
  dummy : Nat
  density : Nat
  deriving DecidableEq, Repr

/-- Start-up and load state (02). -/
structure Boot where
  phase : Phase
  straps : Straps
  /-- instant of reset release or of the re-arm request -/
  since : Nat
  rcRunning : Bool
  sensed : Bool
  vddSettled : Bool
  ampAt : Option Nat
  countAt : Option Nat
  xoStable : Bool
  memDone : Bool
  /-- PCIe configuration requests are answered with RRS (R40) -/
  rrs : Bool
  /-- BOOT_STATUS.SRC, SLOT, XSPI_FALLBACK, ATTEMPTS -/
  src : Nat
  slot : Nat
  fallback : Bool
  nvm : Nvm
  attempts : Nat
  /-- BOOT_ERR -/
  errCause : Nat
  errSlot : Nat
  errRecord : Nat
  svn : Nat
  build : Nat
  loadBytes : Nat
  loadTime : Nat
  armCheck : Nat
  /-- PUSH_GO has been accepted and the staged header is to be read -/
  pushed : Bool
  load : Option Load
  failed : Option FailedLoad
  rearm : Option Rearm
  /-- the load that failed was of a re-arm (R65), so that the straps' source is tried next -/
  wasRearm : Bool
  /-- protected ranges in effect (R56) and those of the retention area (16 R419) -/
  ranges : List Range
  retention : Option Range
  /-- GLOBAL.LOCK_STATE -/
  locks : Nat
  /-- the profile in effect (18 Table 18.3) -/
  profile : Nat
  deriving DecidableEq, Repr

/-! ## Clocks (15) -/

/-- Clock state. -/
structure Clk where
  ampOk : Bool
  onRc : Bool
  xoOk : Bool
  rcFault : Bool
  /-- lock detectors, one bit per PLL -/
  locked : Nat
  /-- PLLs that lost lock and are being retried (R398) -/
  lost : Nat
  /-- islands held at a clean boundary, and since when -/
  held : Nat
  heldSince : List (Nat × Nat)
  /-- a switchover is in progress (R393): step 3 done, waiting for relock -/
  switching : Option Nat
  /-- instant of the last unrequested loss of lock within the 20 µs of Table 15.3, and of the last record, per PLL -/
  lastUnlock : List (Nat × Nat)
  monLast : Nat
  monMin : Nat
  monMax : Nat
  monAny : Bool
  /-- PLL_CFG writes made during a switchover, applied after it (Table 15.3) -/
  heldCfg : List (Nat × Word)
  /-- GATE_RUN as it took effect at the last step 14 (R404) -/
  gateRun : Word
  deriving DecidableEq, Repr

/-! ## Power (16) -/

/-- Power states and what a transition is doing. -/
inductive PState where
  | run | sleep | deep
  deriving DecidableEq, Repr

/-- A transition in progress (Tables 16.5 and 16.6): target, next step, request time. -/
structure Transition where
  target : PState
  wake : Bool
  step : Nat
  since : Nat
  deriving DecidableEq, Repr

/-- Power, supply and temperature state. -/
structure Pwr where
  state : PState
  trans : Option Transition
  /-- AVSBus: target now, consecutive failures, read-back, ERR and IN_CONTROL -/
  avsFails : Nat
  avsMv : Nat
  avsAmp : Nat
  avsErr : Bool
  inControl : Bool
  /-- the VDD_CORE target in mV (R410, 19 R469) -/
  target : Nat
  /-- rails in a dip now -/
  dips : Nat
  /-- instant of the last SUPPLY_WARN record per rail -/
  lastWarn : List (Nat × Nat)
  /-- lowest voltage since the last read, per rail -/
  monMin : List (Nat × Nat)
  monEvent : Nat
  therm : List (Nat × Int)
  thermBits : Nat
  /-- VBAT has been seen below 1,800 mV since reset -/
  vbatLow : Bool
  /-- compute dies powered, one bit each -/
  dies : Nat
  /-- the compute dies are power-gated, their state saved (16 Table 16.5 step 5) -/
  saved : Bool
  deriving DecidableEq, Repr

/-- The always-on domain (16 R424, R416): supply, reset-cause latch and the SUPPLY_RESET latch. -/
structure Aon where
  powered : Bool
  onVbat : Bool
  /-- causes seen since the last reset release -/
  causes : Nat
  /-- RESET_CAUSE as latched at reset release -/
  cause : Nat
  /-- rail and Chronograph time of a supply reset -/
  supply : Option (Nat × Nat)
  deriving DecidableEq, Repr

/-! ## Security, JTAG, MGMT and the Chronograph (17) -/

/-- A queued or running fuse programming request. -/
structure FuseReq where
  word : Nat
  value : Nat
  deriving DecidableEq, Repr

/-- Fuses 0 to 127, the programming engine and debug state. -/
structure Sec where
  fuses : List (Nat × Word)
  queue : List FuseReq
  busy : Option FuseReq
  result : Nat
  /-- a counter advance of R57 is due: the target value -/
  svnGoal : Option Nat
  debugEn : Bool
  debugUsed : Bool
  /-- a DBG_ACCESS has come since reset: only the first sets USED (R437) -/
  debugSeen : Bool
  deriving DecidableEq, Repr

/-- JTAG instructions (R435, R437). -/
inductive JtagInstr where
  | bypass | idcode | samplePreload | extest | clamp | highz | dbgAccess
  deriving DecidableEq, Repr

/-- MGMT target state (R439 to R442). -/
structure Mgmt where
  dynAddr : Option Nat
  i3c : Bool
  err : Bool
  addr : Option Nat
  /-- end of the last write transaction -/
  addrAt : Nat
  events : Bool
  /-- the last IBI that went out -/
  ibi : Option Nat
  /-- the instant at which the last IBI went out -/
  ibiAt : Nat
  mwl : Nat
  mrl : Nat
  deriving DecidableEq, Repr

/-- PPS_STATE (Table 17.7). -/
inductive PpsState where
  | off | acquiring | locked | holdover
  deriving DecidableEq, Repr

/-- The Chronograph (R443 to R451). -/
structure Chrono where
  /-- the count in units of 2^-64 s: 48.32 bits and 32 further fraction bits -/
  count : Nat
  /-- what the fine source has still to carry, below 10^18 -/
  carry : Nat
  /-- the source now driving the count -/
  fine : Bool
  valid : Bool
  xtStopped : Bool
  xtRuns : Bool
  stepped : Bool
  lost : Bool
  pps : PpsState
  /-- TIMEBASE instant of the last accepted edge -/
  lastEdge : Option Nat
  /-- successive accepted edges within 1 µs -/
  good : Nat
  ppsLast : Nat
  ppsErr : Int
  freq : Int
  slew : Int
  slewLeft : Nat
  setPending : Bool
  setSec : Nat
  setFrac : Nat
  cfg : Word
  deriving DecidableEq, Repr

/-- What one path has latched (R12, R447): high words by address, and SEC with the calendar. -/
structure Latches where
  high : List (Nat × Word)
  cal : Option (Nat × Word × Word)
  deriving DecidableEq, Repr

/-! ## Faults (14) -/

/-- A fault record (Table 14.2). -/
structure FaultRec where
  seq : Nat
  cls : Nat
  action : Nat
  unit : Nat
  time : Nat
  detail : Nat
  frame : Option (Nat × Nat)
  flags : Nat
  deriving DecidableEq, Repr

/-- The fault aggregator and the Occulter's record of fences. -/
structure Flt where
  nmiPending : Bool
  seq : Nat
  nmiSeq : Nat
  /-- the log, by SEQ mod 256 -/
  log : List (Nat × FaultRec)
  /-- fenced parties: whole cores, and contexts (4 × core + context) -/
  cores : List Nat
  ctxs : List Nat
  /-- dies fenced -/
  dies : List Nat
  hist : List Nat
  /-- instant of the last ECC_CE record per unit -/
  lastCe : List (Nat × Nat)
  /-- instant of the last RESIDUE or ECC_UE record per core -/
  lastErr : List (Nat × Nat)
  /-- instant of the last LOCK_VIOLATION record per origin -/
  lastLock : List (Nat × Nat)
  scrubPasses : Nat
  scrubAt : Nat
  deriving DecidableEq, Repr

/-! ## Pace (01) -/

/-- What one core has counted (R24 to R27). -/
structure PaceCore where
  /-- cycles completed in the microsecond now running, and whether the core waited in it -/
  usCycles : Nat
  waited : Bool
  /-- the probe runs since this instant -/
  probe : Bool
  /-- the instant the core last had work -/
  lastWork : Nat
  cyc : Nat
  us : Nat
  done : Nat
  /-- cycles and clean microseconds of the window now running -/
  winCyc : Nat
  winUs : Nat
  last : Nat
  margin : Nat
  valid : Bool
  deriving DecidableEq, Repr

/-- Pace counters of the cores and the measurement window. -/
structure Pace where
  cores : List (Nat × PaceCore)
  /-- the window in progress is discarded (R27) -/
  discard : Bool
  /-- the tick count at which a window last closed -/
  closedAt : Nat
  winSeq : Nat
  /-- (margin, core, valid) per die and per partition -/
  die : List (Nat × (Nat × Nat × Bool))
  part : List (Nat × (Nat × Nat × Bool))
  deriving DecidableEq, Repr

/-! ## Ingress, sensor control and triggers (03) -/

/-- A frame from the acceptance of its start until its Frame Record is final (R85 to R92, 09 R239). -/
structure Flight where
  source : Nat
  frame : Nat
  /-- a frame of a SOURCE channel (12 R337) -/
  host : Bool
  /-- device or host address of the plate, and whether the plate is in host memory -/
  plate : Nat
  plateHost : Bool
  epoch : Nat
  /-- slot of the parameter history bound to the frame (04 R124), the bytes of that slot as they have been read for the frame,
  and whether the read met an error (04 R125) -/
  psSlot : Nat
  set : List Byte
  setBad : Bool
  sofNs : Nat
  eofNs : Nat
  /-- TIMEBASE instant of the start, and E_k -/
  startAt : Nat
  expectAt : Nat
  flags : Nat
  crcErrs : Nat
  eccCorr : Nat
  eccUncorr : Nat
  linesDropped : Nat
  /-- lines arrived and complete lines, per exposure -/
  arrived : List (Nat × Nat)
  complete : List (Nat × Nat)
  /-- lines dropped or cut, as (exposure, line): they are never in the plate (R82, R83) -/
  lost : List (Nat × Nat)
  /-- stripes of which a line was read from its line buffer in error, so that zeros stand in the plate (14 R368) -/
  zeroed : List Nat
  /-- exposures whose Frame End has come -/
  ends : List Nat
  embBytes : Nat
  /-- packets that R80 dropped -/
  overrun : Nat
  csiFn : Nat
  lateUs : Nat
  isOpen : Bool
  /-- line writes in flight, and whether the Frame Record has been written -/
  writes : Nat
  recWritten : Bool
  /-- stripes released, taken by the front stage, and passed by each member of the last stage as (context, stripe) (10 R267,
  09 R239) -/
  released : Nat
  taken : Nat
  passes : List (Nat × Nat)
  /-- output accepted by the destinations: instant of the last, and outputs outstanding -/
  lastOut : Option Nat
  outsLeft : Nat
  /-- taps of the frame not yet complete, Frame Ends still to be sent -/
  tapsLeft : List Nat
  endsLeft : List Nat
  /-- late segments: count and (stage, stripe, link) of the first (10 R271) -/
  lateSegs : Nat
  lateFirst : Option (Nat × Nat × Nat)
  stopped : Bool
  /-- sensor writes of the activated set: still to be queued, outstanding, late (04 R126, R127) -/
  sensorDue : Bool
  /-- the latest instant at which a condition of 09 R239 other than an output's acceptance advanced (10 R270) -/
  metAt : Nat
  deriving DecidableEq, Repr

/-- A packet admitted to a line buffer and not yet written out (R80, R81), or a Frame Record to be written (R89). -/
structure IngWrite where
  id : Nat
  source : Nat
  frame : Nat
  addr : Nat
  toHost : Bool
  data : List Byte
  /-- bytes already issued, and bytes accepted -/
  issued : Nat
  accepted : Nat
  isLine : Bool
  /-- a line: its exposure and number, and whether it was complete -/
  exposure : Nat
  line : Nat
  full : Bool
  /-- the Frame Record: its bytes are those of the moment of issue -/
  isRec : Bool
  deriving DecidableEq, Repr

/-- A receive port or gang, by lead port. -/
structure IngPort where
  used : Nat
  peak : Nat
  queue : List IngWrite
  /-- number of the next write -/
  nextW : Nat
  /-- everything up to the end of the HS burst is discarded (R71) -/
  discard : Bool
  deskew : Bool
  lastHs : Option Nat
  bytes : Nat
  deriving DecidableEq, Repr

/-- What is being discarded of a source, until when (R85, R93). -/
inductive Dropping where
  /-- after a second Frame Start in a slot: packets count in UNMATCHED -/
  | extra
  /-- a frame discarded as a whole: its packets count nowhere -/
  | silent
  deriving DecidableEq, Repr

/-- Frame-slot progress of one source. -/
structure SlotState where
  /-- next slot whose window has not ended -/
  nextSlot : Nat
  /-- last slot that opened a frame -/
  opened : Option Nat
  /-- next frame number when PERIOD is 0 -/
  nextFree : Nat
  dropping : Option Dropping
  deriving DecidableEq, Repr

/-- Ingress state. -/
structure Ingress where
  ports : List (Nat × IngPort)
  slots : List (Nat × SlotState)
  deriving DecidableEq, Repr

/-- An IBI waiting in SC_IBI (R97). -/
structure IbiEntry where
  addr : Nat
  payload : List Byte
  deriving DecidableEq, Repr

/-- A sensor write of a parameter set waiting in a queue (04 R126): its source, the key of the set, and its words. -/
structure SensorWrite where
  source : Nat
  set : Nat
  words : List Word
  deriving DecidableEq, Repr

/-- One I3C controller port (R94 to R97). -/
structure SctlPort where
  /-- command and data words, each with the parameter-set write it belongs to (04 R126) -/
  queue : List (Word × Option (Nat × Nat))
  rdata : List Word
  ibis : List IbiEntry
  ibiLast : Nat
  /-- the command on the bus: its words, and the parameter-set write it belongs to -/
  busy : Option (List Word)
  busySet : Option (Nat × Nat)
  /-- the last command kept the bus (NO_STOP) -/
  kept : Bool
  writes : List SensorWrite
  nack : Bool
  dropped : Bool
  nacks : Nat
  ibiLost : Nat
  /-- addresses that have been assigned; `anyAssigned` after SETAASA -/
  assigned : List Nat
  anyAssigned : Bool
  deriving DecidableEq, Repr

/-- An FSYNC output (R99): settings in effect, the schedule and the pulse numbers given out. -/
structure FsOut where
  ctrl : Word
  period : Nat
  phase : Nat
  /-- the schedule runs from this T0; `none` before the first T0 -/
  t0 : Option Nat
  /-- index of the next pulse in FREE -/
  nextFree : Nat
  /-- scheduled pulses in GENLOCK, oldest first: (number, time) -/
  sched : List (Nat × Nat)
  /-- times of the pulses scheduled so far in GENLOCK, by number -/
  times : List (Nat × Nat)
  nextNum : Nat
  /-- pulses of the schedule before this T0 that were due and not yet emitted, and the FS_CTRL they follow -/
  old : List Nat
  oldCtrl : Word
  deriving DecidableEq, Repr

/-- Genlock and the FSYNC outputs. -/
structure Trig where
  outs : List (Nat × FsOut)
  lastEdge : Option Nat
  /-- P_G and the period before it -/
  period : Nat
  periods : Nat
  locked : Bool
  lost : Bool
  /-- the first lock since step 14 has been seen -/
  everLocked : Bool
  /-- virtual edge that holdover continues from -/
  holdEdge : Option Nat
  edgeNs : Nat
  /-- the edges that scheduled pulses in the last 2 s, real or virtual, each with its period: a new T0 takes up from them the
  pulses still to come -/
  edges : List (Nat × Nat)
  deriving DecidableEq, Repr

/-! ## Links, work counters and the Ephemeris (10) -/

/-- A stripe tag (Table 10.3). -/
structure Tag where
  source : Nat
  fold : Bool
  epoch : Nat
  frame : Nat
  stripe : Nat
  lines : Nat
  last : Bool
  poisoned : Bool
  late : Bool
  seg : Nat
  deriving DecidableEq, Repr

/-- The record of a completed tile of a CLAIMED link, held until its slot is reused (R264). -/
structure Completion where
  tag : Tag
  tile : Nat
  crc : Nat
  slot : Nat
  deriving DecidableEq, Repr

/-- A stripe that a CLAIMED link carries: its tag, LIMIT and the slot of tile 0, counted without wrap (R263). -/
structure LinkStripe where
  tag : Tag
  limit : Nat
  base : Nat
  deriving DecidableEq, Repr

/-- The semaphore pair, tags and completion records of one link. Counts are modulo 65,536. -/
structure LinkS where
  tallyFull : Nat
  tallyEmpty : List (Nat × Nat)
  waitFull : List (Nat × Nat)
  waitEmpty : Nat
  returned : Nat
  /-- slots published since step 14, without wrap; the next slot to publish is this modulo SLOTS -/
  published : Nat
  /-- slots admitted per consumer, without wrap -/
  admitted : List (Nat × Nat)
  tags : List (Nat × Tag)
  fenced : Bool
  stripes : List LinkStripe
  done : List Completion
  deriving DecidableEq, Repr

/-- A work counter (R261). -/
structure WorkCtr where
  next : Nat
  limit : Nat
  seq : Nat
  cur : Option Tag
  prev : Option Tag
  deriving DecidableEq, Repr

/-- A released stripe (R267, R268), in the order it will be taken. -/
structure Rel where
  rel : Nat
  dl0 : Nat
  source : Nat
  frame : Nat
  stripe : Nat
  lines : Nat
  deriving DecidableEq, Repr

/-- The Ephemeris. -/
structure Eph where
  t0 : Option Nat
  t0Ns : Nat
  queue : List Rel
  /-- releases that wait for a free entry -/
  stalled : List Rel
  /-- frames whose start of frame comes after this instant are not released (02 R63, 16 R420) -/
  cutoff : Option Nat
  /-- PART_STALL bits, and per partition the instant its waiting began or last advanced -/
  stall : Nat
  waitSince : List (Nat × Nat)
  /-- PART_STATUS class per partition: 0 unused, 1 elastic, 2 real-time, 3 in-line -/
  cls : List (Nat × Nat)
  deriving DecidableEq, Repr

/-! ## Host link and DMA (12) -/

/-- The writable part of the configuration space (R311, Table 12.1): the fields the device acts on. -/
structure CfgSpace where
  memEn : Bool
  busMaster : Bool
  msixEn : Bool
  funcMask : Bool
  relaxed : Bool
  /-- Max_Payload_Size and Max_Read_Request_Size codes: bytes are 128 × 2^code -/
  mps : Nat
  mrrs : Nat
  /-- Completion Timeout range and disable bit -/
  ctoRange : Nat
  ctoDisable : Bool
  bar0 : Nat
  bar2 : Nat
  d3 : Bool
  /-- ASPM control of the Link Control register -/
  aspm : Nat
  /-- a poisoned TLP has been received: its bit of the AER Uncorrectable Error Status (R318) -/
  poisonedTlp : Bool
  deriving DecidableEq, Repr

/-- An outbound non-posted request (R321, R322), and the request it carries. -/
structure HostRead where
  tag : Nat
  addr : Nat
  len : Nat
  request : Nat
  since : Nat
  deriving DecidableEq, Repr

/-- The endpoint. -/
structure HostS where
  linkUp : Bool
  gen : Nat
  width : Nat
  cfg : CfgSpace
  /-- vectors whose pending bit is set -/
  pend : List Nat
  /-- messages of vectors that wait for posted writes issued before them, as (number of the next request, vector) (R320) -/
  msgs : List (Nat × Nat)
  nextTag : Nat
  reads : List HostRead
  deriving DecidableEq, Repr

/-- Channel states (Table 12.11); OFF follows from CH_CFG.KIND. -/
inductive ChState where
  | stopped | running | stopping | halted | aborting
  deriving DecidableEq, Repr

/-- A descriptor fetched and not started: its ring index and its 32 bytes. -/
structure Desc where
  index : Nat
  raw : List Byte
  deriving DecidableEq, Repr

/-- A descriptor started: a sequence of copies `src → dst` of one length each (one for XFER, one per line for SOURCE).
Positions count bytes over all copies in order. -/
structure Job where
  id : Nat
  index : Nat
  tag : Nat
  irq : Bool
  /-- device-to-host -/
  toHost : Bool
  /-- bytes per copy and the copies as (source, destination) -/
  unit : Nat
  copies : List (Nat × Nat)
  /-- bytes requested from the source; data arrived, as (position, bytes); bytes issued to and accepted by the
  destination -/
  asked : Nat
  got : List (Nat × List Byte)
  sent : Nat
  accepted : Nat
  /-- a failing beat: position, cause, address, device side -/
  fail : Option (Nat × Nat × Nat × Bool)
  cancelled : Option Nat
  /-- the descriptor failed check 1 of R327 -/
  refused : Bool
  /-- SOURCE: the source that the descriptor names, and source and frame number once accepted -/
  src : Nat
  frame : Option (Nat × Nat)
  deriving DecidableEq, Repr

/-- A DMA channel (R323 to R343). -/
structure Chan where
  state : ChState
  ci : Nat
  pi : Nat
  seq : Nat
  /-- next ring index to fetch, and whether a fetch is outstanding -/
  fetchAt : Nat
  fetching : Bool
  fetched : List Desc
  jobs : List Job
  nextJob : Nat
  bucket : Nat
  /-- CAUSE of the records that an abort writes -/
  abortCause : Nat
  errAddr : Nat
  errInfo : Nat
  deriving DecidableEq, Repr

/-! ## Streams, regulators and the Page Map (11) -/

/-- A page cursor (R299): the entries held, with the pages they belong to, and which must still be read. -/
structure Cursor where
  curPage : Option Nat
  cur : Nat
  nxtPage : Option Nat
  nxt : Nat
  wantCur : Bool
  wantNxt : Bool
  /-- a FLUSH is to be honoured before the next issue -/
  flush : Bool
  deriving DecidableEq, Repr

/-- A stream slot: its activation and what it last saved (R281 to R306, Table 11.12). The bytes themselves stand in the
queue ring in the vault. -/
structure Strm where
  active : Bool
  write : Bool
  halted : Bool
  cancelling : Bool
  /-- issues nothing further after a mismatch of its B8 tensor (13 R347) -/
  stopped : Bool
  epoch : Nat
  desc : Nat
  space : Nat
  unit : Nat
  run : Nat
  base : Int
  starts : List Nat
  strides : List Int
  counts : List Nat
  qbase : Nat
  qsize : Nat
  rate : Nat
  report : Bool
  total : Nat
  /-- bytes whose granules have been issued, in traversal order -/
  issued : Nat
  /-- read: granules arrived out of order, as (position, length); bytes arrived with all predecessors; bytes released -/
  arrived : List (Nat × Nat)
  delivered : Nat
  released : Nat
  /-- write: bytes given to the ring, bytes accepted -/
  filled : Nat
  accepted : Nat
  /-- STATUS and CAUSE of the completion record -/
  status : Nat
  cause : Nat
  saved : List Nat
  roff : Nat
  cursor : Cursor
  /-- the stripe served: source, frame, stripe -/
  stripe : Option Tag
  /-- context it serves, and the format and channels of its tensor -/
  ctx : Nat
  fmt : Nat
  chans : Nat
  /-- shared front stage: dl(j, 0) -/
  deadline : Nat
  /-- columns of the tensor; of a fold whose guards are dropped, the sources and output columns of its members -/
  w : Nat
  members : List (Nat × Nat)
  deriving DecidableEq, Repr

/-- Who issues a request. -/
inductive Client where
  | strm (requester slot : Nat)
  | ingress (port : Nat)
  | tap (index : Nat)
  | dma (chan : Nat)
  /-- an access of another unit, by its number -/
  | aux (id : Nat)
  deriving DecidableEq, Repr

/-- What an access of a unit that is no stream and no writer serves. -/
inductive AuxUse where
  /-- a line of the in-line front stage's stagger region: port, frame, exposure, line (04 R113) -/
  | stagger (port frame exposure line : Nat)
  /-- the set bound to a frame, from the parameter history (04 R125) -/
  | history (source frame : Nat)
  /-- a descriptor fetch of a DMA channel: first ring index and count (12 R325) -/
  | descs (chan index count : Nat)
  /-- a completion or NOTIFY record of a DMA channel, and the vector raised after it (12 R329, R341) -/
  | record (chan vector : Nat)
  /-- the Frame Record that a SOURCE channel writes (12 R340) -/
  | frameRecord (chan source frame : Nat)
  /-- a BAR2 access, or one of the JTAG port under the rules of BAR2 (12 R318, 17 R437): its path and offset -/
  | bar2 (path offset : Nat)
  deriving DecidableEq, Repr

/-- Such an access: device memory, or host memory at a PCIe address; bytes issued, and bytes accepted or arrived. -/
structure Aux where
  id : Nat
  use : AuxUse
  write : Bool
  host : Bool
  noSnoop : Bool
  addr : Nat
  len : Nat
  data : List Byte
  got : List (Nat × List Byte)
  issued : Nat
  done : Nat
  /-- a read that met an error: the cause of a bus error, 0 for another error -/
  bad : Option Nat
  deriving DecidableEq, Repr

/-- A request in flight: a granule read or write, or a Page Map entry read (R287, R295). -/
structure Req where
  id : Nat
  client : Client
  /-- stream: its request epoch and position; DMA: job and position; a writer: its write and position -/
  epoch : Nat
  pos : Nat
  write : Bool
  /-- path 0 stack 0, 1 stack 1, 2 host link, 3 die pools, 4 vaults, 5 transmit queues -/
  path : Nat
  addr : Nat
  len : Nat
  data : List Byte
  reg : Nat
  readTags : Nat
  writeTags : Nat
  /-- No Snoop and Relaxed Ordering of a request to the host (12 R321) -/
  noSnoop : Bool
  relaxed : Bool
  /-- an entry read: `some true` for CUR, `some false` for NXT -/
  entry : Option Bool
  since : Nat
  deriving DecidableEq, Repr

/-- A page-fault entry (Table 11.11, PF_INFO). -/
structure PfEntry where
  requester : Nat
  slot : Nat
  epoch : Nat
  write : Bool
  kind : Nat
  addr : Nat
  deriving DecidableEq, Repr

/-- The memory system. -/
structure MemS where
  strms : List (Nat × Strm)
  reqs : List Req
  /-- accesses of other units, oldest first -/
  aux : List Aux
  nextId : Nat
  /-- bytes in the bucket of regulator r on path p, by 3r + p -/
  buckets : List (Nat × Nat)
  pf : List PfEntry
  pfAddr : Nat
  scqSeq : Nat
  /-- channels that offer a beat: (path, channel) (12 R331) -/
  offers : List (Nat × Nat)
  /-- stacks: ready, in self-refresh (one bit each) -/
  ready : Nat
  selfRefresh : Nat
  deriving DecidableEq, Repr
/-! ## Front stage, taps and parameter sets (04) -/

/-- A stripe in the shared front stage (R106, R107): the stream slot of requester 144 that reads it, and the segments
already published. -/
structure FrontStripe where
  rel : Rel
  /-- slot of requester 144 and the epoch of its activation -/
  slot : Nat
  epoch : Nat
  published : Nat
  poisoned : Bool
  /-- the fold member whose lines are being read, the lines of it whose taps have been produced, and what has been read, by
  (member, position) -/
  member : Nat
  tapped : Nat
  got : List ((Nat × Nat) × List Byte)
  deriving DecidableEq, Repr

/-- The in-line front stage (R105, R113, R116): the frame it has open, the lines held of each exposure as (exposure, line),
the lines that are in the stagger region and those of them being fetched back, the lines of the last exposure that still lie
in the port's line buffer as (line, bytes), the stripe and the segment it offers next, the lines whose taps have been produced, and the width of
a segment for this frame. -/
structure InlineS where
  frame : Nat
  lines : List ((Nat × Nat) × List Byte)
  away : List (Nat × Nat)
  fetching : List (Nat × Nat)
  held : List (Nat × Nat)
  /-- lines whose fetch from the stagger region met an error -/
  bad : List Nat
  stripe : Nat
  seg : Nat
  tapped : Nat
  segW : Nat
  closed : Bool
  deriving DecidableEq, Repr

/-- One tap of one frame (R117 to R121): its buffer and shape, lines written, dropped and produced, the lines in production
as (line, bytes left), and whether the last line has been produced. -/
structure TapRun where
  source : Nat
  tap : Nat
  frame : Nat
  buf : Nat
  toHost : Bool
  exposures : Nat
  width : Nat
  height : Nat
  chans : Nat
  pitch : Nat
  total : Nat
  lines : Nat
  dropped : Nat
  produced : Nat
  openLines : List (Nat × Nat)
  finished : Bool
  deriving DecidableEq, Repr

/-- A line waiting in a tap queue, or the two writes of the tap header (R121): `part` is 0 for a line, 1 for the fields, 2 for
SEQ and HDR_CRC. -/
structure TapWrite where
  id : Nat
  part : Nat
  source : Nat
  tap : Nat
  frame : Nat
  line : Nat
  addr : Nat
  toHost : Bool
  data : List Byte
  /-- bytes of the line not yet produced -/
  left : Nat
  issued : Nat
  accepted : Nat
  deriving DecidableEq, Repr

/-- The front stage and the tap queues: queue 0 of the shared instance, 1 of the in-line instance, 2 + n of core n. -/
structure Front where
  busy : Option FrontStripe
  parked : List FrontStripe
  resumed : List FrontStripe
  inl : List InlineS
  tapQ : List (Nat × List TapWrite)
  /-- number of the next tap write -/
  nextTap : Nat
  taps : List TapRun
  /-- SEQ of the descriptors, by 8 × chain + tap -/
  tapSeq : List (Nat × Nat)
  /-- page cursors of tap writers, by queue, and of ingress writers, by 200 + port -/
  cursors : List (Nat × Cursor)
  deriving DecidableEq, Repr

/-- A pending parameter set (R123). -/
structure PendSet where
  bytes : List Byte
  target : Nat
  next : Bool
  epoch : Nat
  deriving DecidableEq, Repr

/-- An activated set (R124 to R127): its apply frame, history slot, the frame it was activated at, its first bound frame,
the sensor writes not yet ended, and a PARAM_LATE mark that waits for that first bound frame. -/
structure SetBind where
  /-- distinguishes the sets of a source since reset -/
  key : Nat
  epoch : Nat
  slot : Nat
  apply : Nat
  at0 : Nat
  first : Option Nat
  writesLeft : Nat
  /-- a Frame Start of a later frame has come -/
  later : Bool
  late : Bool
  deriving DecidableEq, Repr

/-- The parameter sets of one source. -/
structure ParamSet where
  pend : Option PendSet
  lastEpoch : Nat
  activeEpoch : Nat
  active : List Byte
  lastLate : Bool
  refused : Bool
  bound : Nat
  /-- sets activated since step 14, the set of step 14 counted -/
  count : Nat
  /-- key of the next set -/
  nextKey : Nat
  binds : List SetBind
  deriving DecidableEq, Repr

/-! ## Orlet cores (05 to 09, 13) -/

/-- Where a tensor lies, resolved at issue (R181, R182, R253): its space and reference, the byte offset of element 0, the
ring origin of a link buffer, and the stream slot of a SPACE 3 tensor. -/
structure Place where
  space : Nat
  ref : Nat
  base : Int
  origin : Nat
  slot : Nat
  /-- request epoch of the activation in that slot (11 R303) -/
  epoch : Nat
  deriving DecidableEq, Repr

/-- A tensor resolved at issue. -/
structure Tens where
  fmt : Nat
  pl : Place
  /-- place of the scale tensor of a B8 tensor -/
  scale : Place
  w : Nat
  h : Nat
  c : Nat
  e : Nat
  pix : Nat
  line : Nat
  plane : Nat
  deriving DecidableEq, Repr

/-- A drain-chain operation (Table 9.3). -/
structure DOp where
  op : Nat
  sh : Nat
  c0 : Nat
  nc : Nat
  tab : Nat
  src : Nat
  pidx : Nat
  imm : Nat
  deriving DecidableEq, Repr

/-- A data macro-instruction as issued: its 64 bytes, its operands and the quantities that issue fixed (R185 to R190). -/
structure Op where
  ctx : Nat
  index : Nat
  raw : List Byte
  tin : Tens
  aux : Option Tens
  tout : Tens
  vt : Option Tens
  pubT : Option Tens
  n : Nat
  k : Nat
  s : Nat
  g : Nat
  p : Nat
  gpp : Nat
  passes : Nat
  banks : Nat
  accBase : Nat
  /-- frame line of the stripe's first input line, and the frame's height at this input (R201) -/
  y0 : Nat
  hf : Nat
  /-- the same of the output -/
  outY0 : Nat
  outHf : Nat
  /-- fold members as (first column, width) at the input, and their sources -/
  fold : List (Nat × Nat)
  members : List Nat
  chain : List DOp
  tap : Nat
  /-- drain parameter words and the hyperparameter words of UPDATE -/
  dp : List Nat
  hyper : List Nat
  stripe : Option Tag
  deriving DecidableEq, Repr

/-- The walk of an array instruction (R191). -/
structure Walk where
  op : Op
  b : Nat
  pass : Nat
  ks : Nat
  slot : Nat
  m : Nat
  /-- presentation within a position, and further cycles that only fill the K-step or feed segments -/
  sub : Nat
  idle : Nat
  /-- cycles of the load of the first K-step still to come -/
  loadLeft : Nat
  loaded : Bool
  /-- lines of the present K-step already gathered, and loads of B8 operands held for it -/
  fed : Nat
  /-- groups of the unit that are finished ahead of the walk, by slot -/
  skip : List Nat
  /-- lanes that saturated, and lanes that selected a saturated shifted entry, per slot -/
  sats : List (Nat × Nat)
  gsats : List (Nat × Nat)
  /-- input lines held in the segment registers (R212), as (channel, plane, line) with their samples -/
  segs : List ((Nat × Nat × Nat) × List Int)
  /-- blocks of B8 operands taken in order, and the unit, K-step and position at which a mismatch was found (13 R347) -/
  blocks : Nat
  skew : Option (Nat × Nat × Nat)
  /-- code blocks of BWD_WGT taken from a stream, by the K-step's place in the walk: they cannot be read again -/
  took : List (Nat × List Byte)
  /-- the one tile of a replay -/
  replay : Bool
  /-- the tile's saturated lanes have been counted (05 R136, 13 R349) -/
  counted : Bool
  /-- rows of the tile that had been drained when it failed in the drain (14 R370, R371) -/
  drained : Nat
  /-- what the tile's failure would report -/
  cause : Option (Nat × Nat)
  deriving DecidableEq, Repr

/-- A closed residue interval that waits for its comparison (R147, R148). -/
structure Closed where
  walk : Walk
  tileEnd : Bool
  pres : List Nat
  ares : List Nat
  excl : Nat
  deriving DecidableEq, Repr

/-- A tile, or the elements of an instruction without tiles, that the drain works on (R145, R193). -/
structure DrainJob where
  op : Op
  b : Nat
  gr : Nat
  row0 : Nat
  rows : Nat
  next : Nat
  /-- the drain writes 0 in place of every output (R371) -/
  zero : Bool
  /-- a tile of the array -/
  tile : Bool
  blocks : Nat
  skew : Bool
  lfsr : Nat
  /-- UPDATE in PUBLISH mode: the master weights read so far (13 R360) -/
  got : List Int
  deriving DecidableEq, Repr

/-- Which K-step of which data macro-instruction the shadow registers hold (05 R142). -/
structure KPlace where
  ctx : Nat
  index : Nat
  b : Nat
  pass : Nat
  ks : Nat
  slot : Nat
  deriving DecidableEq, Repr

/-- A LOOP in progress (R179). -/
structure LoopS where
  idx : Nat
  first : Nat
  last : Nat
  left : Nat
  deriving DecidableEq, Repr

/-- A claim held by a context (R262, R264): its counter, stripe, tile and SEQ, and the CRC of what the drain has written
into the link since; tile 0xFFFF is an exhausted answer. -/
structure ClaimS where
  counter : Nat
  tag : Tag
  tile : Nat
  seq : Nat
  crc : Nat
  deriving DecidableEq, Repr

/-- A claim sent to its counter and not answered. -/
structure ClaimAsk where
  counter : Nat
  tag : Tag
  limit : Nat
  deriving DecidableEq, Repr

/-- A program context (R151, R152). -/
structure Ctx where
  /-- indices of the next macro-instruction to fetch and to issue -/
  fetchAt : Nat
  queue : List (Nat × List Byte)
  /-- macro-instructions fetched since step 14: the next one takes the entry of the context's share of the macro queue that this
  count names, modulo the share's size (05 R131, R151) -/
  fetched : Nat
  ended : Bool
  idx : List Nat
  loops : List LoopS
  stripe : Option Tag
  /-- segments published for the stripe, and marks of the segments admitted for it -/
  segs : Nat
  poisoned : Bool
  late : Bool
  /-- the LAST segment of the stripe has been admitted -/
  lastSeen : Bool
  /-- first slot admitted by the latest wait on each link's FULL -/
  origins : List (Nat × Nat)
  claim : Option ClaimS
  asked : Option ClaimAsk
  /-- the head instruction is a wait or claim that is not ready -/
  blocked : Bool
  /-- an UPDATE waits to publish, with the master weights it publishes (R362) -/
  publish : Option (Op × List Int)
  deriving DecidableEq, Repr

/-- An Orlet core. -/
structure CoreS where
  ctxs : List (Nat × Ctx)
  cur : Nat
  walks : List (Nat × Walk)
  /-- per context, the instruction issued during the last tile of its walk (07 R177, R189) -/
  queued : List (Nat × Op)
  /-- the replay of a failed tile (R370) -/
  replay : Option Walk
  /-- code and codebook registers, the shadow registers, and the K-step whose codes those hold -/
  codes : List Byte
  cbs : List Byte
  codesNext : List Byte
  cbsNext : List Byte
  ahead : Option KPlace
  /-- residue sums of the open interval, lanes excluded, and when it opened -/
  pres : List Nat
  ares : List Nat
  excl : Nat
  openAt : Option Nat
  closed : List Closed
  drain : List DrainJob
  /-- per output slot: B8 blocks given so far and the mantissas of the bundle in progress (06 R172) -/
  bundles : List (Nat × (Nat × List Byte))
  /-- the core waits on an operand, a semaphore, a counter or the drain -/
  waiting : Bool
  deriving DecidableEq, Repr

/-- A signal on its way to a link semaphore (R254): FULL or EMPTY, the signalling member, the count, and the instruction
that sent it. -/
structure Signal where
  link : Nat
  full : Bool
  member : Nat
  count : Nat
  endStripe : Bool
  index : Nat
  tag : Option Tag
  seg : Nat
  claim : Option ClaimS
  deriving DecidableEq, Repr

/-! ## Transmit ports (09) -/

/-- A packet waiting at a transmit port: its stream and frame, and what it is. -/
inductive TxKind where
  | frameStart | frameEnd | embedded | line (data : List Byte)
  deriving DecidableEq, Repr

structure TxPkt where
  strm : Nat
  frame : Nat
  kind : TxKind
  deriving DecidableEq, Repr

/-- Output taken into a line queue: stream, frame, line, byte offset in the line, the bytes, and the format and channels of
the output tensor. -/
structure TxSeg where
  strm : Nat
  frame : Nat
  line : Nat
  off : Nat
  data : List Byte
  fmt : Nat
  chans : Nat
  deriving DecidableEq, Repr

/-- A stream of a port: the frame being sent as (frame, T_SOF, next slot counted from slot −1), its filled segments, and
the bytes taken so far, by (frame, stripe). -/
structure TxStream where
  cur : Option (Nat × Nat × Nat)
  fills : Nat
  taken : List ((Nat × Nat) × Nat)
  deriving DecidableEq, Repr

/-- A transmit port. -/
structure TxPort where
  queue : List TxSeg
  bytes : Nat
  peak : Nat
  strms : List (Nat × TxStream)
  sending : Option TxPkt
  waiting : List TxPkt
  /-- stopped by a re-arm or a power-state entry; holds LP-11 or high impedance -/
  stopped : Bool
  lanesOn : Bool
  deriving DecidableEq, Repr


/-! ## Stops -/

/-- Why a step is a fault. -/
inductive Fault where
  /-- ARM, with clock registers that break the limits of 15 R400, whose consequences the spec leaves undefined. Safe: the
  model stops where the device may do anything. -/
  | clockLimitBroken
  deriving DecidableEq, Repr

/-- Why a step is refused. -/
inductive Refusal where
  /-- A command without a meaning in this model, by its mnemonic. Safe. -/
  | notModelled (mnemonic : String)
  deriving DecidableEq, Repr

/-! ## The state -/

/-- The state of the device: every piece of state the spec names (INVENTORY.md), the queue of waiting commands, the
record of outputs, and the counter that numbers free values. -/
structure State where
  /-- TIMEBASE instant in ns -/
  now : Nat
  /-- microsecond ticks since reset release (01 R27) -/
  usTicks : Nat
  /-- commands waiting, first in first out -/
  pending : List Instr
  /-- what has been put out, newest first -/
  outbox : List Out
  /-- numbers the free values; the model's own -/
  freeCount : Nat
  /-- device memory: HBM, vaults, pools and core-local memories; an unlisted byte is 0 -/
  mem : List Host.Cell
  /-- 8-byte words whose check pattern reports an uncorrectable error at every read (14 R368) -/
  poison : List Nat
  /-- registers that differ from their reset value -/
  regs : List (Nat × Word)
  /-- latches of the paths MGMT, DBG_ACCESS and BAR0 -/
  latMgmt : Latches
  latDbg : Latches
  latBar0 : Latches
  /-- the device is held in reset -/
  held : Bool
  pinResetN : Bool
  pinPwrgood : Bool
  /-- the rail monitors or the thermal limit hold the device in reset (16 R416, R417) -/
  railHold : Bool
  jtag : JtagInstr
  boot : Boot
  clk : Clk
  pwr : Pwr
  aon : Aon
  sec : Sec
  mgmt : Mgmt
  chr : Chrono
  flt : Flt
  pace : Pace
  ing : Ingress
  sctl : List (Nat × SctlPort)
  trig : Trig
  front : Front
  par : List (Nat × ParamSet)
  flights : List Flight
  cores : List (Nat × CoreS)
  links : List (Nat × LinkS)
  /-- signals on their way, oldest first -/
  signals : List Signal
  wctrs : List (Nat × WorkCtr)
  eph : Eph
  mems : MemS
  host : HostS
  dma : List (Nat × Chan)
  tx : List (Nat × TxPort)
  deriving DecidableEq, Repr

/-! ## Reset -/

/-- Straps before any are latched: 0 (notes/assumptions/7.md). -/
def Straps.zero : Straps := { bootSrc := 0, xtalDly := 0, mgmtAddr := 0 }

/-- Before SFDP has been read: the interface of the reset pair. -/
def Nvm.init : Nvm := { mode := .single, code := 0x13, dummy := 0, density := 0 }

/-- Start-up state at reset release: STATE is CLOCKS (02 Table 2.10). -/
def Boot.init (st : Straps) (since : Nat) : Boot :=
  { phase := .clocks, straps := st, since, rcRunning := false, sensed := false, vddSettled := false, ampAt := none
    countAt := none, xoStable := false, memDone := false, rrs := false, src := 0, slot := 0, fallback := false
    nvm := Nvm.init, attempts := 0, errCause := 0, errSlot := 0, errRecord := 0, svn := 0, build := 0, loadBytes := 0, loadTime := 0
    armCheck := 0, pushed := false, load := none, failed := none, rearm := none, wasRearm := false, ranges := []
    retention := none, locks := 0, profile := 0 }

/-- Clocks at reset: nothing locked (15 Table 15.7). -/
def Clk.init : Clk :=
  { ampOk := false, onRc := false, xoOk := false, rcFault := false, locked := 0, lost := 0, held := 0, heldSince := [], switching := none
    lastUnlock := [], monLast := 0, monMin := 0, monMax := 0, monAny := false, heldCfg := [], gateRun := 0x3FF }

/-- Power at reset: RUN, the boot target of 800 mV (19 R469), all compute dies on their way up. -/
def Pwr.init : Pwr :=
  { state := .run, trans := none, avsFails := 0, avsMv := 0, avsAmp := 0, avsErr := false, inControl := false
    target := 800, dips := 0, lastWarn := [], monMin := [], monEvent := 0, therm := [], thermBits := 0, vbatLow := false, dies := 0
    saved := false }

/-- A fuse array that has never been programmed: every integrator fuse is blank (19 R480). -/
def Sec.blank : Sec :=
  { fuses := [], queue := [], busy := none, result := 0, svnGoal := none, debugEn := true, debugUsed := false, debugSeen := false }

/-- The MGMT target at reset: static address, events not enabled until ENEC, lengths 4,096 (17 R439, R442). -/
def Mgmt.init : Mgmt :=
  { dynAddr := none, i3c := false, err := false, addr := none, addrAt := 0, events := false, ibi := none, ibiAt := 0
    mwl := 4096, mrl := 4096 }

/-- The Chronograph when the always-on domain is first powered (17 R451). -/
def Chrono.init : Chrono :=
  { count := 0, carry := 0, fine := false, valid := false, xtStopped := false, xtRuns := true, stepped := false
    lost := false, pps := .off, lastEdge := none, good := 0, ppsLast := 0, ppsErr := 0, freq := 0, slew := 0, slewLeft := 0
    setPending := false, setSec := 0, setFrac := 0, cfg := 0x03E8_0000#32 }

/-- No latch is held. -/
def Latches.init : Latches := { high := [], cal := none }

/-- No fault since reset (14 R377, R384). -/
def Flt.init : Flt :=
  { nmiPending := false, seq := 0, nmiSeq := 0, log := [], cores := [], ctxs := [], dies := [], hist := [], lastCe := []
    lastErr := [], lastLock := [], scrubPasses := 0, scrubAt := 0 }

/-- Pace counters at reset (01 R26). -/
def Pace.init : Pace := { cores := [], discard := false, closedAt := 0, winSeq := 0, die := [], part := [] }

/-- A core that has counted nothing (01 R26). -/
def PaceCore.init : PaceCore :=
  { usCycles := 0, waited := false, probe := false, lastWork := 0, cyc := 0, us := 0, done := 0, winCyc := 0, winUs := 0
    last := 0, margin := 0, valid := false }

/-- Genlock and FSYNC at reset: every output low, no edge seen (03 R99, R100). -/
def Trig.init : Trig :=
  { outs := [], lastEdge := none, period := 0, periods := 0, locked := false, lost := false, everLocked := false
    holdEdge := none, edgeNs := 0, edges := [] }

/-- The timetable has not started (10 R265). -/
def Eph.init : Eph :=
  { t0 := none, t0Ns := 0, queue := [], stalled := [], cutoff := none, stall := 0, waitSince := [], cls := [] }

/-- The configuration space after a fundamental reset (12 R313): the values of the PCI Express specification
(notes/assumptions/12.md). -/
def CfgSpace.init : CfgSpace :=
  { memEn := false, busMaster := false, msixEn := false, funcMask := false, relaxed := true, mps := 0, mrrs := 2
    ctoRange := 0, ctoDisable := false, bar0 := 0, bar2 := 0, d3 := false, aspm := 0, poisonedTlp := false }

/-- The endpoint with its link down. -/
def HostS.init : HostS :=
  { linkUp := false, gen := 0, width := 0, cfg := CfgSpace.init, pend := [], msgs := [], nextTag := 0, reads := [] }

/-- The memory system at reset: nothing active, no stack ready. -/
def MemS.init : MemS :=
  { strms := [], reqs := [], aux := [], nextId := 0, buckets := [], pf := [], pfAddr := 0, scqSeq := 0, offers := [], ready := 0
    selfRefresh := 0 }

/-- A slot that has never held an activation (11 Table 11.12). -/
def Cursor.start : Cursor :=
  { curPage := Option.none, cur := 0, nxtPage := Option.none, nxt := 0, wantCur := false, wantNxt := false, flush := false }
def Strm.init : Strm :=
  { active := false, write := false, halted := false, cancelling := false, stopped := false, epoch := 0, desc := 0, space := 0, unit := 0
    run := 1, base := 0, starts := [], strides := [], counts := [], qbase := 0, qsize := 1, rate := 0, report := false
    total := 0, issued := 0, arrived := [], delivered := 0, released := 0, filled := 0, accepted := 0, status := 0
    cause := 0, saved := [], roff := 0, cursor := Cursor.start, stripe := Option.none, ctx := 0, fmt := 0, chans := 1
    deadline := 0, w := 0, members := [] }

/-- The front stage at reset: nothing in work (04 R129). -/
def Front.init : Front :=
  { busy := none, parked := [], resumed := [], inl := [], tapQ := [], nextTap := 0, taps := [], tapSeq := [], cursors := [] }

/-- A source's parameter sets before step 14 (04 Table 4.4). -/
def ParamSet.init : ParamSet :=
  { pend := none, lastEpoch := 0, activeEpoch := 0, active := [], lastLate := false, refused := false, bound := 0, count := 0
    nextKey := 0, binds := [] }

/-- A context at step 14: at CTX_PROG, index registers 0 (07 R177, R179). -/
def Ctx.init : Ctx :=
  { fetchAt := 0, queue := [], fetched := 0, ended := false, idx := [0, 0, 0, 0], loops := [], stripe := none, segs := 0
    poisoned := false, late := false, lastSeen := false, origins := [], claim := none, asked := none, blocked := false
    publish := none }

/-- A core with nothing in progress. -/
def CoreS.init : CoreS :=
  { ctxs := [], cur := 0, walks := [], queued := [], replay := none, codes := [], cbs := [], codesNext := [], cbsNext := []
    ahead := none, pres := [], ares := [], excl := 0, openAt := none, closed := [], drain := [], bundles := [], waiting := false }

/-- A transmit port at reset: its lanes high-impedance (09 R246). -/
def TxPort.init : TxPort :=
  { queue := [], bytes := 0, peak := 0, strms := [], sending := none, waiting := [], stopped := false, lanesOn := false }
def TxStream.init : TxStream := { cur := none, fills := 0, taken := [] }

/-- A link at step 14: every tally and wait count 0 (10 R255). -/
def LinkS.init : LinkS :=
  { tallyFull := 0, tallyEmpty := [], waitFull := [], waitEmpty := 0, returned := 0, published := 0, admitted := []
    tags := [], fenced := false, stripes := [], done := [] }

/-- A work counter at step 14: it has served no stripe (10 R261). -/
def WorkCtr.init : WorkCtr := { next := 0, limit := 0, seq := 0, cur := none, prev := none }

/-- A DMA channel at reset: STOPPED, indices 0 (12 R323). -/
def Chan.init : Chan :=
  { state := .stopped, ci := 0, pi := 0, seq := 0, fetchAt := 0, fetching := false, fetched := [], jobs := [], nextJob := 0
    bucket := 0, abortCause := 0, errAddr := 0, errInfo := 0 }

/-- The always-on domain after its first power-up: POWER_ON is the cause that was latched (16 Table 16.10). -/
def Aon.init : Aon := { powered := true, onVbat := false, causes := 0, cause := 1, supply := none }

/-- The machine right after reset release: every register at the reset value of Tables 18.5 to 18.20. -/
def State.reset : State :=
  { now := 0, usTicks := 0, pending := [], outbox := [], freeCount := 0, mem := [], poison := [], regs := []
    latMgmt := Latches.init, latDbg := Latches.init, latBar0 := Latches.init, held := false, pinResetN := true
    pinPwrgood := true, railHold := false, jtag := .idcode, boot := Boot.init Straps.zero 0, clk := Clk.init
    pwr := Pwr.init, aon := Aon.init, sec := Sec.blank, mgmt := Mgmt.init, chr := Chrono.init, flt := Flt.init
    pace := Pace.init, ing := { ports := [], slots := [] }, sctl := [], trig := Trig.init, front := Front.init, par := []
    flights := [], cores := [], links := [], signals := [], wctrs := [], eph := Eph.init, mems := MemS.init, host := HostS.init
    dma := [], tx := [] }

end Sys2Proof.Machine
end

