-- ==== Sys2Proof/Machine/Ops.lean ====
section
/-! DEFINITION. The named operations that every chapter uses: time and the Chronograph's count, outputs, free values,
the register store, and the bytes of device memory. -/

namespace Sys2Proof.Machine

/-! ## Outputs and free values -/

/-- Put something out. -/
def State.out (s : State) (o : Out) : State := { s with outbox := o :: s.outbox }

/-- Put several things out, in order. -/
def State.outs (s : State) (os : List Out) : State := { s with outbox := os.reverse ++ s.outbox }

/-- The next free word, and the state with the counter advanced (notes/assumptions/5.md). -/
def State.freeW (s : State) : Word × State := (Config.freeWord s.freeCount, { s with freeCount := s.freeCount + 1 })
def State.freeN (s : State) : Nat × State := (Config.freeNat s.freeCount, { s with freeCount := s.freeCount + 1 })

/-- `k` further free values are used up. -/
def State.useFree (s : State) (k : Nat) : State := { s with freeCount := s.freeCount + k }

/-! ## The register store -/

/-- The rows of the block that holds an address (Table 18.1). -/
def rowsAt (a : Nat) : List RegRow :=
  if a < 0x1_0000 then rowsGlobal
  else if a < 0x2_0000 then rowsClock
  else if a < 0x3_0000 then rowsPower
  else if a < 0x4_0000 then rowsBoot
  else if a < 0x5_0000 then rowsSecurity
  else if a < 0x6_0000 then rowsChrono
  else if a < 0x8_0000 then rowsFault
  else if a < 0xA_0000 then rowsIngress
  else if a < 0xC_0000 then rowsSensctl
  else if a < 0xE_0000 then rowsFront
  else if a < 0x10_0000 then rowsTransmit
  else if a < 0x20_0000 then rowsHost
  else if a < 0x40_0000 then rowsMemory
  else if a < 0x100_0000 then rowsEph
  else if a < 0x190_0000 then rowsCore
  else if a < 0x200_0000 then []
  else rowsPagemap

/-- The row that lists an address; `none` for a reserved address (R452). -/
def rowOf (a : Nat) : Option RegRow := (rowsAt a).find? (·.covers a)

/-- The reset value of an address (Tables 18.5 to 18.20). -/
def resetVal (a : Nat) : Word :=
  match rowOf a with
  | some r => wd r.reset
  | none => 0

/-- The stored value of a register. -/
def State.rget (s : State) (a : Nat) : Word :=
  match tfind s.regs a with
  | some w => w
  | none => resetVal a

/-- Store a register value, whatever its access code. -/
def State.rput (s : State) (a : Nat) (w : Word) : State := { s with regs := tput s.regs a w }

/-- A 64-bit value held in two registers, low word first. -/
def State.rget64 (s : State) (a : Nat) : Nat := (s.rget a).toNat + (s.rget (a + 4)).toNat * 2 ^ 32

/-- Store a 64-bit value in two registers; wraps at 64 bits (14 Table 14.6). -/
def State.rput64 (s : State) (a v : Nat) : State :=
  (s.rput a (wd v)).rput (a + 4) (wd (v / 2 ^ 32))

/-- Set bits of a register. -/
def State.rset (s : State) (a m : Nat) : State := s.rput a (wd ((s.rget a).toNat ||| m))

/-- Stored registers in an address interval are forgotten, so that they read their reset value. -/
def State.rforget (s : State) (lo hi : Nat) : State :=
  { s with regs := s.regs.filter (fun e => decide (e.1 < lo) || decide (hi ≤ e.1)) }

/-! ## Time and the Chronograph's count (17 R443, R444) -/

/-- Units of the count in one second, and one TIMEBASE nanosecond's share of it. -/
def chronoUnit : Nat := 2 ^ 64
def chronoDen : Nat := 10 ^ 18

/-- `n` TIMEBASE cycles on the fine source at `ppb`: the exact sum, its fraction below one unit carried. -/
def Chrono.addFine (c : Chrono) (n : Nat) (ppb : Int) : Chrono :=
  let x := n * chronoUnit * ((10 ^ 9 : Int) + ppb).toNat + c.carry
  { c with count := c.count + x / chronoDen, carry := x % chronoDen }

/-- `n` TIMEBASE cycles on the fine source: SLEW acts for the cycles it has left, then ends (R448). -/
def Chrono.fineRun (c : Chrono) (n : Nat) : Chrono :=
  let k := min n c.slewLeft
  let c1 := c.addFine k (c.freq + c.slew)
  let left := c.slewLeft - k
  let c2 := { c1 with slewLeft := left, slew := if left = 0 then 0 else c.slew }
  c2.addFine (n - k) c.freq

/-- Edges of the 32.768 kHz oscillator up to an instant. -/
def xt32Edges (t : Nat) : Nat := t * 32768 / 10 ^ 9

/-- The first edge of the 32.768 kHz oscillator after an instant. -/
def xt32Next (t : Nat) : Nat := ceilDiv ((xt32Edges t + 1) * 10 ^ 9) 32768

/-- The coarse source from t0 to t1: every edge adds 131,072 fraction units of 2^-32 s. -/
def Chrono.coarseRun (c : Chrono) (t0 t1 : Nat) : Chrono :=
  if c.xtRuns then { c with count := c.count + (xt32Edges t1 - xt32Edges t0) * 131072 * 2 ^ 32 } else c

/-- One source from t0 to t1. -/
def Chrono.run (c : Chrono) (t0 t1 : Nat) : Chrono := if c.fine then c.fineRun (t1 - t0) else c.coarseRun t0 t1

/-- PPS_MODE: 1 MEASURE, 2 LOCK; 3 is treated as OFF (Table 17.8). -/
def Chrono.mode (c : Chrono) : Nat := if fld c.cfg 1 2 = 3 then 0 else fld c.cfg 1 2

/-- PPS is served: a mode other than OFF on the fine source (R448). -/
def Chrono.served (c : Chrono) : Bool := c.mode != 0 && c.fine

/-- Bring PPS_STATE in line with the mode and the source: OFF when PPS is not served, ACQUIRING when it leaves OFF. -/
def Chrono.settle (c : Chrono) : Chrono :=
  if !c.served then { c with pps := .off, lastEdge := none, good := 0 }
  else if c.pps = .off then { c with pps := .acquiring, lastEdge := none, good := 0 } else c

/-- The count from t0 to t1 when `want` says whether the fine source is wanted: a change of source takes effect at an
edge of the 32.768 kHz oscillator (R444), at once while that oscillator is stopped. -/
def Chrono.advance (c : Chrono) (want : Bool) (t0 t1 : Nat) : Chrono :=
  if want = c.fine then c.run t0 t1
  else if c.xtRuns then
    let e := xt32Next t0
    if t1 < e then c.run t0 t1 else (({ c.run t0 e with fine := want } : Chrono).settle).run e t1
  else (({ c with fine := want } : Chrono).settle).run t0 t1

/-- TIMEBASE runs: PLL 7 is locked, its island is not held, and the device is out of reset (15 R396). -/
def State.timebaseRuns (s : State) : Bool :=
  !s.held && nbit s.clk.locked 7 && !nbit s.clk.held 7 && s.aon.powered && !s.aon.onVbat &&
    match s.pwr.state with
    | .run => true
    | .sleep => bit (s.rget 0x1_0404) 7
    | .deep => bit (s.rget 0x1_0408) 7

/-- The fine source is wanted: TIMEBASE runs and the device has not switched to the RC oscillator (R444). -/
def State.fineWanted (s : State) : Bool := s.timebaseRuns && !s.clk.onRc

/-- Advance to an instant; an instant in the past leaves the time as it is. -/
def State.advance (s : State) (t : Nat) : State :=
  if t ≤ s.now then s
  else
    { s with
      now := t
      chr := if s.aon.powered then s.chr.advance s.fineWanted s.now t else s.chr }

/-- Seconds and fraction of the count. -/
def Chrono.sec (c : Chrono) : Nat := c.count / 2 ^ 64 % 2 ^ 48
def Chrono.frac (c : Chrono) : Nat := c.count / 2 ^ 32 % 2 ^ 32

/-- The nanosecond view (R443). -/
def Chrono.ns (c : Chrono) : Nat := (c.sec * 10 ^ 9 + c.frac * 10 ^ 9 / 2 ^ 32) % 2 ^ 64

/-- The time that records carry. -/
def State.ns (s : State) : Nat := s.chr.ns

/-! ## State predicates -/

/-- Out of reset. -/
def State.live (s : State) : Bool := !s.held

/-- Step 14 has been passed and an image runs or is being replaced (R9). -/
def State.past14 (s : State) : Bool :=
  match s.boot.phase with
  | .armedWait | .running | .rearming => true
  | _ => false

/-- STATE is RUNNING. -/
def State.running (s : State) : Bool := s.boot.phase == .running

/-- STATE's code (Table 2.10). -/
def Phase.code : Phase → Nat
  | .clocks => 1 | .memInit => 2 | .header => 3 | .pushWait => 4 | .loading => 5 | .armedWait => 6 | .running => 7
  | .failed => 8 | .recoveryWait => 9 | .rearming => 10 | .heldNoXo => 11

/-- PWR_STATE.STATE's code (16 Table 16.8). -/
def PState.code : PState → Nat
  | .run => 0 | .sleep => 1 | .deep => 2

/-- A core is fenced whole (14 R381). -/
def State.coreFenced (s : State) (n : Nat) : Bool := s.flt.cores.contains n

/-- A context is fenced, alone or with its core. -/
def State.ctxFenced (s : State) (n c : Nat) : Bool := s.coreFenced n || s.flt.ctxs.contains (4 * n + c)

/-- The compute die of a core is powered. -/
def State.diePowered (s : State) (d : Nat) : Bool := nbit s.pwr.dies d

/-! ## Device memory -/

/-- One byte of memory; an unlisted byte is 0 (notes/assumptions/6.md). -/
def memByte (m : List Host.Cell) (a : Nat) : Byte := tget 0 m a

/-- The `n` bytes from an address. -/
def memRead (m : List Host.Cell) (a n : Nat) : List Byte := (List.range n).map (fun i => memByte m (a + i))

/-- The cells of a run of bytes, zeros left out. -/
def runCells : Nat → List Byte → List Host.Cell
  | _, [] => []
  | a, b :: bs => if b = 0 then runCells (a + 1) bs else (a, b) :: runCells (a + 1) bs

/-- Memory with a run of bytes stored. -/
def memWrite (m : List Host.Cell) (a : Nat) (bs : List Byte) : List Host.Cell :=
  m.filter (fun c => decide (c.1 < a)) ++ (runCells a bs ++ m.filter (fun c => decide (a + bs.length ≤ c.1)))

/-- Memory with an interval [lo, hi) zeroed. -/
def memZero (m : List Host.Cell) (lo hi : Nat) : List Host.Cell :=
  m.filter (fun c => decide (c.1 < lo) || decide (hi ≤ c.1))

/-- Memory with the cells of [src, src + n) also at [dst, dst + n), which they replace. -/
def memCopy (m : List Host.Cell) (src dst n : Nat) : List Host.Cell :=
  m.filter (fun c => decide (c.1 < dst))
    ++ (((m.filter (fun c => decide (src ≤ c.1) && decide (c.1 < src + n))).map (fun c => (c.1 - src + dst, c.2)))
    ++ m.filter (fun c => decide (dst + n ≤ c.1)))

/-- Store a run of bytes, whatever check patterns the words hold. -/
def State.poke (s : State) (a : Nat) (bs : List Byte) : State := { s with mem := memWrite s.mem a bs }

/-- All of device memory at 0, no word in error. -/
def State.wipe (s : State) : State := { s with mem := [], poison := [] }

/-- The canonical form: addresses strictly rising, no zero byte listed. -/
def memWf : List Host.Cell → Bool
  | [] => true
  | [(_, b)] => b != 0
  | (a, b) :: (c, d) :: r => b != 0 && decide (a < c) && memWf ((c, d) :: r)

end Sys2Proof.Machine
end

