-- ==== Sys2Proof/Machine/Flags.lean ====
section
/-! DEFINITION. Status that is computed: counters with their saturation and threshold events (14 R385, R386), event bits
and pins (14 R378, R379), MSI-X messages (12 R320), In-Band Interrupts (17 R442), and fault records (14 R375 to R380). -/

namespace Sys2Proof.Machine

/-! ## The host link as a sink (12 R321, R322) -/

/-- Requests of the device can reach the host: the link is up, the function is in D0 and may master the bus. -/
def State.hostUp (s : State) : Bool := s.host.linkUp && s.host.cfg.busMaster && !s.host.cfg.d3

/-- HL_STATUS.DEGRADED: the trained link is below HL_CFG (12 R314). -/
def State.degraded (s : State) : Bool :=
  let c := s.rget 0x10_0004
  s.host.linkUp && (decide (s.host.gen < fld c 0 3) || decide (s.host.width < fld c 3 5))

/-! ## Event status (14 R379, Table 14.9) -/

/-- EVT_STATUS: the collected bits FAULT, THRESH and GENLOCK, and the bits PACE, STALL and DEGRADED that follow their
sources. -/
def State.evtStatus (s : State) : Nat :=
  nfld (s.rget 0x6_0020).toNat 0 1 + 4 * fld (s.rget 0x6_0020) 2 2
    + 2 * b2n (bit (s.rget 0x200) 9 && (fld (s.rget 0x204) 0 2 != 0))
    + 16 * b2n (s.eph.stall != 0 && bit (s.rget 0x40_0020) 16)
    + 32 * b2n (s.degraded && bit (s.rget 0x10_0004) 8)

/-- EVENT_N is low (R379). -/
def State.eventLow (s : State) : Bool := (s.evtStatus &&& (s.rget 0x6_0024).toNat) != 0

/-- ALERT_N is low (R378, 02 R41). -/
def State.alertLow (s : State) : Bool :=
  s.held || s.flt.nmiPending ||
    match s.boot.phase with
    | .running | .armedWait => false
    | .rearming => false
    | _ => true

/-! ## In-Band Interrupts of MGMT (17 R442) -/

/-- An IBI goes out on the bus. -/
def State.putIbi (s : State) (code : Nat) : State :=
  { s.out (.mgmtIbi code) with mgmt := { s.mgmt with ibi := some code, ibiAt := s.now } }

/-- A new cause. An IBI is pending in the instant in which it went out; a new cause replaces a pending one of a higher code, and
is dropped if the pending one's is lower or equal. After that instant it has been acknowledged, unless MGMT_IBI_RETRY tells
otherwise (notes/assumptions/34.md). -/
def State.raiseIbi (s : State) (code : Nat) : State :=
  if !s.mgmt.events || s.held then s
  else
    match s.mgmt.ibi with
    | none => s.putIbi code
    | some c => if s.mgmt.ibiAt = s.now && c ≤ code then s else s.putIbi code

/-- Raise IBI 0x02 when a bit of EVT_STATUS under EVT_MASK has become set since `before`. -/
def State.noteEvt (s : State) (before : Nat) : State :=
  let m := (s.rget 0x6_0024).toNat
  if (s.evtStatus &&& m) &&& ((before &&& m) ^^^ m) != 0 then s.raiseIbi 2 else s

/-- Set a collected bit of EVT_STATUS. -/
def State.setEvt (s : State) (b : Nat) : State := (s.rset 0x6_0020 (2 ^ b)).noteEvt s.evtStatus

/-! ## Counters (14 R385, R386) -/

/-- One increment of a 32-bit error or event counter: it saturates, sets its SAT bit when it reaches or stays at the
limit, and fires the block's threshold event when EN is 1, SEL names it and the new value equals the threshold. -/
def State.bumpAt (s : State) (cnt satReg satBit thr sel selLen idx : Nat) : State :=
  let old := s.rget cnt
  let new := satInc old
  let s1 := s.rput cnt new
  let s2 := if new.toNat = m32 then s1.rset satReg (2 ^ satBit) else s1
  let c := s.rget sel
  if old.toNat < m32 && bit c 8 && fld c 0 selLen == idx && new == s.rget thr then s2.setEvt 2 else s2

/-- Increment by n, one at a time as far as the limit and the threshold can tell. -/
def State.bumpN (f : State → State) : Nat → State → State
  | 0, s => s
  | n + 1, s => State.bumpN f n (f s)

/-- Counter i of receive port n (03 Table 3.11). -/
def State.bumpPort (s : State) (n i : Nat) : State :=
  let b := 0x8_0000 + 0x1000 * n
  s.bumpAt (b + 0x100 + 4 * i) (b + 0x140) i (b + 0x148) (b + 0x14C) 4 i

/-- Counter i of the host link (12 Table 12.13). -/
def State.bumpHost (s : State) (i : Nat) : State :=
  s.bumpAt (0x10_0100 + 4 * i) 0x10_0140 i 0x10_0148 0x10_014C 3 i

/-- Counter i of DMA channel c. -/
def State.bumpChan (s : State) (c i : Nat) : State :=
  let b := 0x10_1000 + 0x100 * c
  s.bumpAt (b + 0x50 + 4 * i) (b + 0x60) i (b + 0x68) (b + 0x6C) 2 i

/-- FCOUNT[c] (14 R387). -/
def State.bumpFault (s : State) (c : Nat) : State :=
  s.bumpAt (0x6_0400 + 4 * c) (0x6_0200 + 4 * (c / 32)) (c % 32) 0x6_0214 0x6_0218 7 c

/-- A 64-bit telemetry counter at an address advances by n; it wraps. -/
def State.bump64 (s : State) (a n : Nat) : State := s.rput64 a ((s.rget64 a + n) % 2 ^ 64)

/-! ## Posted writes and MSI-X (12 R320 to R322) -/

/-- A write to the host with its No Snoop and Relaxed Ordering attributes: sent while the host can be reached, otherwise
discarded and counted. -/
def State.hostWrite (s : State) (a : Nat) (bs : List Byte) (noSnoop relaxed : Bool) : State :=
  if s.hostUp then (s.bump64 0x10_0188 bs.length).out (.hostWrite a bs noSnoop relaxed) else s.bumpHost 3

/-- A posted write to the host issued before request number `id` has not been accepted. -/
def State.hostWritesOut (s : State) (id : Nat) : Bool :=
  s.mems.reqs.any (fun q => q.write && q.path == 2 && decide (q.id < id))

/-- The entry of a vector: address and data of its message, and its Mask bit. -/
def State.msixEntry (s : State) (v : Nat) : Nat × Nat × Bool :=
  let b := 0x10_8000 + 16 * v
  (s.rget64 b, (s.rget (b + 8)).toNat, bit (s.rget (b + 12)) 0)

/-- The message of a vector leaves. -/
def State.putMsix (s : State) (v : Nat) : State :=
  let e := s.msixEntry v
  (s.bump64 0x10_0188 4).out (.msix v e.1 e.2.1)

/-- Send the message of a vector: behind every posted write issued earlier (R320). -/
def State.sendMsix (s : State) (v : Nat) : State :=
  let s1 := { s with host := { s.host with pend := s.host.pend.filter (· != v) } }
  let n := s1.mems.nextId
  if s1.hostWritesOut n then { s1 with host := { s1.host with msgs := s1.host.msgs ++ [(n, v)] } } else s1.putMsix v

/-- Messages that no earlier posted write holds back any longer leave, in order. -/
def State.flushMsgs (s : State) : State :=
  let free (m : Nat × Nat) : Bool := !s.hostWritesOut m.1
  (s.host.msgs.takeWhile free).foldl (fun s m => s.putMsix m.2)
    { s with host := { s.host with msgs := s.host.msgs.dropWhile free } }

/-- Raise a vector; 0xFF is no vector. -/
def State.raiseVec (s : State) (v : Nat) : State :=
  if v = 0xFF then s
  else if !s.hostUp || !s.host.cfg.msixEn then s.bumpHost 2
  else if s.host.cfg.funcMask || (s.msixEntry v).2.2 then
    if s.host.pend.contains v then s else { s with host := { s.host with pend := v :: s.host.pend } }
  else s.sendMsix v

/-- Send what is pending and no longer masked, in vector order. -/
def State.flushMsix (s : State) : State :=
  if !s.hostUp || !s.host.cfg.msixEn || s.host.cfg.funcMask then s
  else (List.range 256).foldl (fun s v => if s.host.pend.contains v && !(s.msixEntry v).2.2 then s.sendMsix v else s) s

/-! ## Fault records (14) -/

/-- Classes whose record drives ALERT_N (Table 14.1), given the action. -/
def classNmi (cls action : Nat) : Bool :=
  match cls with
  | 0x01 | 0x02 | 0x04 | 0x12 | 0x21 | 0x22 | 0x24 | 0x42 | 0x70 | 0x71 => true
  | 0x11 | 0x20 => action != 1
  | _ => false

/-- What is reported to the fault aggregator. -/
structure Report where
  cls : Nat
  action : Nat
  unit : Nat
  detail : Nat
  frame : Option (Nat × Nat) := none
  hasCtx : Bool := false
  replayed : Bool := false
  /-- FENCE_SCOPE: 0 none, 1 context, 2 core, 3 die -/
  scope : Nat := 0
  /-- origin of a LOCK_VIOLATION of 17 R434 -/
  origin : Option Nat := none
  deriving DecidableEq, Repr

/-- The I/O die as a unit (R376). -/
def unitIo : Nat := 0x1008

/-- A unit is fenced: a core fenced whole or on a fenced die, the die of a die fence, or for the issue classes a fenced
context (R377). -/
def State.unitFenced (s : State) (r : Report) : Bool :=
  let kind := r.unit / 0x1000
  if kind = 0 then
    let n := r.unit % 256
    s.coreFenced n ||
      ((r.cls == 0x30 || r.cls == 0x31 || r.cls == 0x32 || r.cls == 0x33) &&
        s.flt.ctxs.contains (4 * n + nfld r.unit 8 2))
  else if kind = 1 then s.flt.dies.contains (r.unit % 16) || (4 ≤ r.unit % 16 && s.flt.dies.contains (r.unit % 16 - 4))
  else false

/-- Less than a millisecond since an instant recorded under a key. -/
def State.withinMs (s : State) (m : List (Nat × Nat)) (k : Nat) : Bool :=
  match tfind m k with
  | some t => decide (s.now < t + 1_000_000)
  | none => false

/-- The record is not written (R377, 17 R434, 15 R398, 16 R415); the second part says whether FCOUNT[0] counts it. -/
def State.suppressed (s : State) (r : Report) : Bool × Bool :=
  if s.unitFenced r then (true, true)
  else if r.cls = 0x10 && s.withinMs s.flt.lastCe r.unit then (true, true)
  else if (match r.origin with
      | some o => s.withinMs s.flt.lastLock o
      | none => false) then (true, true)
  else if r.cls = 0x02 && s.withinMs s.clk.lastUnlock (r.unit % 8) then (true, false)
  else if r.cls = 0x03 && s.withinMs s.pwr.lastWarn (r.unit % 16) then (true, false)
  else (false, false)

/-- Remember the instants that later limits are measured from. -/
def State.noteRecord (s : State) (r : Report) : State :=
  let f := s.flt
  let f1 := if r.cls = 0x10 then { f with lastCe := tput f.lastCe r.unit s.now } else f
  let f2 := if (r.cls = 0x11 || r.cls = 0x20) && r.unit / 0x1000 = 0 then
      { f1 with lastErr := tput f1.lastErr (r.unit % 256) s.now } else f1
  let f3 := match r.origin with
    | some o => { f2 with lastLock := tput f2.lastLock o s.now }
    | none => f2
  let s1 := { s with flt := f3 }
  let s2 := if r.cls = 0x02 then { s1 with clk := { s1.clk with lastUnlock := tput s1.clk.lastUnlock (r.unit % 8) s.now } }
    else s1
  if r.cls = 0x03 then { s2 with pwr := { s2.pwr with lastWarn := tput s2.pwr.lastWarn (r.unit % 16) s.now } } else s2

/-- Write a record with a given time: the log, SEQ, the pins and the vectors (R375, R378 to R380). -/
def State.writeRecord (s : State) (r : Report) (time : Nat) : State :=
  let nmi := classNmi r.cls r.action
  let seq := (s.flt.seq + 1) % 2 ^ 32
  let rec0 : FaultRec :=
    { seq, cls := r.cls, action := r.action, unit := r.unit, time, detail := r.detail % 2 ^ 64, frame := r.frame
      flags := b2n nmi + 2 * b2n r.frame.isSome + 4 * b2n r.replayed + 8 * b2n r.hasCtx + 256 * (r.scope % 4) }
  let s1 := { s with flt := { s.flt with seq, log := tput s.flt.log (seq % 256) rec0 } }
  let s2 := s1.noteRecord r
  let cfg := s.rget 0x6_0010
  if nmi then
    (({ s2 with flt := { s2.flt with nmiPending := true, nmiSeq := seq } }).raiseVec (fld cfg 0 8)).raiseIbi 1
  else if bit (s.rget (0x6_0030 + 4 * (r.cls / 32))) (r.cls % 32) then
    (s2.setEvt 0).raiseVec (fld cfg 8 8)
  else s2

/-- Report a fault: FCOUNT, then a record unless a limit of R377 holds it back. -/
def State.raiseAt (s : State) (r : Report) (time : Nat) : State :=
  let s1 := s.bumpFault r.cls
  match s.suppressed r with
  | (true, true) => s1.bumpFault 0
  | (true, false) => s1
  | (false, _) => s1.writeRecord r time

/-- Report a fault found now. -/
def State.raise (s : State) (r : Report) : State := s.raiseAt r s.ns

/-- The 32 bytes of a record (Table 14.2). -/
def FaultRec.bytes (r : FaultRec) : List Byte :=
  let sf := match r.frame with
    | some (src, fr) => src % 4096 + (fr % 2 ^ 20) * 4096
    | none => 0
  bytesLE 4 r.seq ++ bytesLE 1 r.cls ++ bytesLE 1 r.action ++ bytesLE 2 r.unit ++ bytesLE 8 r.time ++ bytesLE 8 r.detail
    ++ bytesLE 4 sf ++ bytesLE 4 r.flags

/-! ## The Stream Page Map (11 R298) -/

/-- PM_BASE, and the HBM address of the entry of a page (R298). -/
def State.pmEntry (s : State) (page : Nat) : Nat := s.rget64 0x20_0010 + page * 8

/-- An entry lets a read or a write pass (R298, R300): V = 1, bits [11:3] zero, and W = 1 for a write. -/
def entryOk (e : Nat) (write : Bool) : Bool := nbit e 0 && nfld e 3 9 == 0 && (!write || nbit e 1)

/-- The PCIe address of a host window address under an entry. -/
def entryAddr (e a : Nat) : Nat := e / 4096 % 2 ^ 52 * 4096 + a % 4096

/-- No Snoop of the requests to the page of an entry. -/
def entryNs (e : Nat) : Bool := nbit e 2

/-- The PCIe address and the No Snoop bit of a host window address by its Page Map entry, if the entry lets the access pass
(11 R298). -/
def State.hostPage (s : State) (a : Nat) (write : Bool) : Option (Nat × Bool) :=
  let e := ofBytesLE (memRead s.mem (s.pmEntry (a / 4096)) 8)
  if entryOk e write then some (entryAddr e a, entryNs e) else none

/-! ## Frame Records and their marks (03 R89 to R92) -/

/-- The 64 bytes of a Frame Record (Table 3.6); counts saturate at 32 bits. -/
def State.recBytes (s : State) (f : Flight) : List Byte :=
  let w := s.rget (0x41_0000 + 64 * f.source)
  let c (n : Nat) : List Byte := bytesLE 4 (min n m32)
  let b := bytesLE 2 f.source ++ bytesLE 2 f.epoch ++ bytesLE 4 f.frame ++ bytesLE 8 f.sofNs ++ bytesLE 8 f.eofNs
    ++ bytesLE 4 f.flags ++ c f.crcErrs ++ c f.eccCorr ++ c f.eccUncorr ++ c (f.complete.foldl (fun a e => a + e.2) 0)
    ++ c f.linesDropped ++ bytesLE 1 (fld w 16 6) ++ bytesLE 1 (if f.host then 0 else fld w 4 8) ++ bytesLE 2 f.csiFn
    ++ bytesLE 8 0
  b ++ bytesLE 4 (crc32 b)

/-- Rewrite the record of a frame that is in its plate: HBM, or host memory through the Page Map, where an invalid entry drops it.
The spec names no requester, class or regulator for such a rewrite, so it takes no arbitration (notes/assumptions/50.md). -/
def State.putRec (s : State) (f : Flight) : State :=
  if f.plateHost then
    match s.hostPage f.plate true with
    | some p => s.hostWrite p.1 (s.recBytes f) p.2 false
    | none => s
  else s.poke f.plate (s.recBytes f)

/-- OR flags into every frame that satisfies a test and is not final; a record already in its plate is rewritten with them
(R89). -/
def State.markWhere (s : State) (p : Flight → Bool) (m : Nat) : State :=
  let hit (f : Flight) : Bool := p f && (f.flags ||| m) != f.flags
  let new (f : Flight) : Flight := { f with flags := f.flags ||| m }
  let s1 := { s with flights := s.flights.map (fun f => if hit f then new f else f) }
  (s.flights.filter (fun f => hit f && f.recWritten)).foldl (fun s f => s.putRec (new f)) s1

/-- OR flags into every frame in progress. -/
def State.markAll (s : State) (m : Nat) : State := s.markWhere (fun _ => true) m

/-- OR flags into one frame. -/
def State.markFrame (s : State) (src fr m : Nat) : State := s.markWhere (fun f => f.source == src && f.frame == fr) m

end Sys2Proof.Machine
end

