-- ==== Sys2Proof/Machine/Tables.lean ====
section
/-! DEFINITION. The register tables read as records: Source Table, timetable, links, chains, partition map, tap
descriptors and receive ports (spec/03 Table 3.3, spec/10 Tables 10.2, 10.4, 10.5, spec/04 Table 4.8), and what follows
from them alone: line and plate sizes, port capacity, expected starts, release times and deadlines. -/

namespace Sys2Proof.Machine

/-- A Source Table entry (03 Table 3.3). -/
structure SrcEntry where
  enable : Bool
  kind : Nat
  reference : Bool
  port : Nat
  vc : Nat
  exposures : Nat
  dt : Nat
  dtEmb : Nat
  width : Nat
  height : Nat
  stagger : Nat
  chain : Nat
  partition : Nat
  applyLatency : Nat
  tapMask : Nat
  stripeLines : Nat
  paramLine : Nat
  plateBase : Nat
  plateHost : Bool
  linePitch : Nat
  plateCount : Nat
  plateStride : Nat
  period : Nat
  deadlineOffset : Nat
  ctlPort : Nat
  sensorAddr : Nat
  ctlEn : Bool
  trig : Nat
  fsWindow : Nat
  deriving DecidableEq, Repr

/-- Address of word w of Source Table entry i. -/
def srcAddr (i w : Nat) : Nat := 0x41_0000 + 64 * i + 4 * w

/-- Source Table entry i. -/
def State.src (s : State) (i : Nat) : SrcEntry :=
  let w (k : Nat) := s.rget (srcAddr i k)
  { enable := bit (w 0) 0, kind := fld (w 0) 1 2, reference := bit (w 0) 3, port := fld (w 0) 4 4, vc := fld (w 0) 8 4
    exposures := fld (w 0) 12 3, dt := fld (w 0) 16 6, dtEmb := fld (w 0) 22 6
    width := fld (w 1) 0 16, height := fld (w 1) 16 16
    stagger := fld (w 2) 0 10, chain := fld (w 2) 10 6, partition := fld (w 2) 16 6, applyLatency := fld (w 2) 22 3
    tapMask := fld (w 3) 0 8, stripeLines := if fld (w 3) 8 8 = 0 then 16 else fld (w 3) 8 8, paramLine := fld (w 3) 16 16
    plateBase := (w 4).toNat + fld (w 5) 0 4 * 2 ^ 32, plateHost := bit (w 5) 31
    linePitch := fld (w 6) 0 20, plateCount := fld (w 6) 24 4, plateStride := (w 7).toNat
    period := (w 8).toNat, deadlineOffset := (w 9).toNat
    ctlPort := fld (w 10) 0 4, sensorAddr := fld (w 10) 4 7, ctlEn := bit (w 10) 11, trig := fld (w 10) 12 3
    fsWindow := fld (w 10) 16 16 }

/-- The indices of the enabled sources. Only entries the image has written can be enabled, so the stored registers name
them all. -/
def State.sources (s : State) : List Nat :=
  s.regs.filterMap (fun e =>
    if 0x41_0000 ≤ e.1 && e.1 < 0x45_0000 && e.1 % 64 == 0 && bit e.2 0 then some ((e.1 - 0x41_0000) / 64) else none)

/-- Group width in pixels and group bytes of a pixel data type (03 Table 3.2); `none` if it is not in the table. -/
def dtGroup (dt : Nat) : Option (Nat × Nat) :=
  match dt with
  | 0x2A => some (1, 1) | 0x2B => some (4, 5) | 0x2C => some (2, 3) | 0x2D => some (4, 7) | 0x2E => some (1, 2)
  | 0x2F => some (2, 5) | 0x1E => some (2, 4) | 0x24 => some (1, 3) | _ => none

/-- The stored line payload in bytes (03 R73). -/
def SrcEntry.lineBytes (e : SrcEntry) : Nat :=
  match dtGroup e.dt with
  | some (g, b) => e.width / g * b
  | none => 0

/-- Plate size (03 R78). -/
def SrcEntry.plateSize (e : SrcEntry) : Nat :=
  if e.kind = 1 then 0x1000 else 0x1000 + e.exposures * e.height * e.linePitch

/-- Address of plate i of the ring (03 R78). -/
def SrcEntry.plateAt (e : SrcEntry) (i : Nat) : Nat := e.plateBase + i * e.plateStride * 4096

/-- Address of line l of exposure x in a plate. -/
def SrcEntry.lineAt (e : SrcEntry) (plate x l : Nat) : Nat := plate + 0x1000 + (x * e.height + l) * e.linePitch

/-- Stripes of a frame, and the lines of stripe j (04 R115: the last stripe may be shorter). -/
def SrcEntry.stripes (e : SrcEntry) : Nat := ceilDiv e.height e.stripeLines
def SrcEntry.stripeHeight (e : SrcEntry) (j : Nat) : Nat := min e.stripeLines (e.height - j * e.stripeLines)

/-! ## Receive ports (03 R67, R68, Table 3.10) -/

/-- PORT_CFG of port n. -/
def State.portCfg (s : State) (n : Nat) : Word := s.rget (0x8_0000 + 0x1000 * n)

/-- Ports in the gang that port n leads: 1, 2 or 4. -/
def State.gangSize (s : State) (n : Nat) : Nat :=
  match fld (s.portCfg n) 4 2 with
  | 1 => if n % 2 = 0 then 2 else 1
  | 2 => if n % 4 = 0 then 4 else 1
  | _ => 1

/-- The lead port that port n belongs to. -/
def State.leadOf (s : State) (n : Nat) : Nat :=
  if s.gangSize (n / 4 * 4) = 4 then n / 4 * 4
  else if s.gangSize (n / 2 * 2) = 2 then n / 2 * 2
  else n

/-- The port has its PHY enabled. -/
def State.portOn (s : State) (n : Nat) : Bool := fld (s.portCfg n) 0 2 == 1 || fld (s.portCfg n) 0 2 == 2

/-- The rate in Mbps or Msym/s (Table 3.10). -/
def cfgRate (c : Word) : Nat := 25 * fld c 8 8 - 5 * fld c 18 3

/-- Lanes or trios of a port. -/
def cfgLanes (c : Word) : Nat :=
  match fld c 2 2 with
  | 0 => 1 | 1 => 2 | _ => if fld c 0 2 = 2 then 3 else 4

/-- Payload capacity in kbit/s ×: lanes × rate for D-PHY, 16 bits per 7 symbols for C-PHY, in units of 1/7 Mbps so that it
is exact. -/
def cfgCapacity7 (c : Word) : Nat := cfgLanes c * cfgRate c * (if fld c 0 2 = 2 then 16 else 7)

/-- Capacity of a port or gang in 1/7 Mbps. -/
def State.portCapacity7 (s : State) (n : Nat) : Nat := s.gangSize n * cfgCapacity7 (s.portCfg n)

/-- Line-buffer bytes of a port or gang (R68, R80). -/
def State.bufBytes (s : State) (n : Nat) : Nat := 65536 * s.gangSize n

/-! ## Timetable, partitions and chains (10) -/

/-- TT[s] word w. -/
def State.tt (s : State) (i w : Nat) : Nat := (s.rget (0x45_0000 + 0x20 * i + 4 * w)).toNat

/-- The source is a member of a fold group, and its lead (Table 10.4). -/
def State.folded (s : State) (i : Nat) : Bool := nbit (s.tt i 3) 12
def State.foldLead (s : State) (i : Nat) : Nat := if s.folded i then s.tt i 3 % 4096 else i

/-- The members of the fold group of a lead, or the source alone. -/
def State.members (s : State) (lead : Nat) : List Nat :=
  if s.folded lead then s.sources.filter (fun i => s.folded i && s.foldLead i == lead) else [lead]

/-- CORE_PART[n]: the partition of a core, if it has one. -/
def State.corePart (s : State) (n : Nat) : Option Nat :=
  let w := s.rget (0x40_0200 + 4 * n)
  if bit w 8 then some (fld w 0 6) else none

/-- CHAIN[c] word w. -/
def State.chain (s : State) (c w : Nat) : Nat := (s.rget (0x49_0000 + 0x80 * c + 4 * w)).toNat
def State.chainEn (s : State) (c : Nat) : Bool := nbit (s.chain c 0) 0
def State.chainPart (s : State) (c : Nat) : Nat := nfld (s.chain c 0) 1 6
def State.chainStages (s : State) (c : Nat) : Nat := nfld (s.chain c 0) 7 5
def State.chainFirst (s : State) (c : Nat) : Nat := s.chain c 1 % 1024
def State.dlOff (s : State) (c st : Nat) : Nat := s.chain c (16 + st)

/-- A partition's class (R251): 0 unused, 1 elastic, 2 real-time, 3 in-line. -/
def State.partClass (s : State) (p : Nat) : Nat := tget 0 s.eph.cls p
def State.realTime (s : State) (p : Nat) : Bool := decide (2 ≤ s.partClass p)

/-- The cores of a partition. -/
def State.partCores (s : State) (p : Nat) : List Nat := (List.range 144).filter (fun n => s.corePart n == some p)

/-- A link descriptor (Table 10.2). -/
structure LinkCfg where
  en : Bool
  claimed : Bool
  front : Bool
  pool : Bool
  slots : Nat
  chain : Nat
  prodStage : Nat
  consStage : Nat
  owner : Nat
  counter : Nat
  base : Nat
  segBytes : Nat
  /-- members as 4 × core + context -/
  prods : List Nat
  cons : List Nat
  deriving DecidableEq, Repr

/-- The members that words w0 to w0 + 7 list. -/
def State.linkMembers (s : State) (l w0 : Nat) : List Nat :=
  (List.range 16).filterMap (fun i =>
    let h := fld (s.rget (0x47_0000 + 0x80 * l + 4 * (w0 + i / 2))) (16 * (i % 2)) 16
    if nbit h 15 then some (4 * (h % 256) + nfld h 8 2) else none)

/-- LINK[l]. -/
def State.link (s : State) (l : Nat) : LinkCfg :=
  let w (k : Nat) := s.rget (0x47_0000 + 0x80 * l + 4 * k)
  { en := bit (w 0) 0 && l != 0, claimed := bit (w 0) 1, front := bit (w 0) 2, pool := bit (w 0) 3, slots := fld (w 0) 8 8
    chain := fld (w 0) 16 6, prodStage := fld (w 0) 22 4, consStage := fld (w 0) 26 4
    owner := fld (w 1) 0 8, counter := fld (w 1) 8 8, base := (w 2).toNat, segBytes := (w 3).toNat
    prods := s.linkMembers l 8, cons := s.linkMembers l 16 }

/-- The links the image has enabled. -/
def State.linkIds (s : State) : List Nat :=
  s.regs.filterMap (fun e =>
    if 0x47_0080 ≤ e.1 && e.1 < 0x49_0000 && (e.1 - 0x47_0000) % 0x80 == 0 && bit e.2 0 then some ((e.1 - 0x47_0000) / 0x80)
    else none)

/-! ## Frame slots and deadlines (03 R85, 10 R266 to R269) -/

/-- Scheduled time of pulse k of FSYNC output j, if it is known (03 R99). -/
def State.pulseAt (s : State) (j k : Nat) : Option Nat :=
  match tfind s.trig.outs j with
  | none => none
  | some o =>
    match o.t0 with
    | none => none
    | some t0 =>
      match fld o.ctrl 0 2 with
      | 1 => some (t0 + o.phase + k * o.period)
      | 2 => tfind o.times k
      | _ => none

/-- E_k of slot k of a source with PERIOD ≠ 0 (10 R266). -/
def State.expectAt (s : State) (i k : Nat) : Option Nat :=
  let e := s.src i
  if e.trig < 4 then
    match s.eph.t0 with
    | some t0 => some (t0 + s.tt i 0 + k * e.period)
    | none => none
  else (s.pulseAt (e.trig - 4) k).map (· + s.tt i 0)

/-- rel(j) of a frame (10 R267), with the timetable of the fold lead. -/
def State.relAt (s : State) (i expect j : Nat) : Nat :=
  let l := s.foldLead i
  expect + s.tt l 1 + j * s.tt l 2

/-- dl(j, st) of a frame (10 R269). -/
def State.dlAt (s : State) (i expect j st : Nat) : Nat := s.relAt i expect j + s.dlOff (s.src i).chain st

/-- The frame of a source with a number, if it is not final. -/
def State.flight (s : State) (i fr : Nat) : Option Flight := s.flights.find? (fun f => f.source == i && f.frame == fr)

/-- Replace a frame. -/
def State.putFlight (s : State) (f : Flight) : State :=
  { s with flights := s.flights.map (fun g => if g.source == f.source && g.frame == f.frame then f else g) }

/-- Change a frame. -/
def State.modFlight (s : State) (i fr : Nat) (g : Flight → Flight) : State :=
  { s with flights := s.flights.map (fun f => if f.source == i && f.frame == fr then g f else f) }

/-! ## Tap descriptors (04 Table 4.8) -/

structure TapDesc where
  en : Bool
  toHost : Bool
  msix : Nat
  frameDiv : Nat
  ring : Nat
  base : Nat
  srcFirst : Nat
  srcCount : Nat
  srcStride : Nat
  frameStride : Nat
  linePitch : Nat
  deriving DecidableEq, Repr

def State.tapDesc (s : State) (c t : Nat) : TapDesc :=
  let w (k : Nat) := s.rget (0xC_1000 + 0x100 * c + 0x20 * t + 4 * k)
  { en := bit (w 0) 0, toHost := bit (w 0) 1, msix := fld (w 0) 4 8, frameDiv := fld (w 0) 12 8, ring := fld (w 0) 20 4
    base := (w 1).toNat + fld (w 2) 0 4 * 2 ^ 32, srcFirst := fld (w 3) 0 12, srcCount := fld (w 4) 0 13
    srcStride := (w 5).toNat, frameStride := (w 6).toNat, linePitch := fld (w 7) 0 20 }

/-- Source i writes tap t of frame f (04 R118). -/
def State.tapOn (s : State) (i t fr : Nat) : Bool :=
  let e := s.src i
  let d := s.tapDesc e.chain t
  nbit e.tapMask t && d.en && decide (d.srcFirst ≤ i) && decide (i < d.srcFirst + d.srcCount) && fr % (d.frameDiv + 1) == 0

/-- The buffer of source i, tap t and frame f (04 R119). -/
def State.tapBuf (s : State) (i t fr : Nat) : Nat :=
  let d := s.tapDesc (s.src i).chain t
  d.base + (i - d.srcFirst) * d.srcStride * 4096 + (fr / (d.frameDiv + 1) % (d.ring + 1)) * d.frameStride * 4096

end Sys2Proof.Machine
end

