-- ==== Sys2Proof/Machine/Access.lean ====
section
/-! DEFINITION. Named access to the memories, cores, contexts, links and streams held in the state: where each memory lies,
bytes with their error state (spec/14 R368), and the marks that a fault leaves on a stripe (spec/10 R260, spec/11 R297). -/

namespace Sys2Proof.Machine

/-! ## Where the memories lie (12 Table 12.4, 02 Table 2.7; core-local at a base of the model's own, assumption 9) -/

def vaultAt (n : Nat) : Nat := 0x8_0000_0000 + n * 0x40_0000
def poolAt (d : Nat) : Nat := 0x8_4000_0000 + d * 0x100_0000
def localAt (n : Nat) : Nat := 0x10_0000_0000 + n * 0x20_0000
def abufAt (n line : Nat) : Nat := localAt n + 32 * line
def cbAt (n w : Nat) : Nat := localAt n + 0x8_0000 + 32 * w
def accAt (n row lane : Nat) : Nat := localAt n + 0x10_0000 + row * 256 + lane * 4
def lutAt (n t i : Nat) : Nat := localAt n + 0x18_0000 + t * 2048 + i * 2
def mqAt (n e : Nat) : Nat := localAt n + 0x18_2000 + 64 * e

/-- Compute die of a core. -/
def dieOf (n : Nat) : Nat := n / 36

/-- Register address within CORE n. -/
def coreReg (n off : Nat) : Nat := 0x100_0000 + n * 0x1_0000 + off

/-! ## Bytes -/

def State.rd (s : State) (a n : Nat) : List Byte := memRead s.mem a n
def State.rdLE (s : State) (a n : Nat) : Nat := ofBytesLE (memRead s.mem a n)

/-- Some protected word of the interval reports an uncorrectable error. -/
def State.poisonedIn (s : State) (a n : Nat) : Bool := s.poison.any (fun w => decide (w < a + n) && decide (a < w + 8))

/-- The unit of the memory that holds an address (14 R376, assumption 9). -/
def memUnit (a : Nat) : Nat :=
  if a < 0x8_0000_0000 then 0x4000 + a / 2 ^ 34
  else if a < 0x8_4000_0000 then 0x1004 + (a - 0x8_0000_0000) / 0x40_0000 / 36
  else if a < 0x10_0000_0000 then 0x1004 + (a - 0x8_4000_0000) / 0x100_0000
  else (a - 0x10_0000_0000) / 0x20_0000

/-- The address within its MEM_LOAD space, as fault details give it. -/
def memOffset (a : Nat) : Nat :=
  if a < 0x8_0000_0000 then a
  else if a < 0x8_4000_0000 then a - 0x8_0000_0000
  else if a < 0x10_0000_0000 then a - 0x8_4000_0000
  else a - 0x10_0000_0000

/-- An ECC fault of a class at an address. -/
def State.raiseEcc (s : State) (cls a : Nat) : State :=
  s.raise { cls, action := if cls = 0x10 then 1 else 2, unit := memUnit a, detail := memOffset a }

/-- The first byte of an interval that lies in a protected range (02 R56), the retention area counted (16 R419). -/
def State.protectedIn (s : State) (a n : Nat) : Option Nat :=
  (s.boot.ranges ++ s.boot.retention.toList).foldl (fun r g =>
    let x := max a g.lo
    if decide (x < a + n) && decide (x < g.hi) then some (match r with
      | some y => min x y
      | none => x)
    else r) none

/-- The vault that holds a device address belongs to a core fenced whole: its requests are answered by the Occulter (14 R382
step 5). -/
def State.vaultLost (s : State) (a : Nat) : Bool :=
  decide (0x8_0000_0000 ≤ a) && decide (a < 0x8_2400_0000) && s.coreFenced ((a - 0x8_0000_0000) / 0x40_0000)

/-- Store bytes. A write that covers a whole protected word removes the error it held; one that covers part of an
uncorrectable word raises ECC_UE and leaves it uncorrectable (14 R368). HBM has no such words. -/
def State.wr (s : State) (a : Nat) (bs : List Byte) : State :=
  if bs = [] then s
  else
    let hit := s.poison.filter (fun w => decide (w < a + bs.length) && decide (a < w + 8))
    let part := hit.filter (fun w => !(decide (a ≤ w) && decide (w + 8 ≤ a + bs.length)))
    let s1 := { s with mem := memWrite s.mem a bs
                       poison := s.poison.filter (fun w => !(hit.contains w) || part.contains w) }
    part.foldl (fun s w => s.raiseEcc 0x11 w) s1

/-- Zero an interval, errors included. -/
def State.zero (s : State) (lo hi : Nat) : State :=
  { s with mem := memZero s.mem lo hi, poison := s.poison.filter (fun w => decide (w + 8 ≤ lo) || decide (hi ≤ w)) }

/-! ## Cores, contexts, links, streams -/

def State.core (s : State) (n : Nat) : CoreS := tget CoreS.init s.cores n
def State.putCore (s : State) (n : Nat) (c : CoreS) : State := { s with cores := tput s.cores n c }
def State.ctx (s : State) (n c : Nat) : Ctx := tget Ctx.init (s.core n).ctxs c
def State.putCtx (s : State) (n c : Nat) (x : Ctx) : State :=
  let k := s.core n
  s.putCore n { k with ctxs := tput k.ctxs c x }
def State.modCtx (s : State) (n c : Nat) (f : Ctx → Ctx) : State := s.putCtx n c (f (s.ctx n c))

def State.lnk (s : State) (l : Nat) : LinkS := tget LinkS.init s.links l
def State.putLnk (s : State) (l : Nat) (x : LinkS) : State := { s with links := tput s.links l x }

/-- Streams are keyed by 16 × requester + slot. -/
def State.strm (s : State) (r k : Nat) : Strm := tget Strm.init s.mems.strms (16 * r + k)
def State.putStrm (s : State) (r k : Nat) (x : Strm) : State :=
  { s with mems := { s.mems with strms := tput s.mems.strms (16 * r + k) x } }

def State.port (s : State) (n : Nat) : TxPort := tget TxPort.init s.tx n
def State.putPort (s : State) (n : Nat) (p : TxPort) : State := { s with tx := tput s.tx n p }

/-! ## CORE registers that the core itself writes -/

/-- Counter i of a core (Table 5.7) and of its matching group (Table 13.6). -/
def State.bumpCore (s : State) (n i : Nat) : State :=
  s.bumpAt (coreReg n (0xC0 + 4 * i)) (coreReg n 0xE0) i (coreReg n 0xE8) (coreReg n 0xEC) 2 i
def State.bumpMatch (s : State) (n i : Nat) : State :=
  s.bumpAt (coreReg n (0x300 + 4 * i)) (coreReg n 0x310) i (coreReg n 0x318) (coreReg n 0x31C) 2 i

/-- Counter i of the MEMORY block (Table 11.11), the Ephemeris (Table 10.7), a transmit port (Table 9.7). -/
def State.bumpMem (s : State) (i : Nat) : State := s.bumpAt (0x20_0080 + 4 * i) 0x20_00C0 i 0x20_00C8 0x20_00CC 3 i
def State.bumpEph (s : State) (i : Nat) : State := s.bumpAt (0x40_0100 + 4 * i) 0x40_0140 i 0x40_0148 0x40_014C 3 i
def State.bumpTx (s : State) (n i : Nat) : State :=
  let b := 0xE_0000 + 0x1000 * n
  s.bumpAt (b + 0x100 + 4 * i) (b + 0x140) i (b + 0x148) (b + 0x14C) 3 i

/-- Counter i of FRONT: it saturates and has no threshold (Table 4.6). -/
def State.bumpFront (s : State) (i : Nat) : State :=
  let a := 0xC_0100 + 4 * i
  let v := satInc (s.rget a)
  let s1 := s.rput a v
  if v.toNat = m32 then s1.rset 0xC_0140 (2 ^ i) else s1

/-! ## Marks on stripes -/

/-- The sources of a tag: one, or every member of its fold group. -/
def State.tagSources (s : State) (t : Tag) : List Nat := if t.fold then s.members t.source else [t.source]

/-- OR flags into the frames of a tag. -/
def State.markTag (s : State) (t : Tag) (m : Nat) : State :=
  s.markWhere (fun f => (s.tagSources t).contains f.source && f.frame == t.frame) m

/-- Frame flags (03 Table 3.7). -/
def fTruncated : Nat := 0x1
def fCsiLate : Nat := 0x2
def fCrcErr : Nat := 0x4
def fSupply : Nat := 0x8
def fDeadline : Nat := 0x10
def fMasked : Nat := 0x20
def fDetected : Nat := 0x40
def fPoisoned : Nat := 0x80
def fParamLate : Nat := 0x100
def fCancelled : Nat := 0x200
def fSkew : Nat := 0x400

/-- The frame that records name for a tag: that of its source. -/
def tagFrame (t : Option Tag) : Option (Nat × Nat) := t.map (fun t => (t.source, t.frame))

/-! ## Accesses of units that are no stream and no writer (11 R288, 12 R318, R333) -/

/-- Queue an access behind the others. -/
def State.addAux (s : State) (use : AuxUse) (write host noSnoop : Bool) (addr len : Nat) (data : List Byte) : State :=
  { s with mems := { s.mems with
    nextId := s.mems.nextId + 1
    aux := s.mems.aux ++ [{ id := s.mems.nextId, use, write, host, noSnoop, addr, len, data, got := [], issued := 0, done := 0
                            bad := none }] } }

/-- A BAR2 access, an access of the stagger region, a read of the parameter history; the channel whose own access it is. -/
def AuxUse.isBar2 : AuxUse → Bool
  | .bar2 _ _ => true
  | _ => false
def AuxUse.bar2Path : AuxUse → Option Nat
  | .bar2 p _ => some p
  | _ => none
def AuxUse.isRecord (c : Nat) : AuxUse → Bool
  | .record d _ => c == d
  | _ => false
def AuxUse.isStagger : AuxUse → Bool
  | .stagger _ _ _ _ => true
  | _ => false
def AuxUse.isHistory : AuxUse → Bool
  | .history _ _ => true
  | _ => false
def AuxUse.chan : AuxUse → Option Nat
  | .descs c _ _ | .record c _ | .frameRecord c _ _ => some c
  | _ => none

def State.findAux (s : State) (id : Nat) : Option Aux := s.mems.aux.find? (fun a => a.id == id)
def State.modAux (s : State) (id : Nat) (g : Aux → Aux) : State :=
  { s with mems := { s.mems with aux := s.mems.aux.map (fun a => if a.id = id then g a else a) } }
def State.dropAux (s : State) (p : Aux → Bool) : State := { s with mems := { s.mems with aux := s.mems.aux.filter (fun a => !p a) } }

/-- A request is the host's own, or a debug probe's: of a BAR2 access. -/
def State.hostOwn (s : State) (q : Req) : Bool :=
  match q.client with
  | .aux id => s.mems.aux.any (fun a => a.id == id && a.use.isBar2)
  | _ => false

/-- Some access of the uses named is in progress. -/
def State.auxOut (s : State) (p : AuxUse → Bool) : Bool := s.mems.aux.any (fun a => p a.use)

end Sys2Proof.Machine
end

