-- ==== Sys2Proof/Machine/Streams.lean ====
section
/-! DEFINITION. Streams (spec/11_streams_vaults_and_hbm.md R281 to R307): the traversal, the queue ring, page cursors, halts,
the end of an activation with its completion record, and cancel. Arbitration is in Machine/Arbitrate.lean. -/

namespace Sys2Proof.Machine

/-! ## Traversal (R282) -/

/-- Coordinates of run r, dimension 0 first. -/
def runCoords : List Nat → Nat → List Nat
  | [], _ => []
  | n :: ns, r => r % max n 1 :: runCoords ns (r / max n 1)

/-- Sum of (START + c) × STRIDE. -/
def strideSum : List Nat → List Int → List Nat → Int
  | st :: sts, sd :: sds, c :: cs => ((st + c : Nat) : Int) * sd + strideSum sts sds cs
  | _, _, _ => 0

/-- Address of byte `pos` of the traversal. -/
def Strm.addrAt (x : Strm) (pos : Nat) : Nat :=
  (x.base + strideSum x.starts x.strides (runCoords x.counts (pos / max x.run 1)) + ((pos % max x.run 1 : Nat) : Int)).toNat

/-- Size of the aligned blocks a request never spans: PCIe blocks of 512 B, granules of 256 B elsewhere (R287). -/
def Strm.block (x : Strm) : Nat := if x.space = 1 then 512 else 256

/-- Address and length of the granule that starts at byte `pos`. -/
def Strm.granAt (x : Strm) (pos : Nat) : Nat × Nat :=
  let a := x.addrAt pos
  (a, min (x.run - pos % max x.run 1) (x.block - a % x.block))

/-- The next granule to issue, if queue room (or queue content, for a write) allows (R285). -/
def Strm.next (x : Strm) : Option (Nat × Nat) :=
  if !x.active || x.halted || x.cancelling || x.stopped || x.total ≤ x.issued then none
  else
    let (a, l) := x.granAt x.issued
    if x.write then (if x.issued + l ≤ x.filled then some (a, l) else none)
    else (if x.issued + l ≤ x.released + x.qsize then some (a, l) else none)

/-- Path of an address of a space: stacks, host link, pools, vaults, transmit queues (R291). -/
def pathOf (space a : Nat) : Nat :=
  match space with
  | 0 => a / 2 ^ 34
  | 1 => 2
  | 2 => 3
  | 3 => 4
  | _ => 5

/-- The device-memory address of an address of a space, for the spaces that are device memory. -/
def spaceAddr (space unit a : Nat) : Nat :=
  match space with
  | 2 => poolAt unit + a
  | 3 => vaultAt unit + a
  | _ => a

/-! ## Costs (R287, Table 11.4) -/

/-- Tags of an HBM request: read tags and write tags; a unit written in part also takes a read tag for its
read-modify-write. -/
def hbmTags (a n : Nat) (write : Bool) : Nat × Nat :=
  let units := (a + n - 1) / 64 + 1 - a / 64
  let full := (a + n) / 64 - ceilDiv a 64
  if write then (units - full, units) else (units, 0)

/-- Charge of a request within one granule of device memory: a slot of 256 B on the path of a stack, and a read slot for every
unit written in part; vaults and pools are not regulated. -/
def memCharge (path a n : Nat) (write : Bool) : Nat :=
  if path ≤ 1 then 256 * (1 + if write then (hbmTags a n true).1 else 0) else 0

/-- Charge of a host-link request at an address of a run: 512 B per PCIe block touched; a further piece of the same block adds
nothing. -/
def hostCharge (a off : Nat) : Nat := if a % 512 != 0 && off != 0 then 0 else 512

/-- The pseudo-channel of a stack in which an HBM address lies (R279). -/
def pseudoChannel (a : Nat) : Nat :=
  let g := a % 2 ^ 34 / 256
  g % 32 ^^^ g / 1024 % 32

/-! ## Page cursors (R299) -/

/-- The first page other than `page` that the traversal reaches from `pos` on. -/
def Strm.nextPage (x : Strm) (page : Nat) : Nat → Nat → Option Nat
  | 0, _ => none
  | fuel + 1, pos =>
    if x.total ≤ pos then none
    else
      let (a, l) := x.granAt pos
      if a / 4096 = page then x.nextPage page fuel (pos + max l 1) else some (a / 4096)

/-- The cursor for a granule in page `p` with `q` the next page. -/
def Cursor.settle (c : Cursor) (p : Nat) (q : Option Nat) : Cursor :=
  if c.curPage = some p then c
  else if c.nxtPage = some p then
    { c with curPage := some p, cur := c.nxt, wantCur := c.wantNxt, nxtPage := q, wantNxt := q.isSome }
  else { c with curPage := some p, wantCur := true, nxtPage := q, wantNxt := q.isSome }

/-- Both entries must be read again before the next issue (PM_CTRL.FLUSH). -/
def Cursor.toFlush (c : Cursor) : Cursor :=
  if c.curPage.isSome || c.nxtPage.isSome then { c with flush := true, wantCur := c.curPage.isSome, wantNxt := c.nxtPage.isSome }
  else c

/-- An entry read completes: CUR or NXT takes the value; a FLUSH is honoured once both are read. -/
def Cursor.take (c : Cursor) (isCur : Bool) (e : Nat) : Cursor :=
  let c1 := if isCur then { c with cur := e, wantCur := false } else { c with nxt := e, wantNxt := false }
  { c1 with flush := c1.flush && (c1.wantCur || c1.wantNxt) }

/-- The entry CUR holds for page p, once read. -/
def Cursor.entry (c : Cursor) (p : Nat) : Option Nat := if c.curPage = some p && !c.wantCur && !c.flush then some c.cur else none

/-- Bring the cursor of a host stream in line with its next granule. -/
def Strm.settle (x : Strm) : Strm :=
  if x.space ≠ 1 || !x.active || x.total ≤ x.issued then x
  else
    let p := (x.granAt x.issued).1 / 4096
    { x with cursor := x.cursor.settle p (x.nextPage p (x.total - x.issued) x.issued) }

/-! ## Page faults (R300, R301) -/

/-- Queue a page-fault entry; a full queue loses it. -/
def State.pageFault (s : State) (e : PfEntry) : State :=
  let s1 := s.bumpMem 0
  if 64 ≤ s1.mems.pf.length then s1.bumpMem 1
  else ({ s1 with mems := { s1.mems with pf := s1.mems.pf ++ [e] } }).raiseVec (fld (s1.rget 0x20_002C) 0 8)

/-- Halt stream (r, k) at its next granule. -/
def State.haltStrm (s : State) (r k : Nat) : State :=
  let x := s.strm r k
  let a := (x.granAt x.issued).1
  let y := { x with halted := true, saved := runCoords x.counts (x.issued / max x.run 1), roff := x.issued % max x.run 1 }
  (s.putStrm r k y).pageFault
    { requester := r, slot := k, epoch := x.epoch, write := x.write, kind := 0, addr := a / 256 * 256 }

/-- Halt the stream if the entry of its next page has been read and does not let it pass. -/
def State.checkHalt (s : State) (r k : Nat) : State :=
  let x := s.strm r k
  match x.next with
  | none => s
  | some (a, _) =>
    if x.space ≠ 1 then s
    else
      match x.cursor.entry (a / 4096) with
      | some e => if entryOk e x.write then s else s.haltStrm r k
      | none => s

/-- A host-bound stream of a core whose queue ring lies in a protected range moves no byte (02 R56). -/
def State.lockedStrm (s : State) (r : Nat) (x : Strm) : Bool :=
  x.write && x.space == 1 && decide (r < 144) && (s.protectedIn (vaultAt r + x.qbase) x.qsize).isSome

/-! ## End of an activation (R286, R307) -/

/-- Requests of a slot in flight. -/
def State.inFlight (s : State) (r k : Nat) : List Req := s.mems.reqs.filter (fun q => q.client == .strm r k)

/-- Write a completion record when the completion queue is enabled. -/
def State.scqRecord (s : State) (r k : Nat) (x : Strm) (status cause : Nat) : State :=
  let cfg := s.rget 0x20_0048
  if !bit cfg 24 then s
  else
    let seq := (s.mems.scqSeq + 1) % 2 ^ 32
    let done := if x.write then x.accepted else x.released
    let disc := if x.write then x.filled - x.accepted else x.issued - x.released
    let sf := match x.stripe with
      | some t => t.source + t.frame % 2 ^ 20 * 4096
      | none => 0
    let bs := bytesLE 2 r ++ bytesLE 1 k ++ bytesLE 1 x.epoch ++ bytesLE 1 status ++ bytesLE 1 cause
      ++ bytesLE 2 (if r = 144 then 0 else x.desc) ++ bytesLE 8 done ++ bytesLE 8 disc ++ bytesLE 4 seq ++ bytesLE 4 sf
    let s1 := { s with mems := { s.mems with scqSeq := seq } }
    (s1.wr (s.rget64 0x20_0040 + seq % (fld cfg 0 12 + 1) * 32) bs).raiseVec (fld cfg 16 8)

/-- The stage of a chain that a context serves: as a consumer or as a producer of one of its links (10 R249). -/
def State.ctxStage (s : State) (m : Nat) : Option (Nat × Nat) :=
  s.linkIds.foldl (fun r l =>
    match r with
    | some v => some v
    | none =>
      let d := s.link l
      if d.cons.contains m then some (d.chain, d.consStage)
      else if d.prods.contains m then some (d.chain, d.prodStage) else none) none

/-- The context belongs to the last stage of its chain: its output streams lead to the destinations of 09 R238. -/
def State.lastStage (s : State) (m : Nat) : Bool :=
  match s.ctxStage m with
  | some (c, st) => st + 1 == s.chainStages c
  | none => false

/-- A final output of a tag's frames has been accepted, or an activation that carries it has ended. -/
def State.noteOut (s : State) (r : Nat) (x : Strm) (ended : Bool) : State :=
  match x.stripe with
  | some t =>
    if r < 144 && x.write && s.lastStage (4 * r + x.ctx) then
      let srcs := s.tagSources t
      { s with flights := s.flights.map (fun f =>
        if srcs.contains f.source && f.frame == t.frame then
          { f with lastOut := some s.now, outsLeft := if ended then f.outsLeft - 1 else f.outsLeft, metAt := s.now }
        else f) }
    else s
  | none => s

/-- A slot whose activation is gone: what it named and saved stays readable (R309). -/
def Strm.idle (x : Strm) : Strm :=
  { x with active := false, halted := false, cancelling := false, stopped := false, status := 0, cause := 0 }

/-- End an activation: the slot is freed, with a record at an abnormal end or where REPORT asks for one. -/
def State.endStrm (s : State) (r k : Nat) (abnormal : Bool) (status cause : Nat) : State :=
  let x := s.strm r k
  let s1 := s.putStrm r k x.idle
  let s2 := if x.accepted < x.total && x.write && abnormal then
      -- output that will never be accepted does not hold the frame back (R305, 09 R239)
      { s1 with flights := s1.flights.map (fun f =>
        match x.stripe with
        | some t => if (s1.tagSources t).contains f.source && f.frame == t.frame && r < 144 && s1.lastStage (4 * r + x.ctx)
            then { f with outsLeft := f.outsLeft - 1, metAt := s.now } else f
        | none => f) }
    else s1.noteOut r x true
  if abnormal || x.report then s2.scqRecord r k x status cause else s2

/-- End a read whose last byte has been released, or a write whose last byte has been accepted. -/
def State.endIfDone (s : State) (r k : Nat) : State :=
  let x := s.strm r k
  if x.active && !x.cancelling && (if x.write then x.accepted else x.released) == x.total then
    s.endStrm r k (x.status != 0) x.status 0
  else s

/-! ## The queue ring: what the core takes and gives (R285, R305) -/

/-- Bytes of the ring from a position on. -/
def State.ringRead (s : State) (n : Nat) (x : Strm) (pos len : Nat) : List Byte :=
  (List.range len).map (fun i => memByte s.mem (vaultAt n + x.qbase + (pos + i) % max x.qsize 1))

/-- Store bytes in the ring from a position on, in at most two pieces. -/
def State.ringWrite (s : State) (n : Nat) (x : Strm) (pos : Nat) (bs : List Byte) : State :=
  let o := pos % max x.qsize 1
  let k := min bs.length (x.qsize - o)
  (s.wr (vaultAt n + x.qbase + o) (bs.take k)).wr (vaultAt n + x.qbase) (bs.drop k)

/-- The activation that a place names goes on: its slot has not been freed, nor taken by another activation since (R303). -/
def State.strmLive (s : State) (n : Nat) (p : Place) : Bool :=
  let x := s.strm n p.slot
  x.active && !x.cancelling && x.epoch == p.epoch

/-- Bytes of a read stream that the core can take now; a cancelled or ended one supplies zeros without limit. -/
def State.strmReady (s : State) (n : Nat) (p : Place) (len : Nat) : Bool :=
  let x := s.strm n p.slot
  !s.strmLive n p || decide (x.released + len ≤ x.delivered)

/-- Take bytes of a read stream of core n. -/
def State.takeStrm (s : State) (n : Nat) (p : Place) (len : Nat) : List Byte × State :=
  let x := s.strm n p.slot
  if s.strmLive n p then
    (s.ringRead n x x.released len, (s.putStrm n p.slot { x with released := x.released + len }).endIfDone n p.slot)
  else (List.replicate len 0, s)

/-- The ring of a write stream has room; a cancelled or ended one drops what it is given. -/
def State.strmRoom (s : State) (n : Nat) (p : Place) (len : Nat) : Bool :=
  let x := s.strm n p.slot
  !s.strmLive n p || decide (x.filled + len ≤ x.accepted + x.qsize)

/-- Give bytes to a write stream of core n. -/
def State.giveStrm (s : State) (n : Nat) (p : Place) (bs : List Byte) : State :=
  let x := s.strm n p.slot
  if s.strmLive n p then (s.ringWrite n x x.filled bs).putStrm n p.slot { x with filled := x.filled + bs.length } else s

/-! ## Parked stripes of the shared front stage (04 R107) -/

/-- Order of the release queue: rel, then dl of stage 0, then source (10 R268). -/
def Rel.before (a b : Rel) : Bool :=
  if a.rel ≠ b.rel then decide (a.rel < b.rel) else if a.dl0 ≠ b.dl0 then decide (a.dl0 < b.dl0) else decide (a.source < b.source)

/-- Insert a stripe in release order. -/
def stripeInsert (f : FrontStripe) : List FrontStripe → List FrontStripe
  | [] => [f]
  | x :: q => if Rel.before f.rel x.rel then f :: x :: q else x :: stripeInsert f q

/-- The stripe parked on a slot of requester 144 is to be taken again, ahead of stripes released after it. -/
def State.unpark (s : State) (slot : Nat) : State :=
  match s.front.parked.find? (fun f => f.slot == slot) with
  | some f => { s with front := { s.front with parked := s.front.parked.filter (fun g => g.slot != slot)
                                               resumed := stripeInsert f s.front.resumed } }
  | none => s

/-! ## Cancel (R303 to R306) -/

/-- Accept a cancel of an activation: nothing further is issued and queue bytes are dropped. A parked stripe goes on with zeros
(R305). -/
def State.cancelStrm (s : State) (r k cause : Nat) : State :=
  let x := s.strm r k
  if !x.active || x.cancelling then s
  else
    let s1 := (s.putStrm r k { x with cancelling := true, halted := false, cause }).bumpMem 3
    let s2 := if r = 144 then s1.unpark k else s1
    match x.stripe with
    | some t => if cause = 0 || cause = 2 then s2.markTag t fCancelled else s2
    | none => s2

/-- STREAM_CANCEL_DONE: the operations in flight have completed; the slot is freed with a CANCELLED record. -/
def streamCancelDone (r k : Nat) (s : State) : State :=
  let x := s.strm r k
  if x.active && x.cancelling && (s.inFlight r k).isEmpty then s.endStrm r k true 1 x.cause else s

/-- The active slots of a requester. -/
def State.activeSlots (s : State) (r : Nat) : List Nat := (List.range 16).filter (fun k => (s.strm r k).active)

/-- Cancel every activation of a requester. -/
def State.cancelAll (s : State) (r cause : Nat) : State := (s.activeSlots r).foldl (fun s k => s.cancelStrm r k cause) s

/-- The requester, slot and epoch of a RESUME or CANCEL word. -/
def slotWord (w : Word) : Nat × Nat × Nat := (fld w 0 8, fld w 8 4, fld w 16 8)

/-- CANCEL (Table 11.9): another epoch or a free slot is counted in CANCEL_STALE; ignored while REARMING (02 R63). -/
def cancelWrite (w : Word) (s : State) : State :=
  if s.boot.phase == .rearming then s
  else
    let (r, k, e) := slotWord w
    let x := s.strm r k
    if x.active && !x.cancelling && x.epoch == e && r ≤ 144 then s.cancelStrm r k 0 else s.bumpMem 4

/-- RESUME (R302): a halted slot with that epoch re-reads its entries and goes on; anything else is counted. -/
def resumeWrite (w : Word) (s : State) : State :=
  if s.boot.phase == .rearming then s
  else
    let (r, k, e) := slotWord w
    let x := s.strm r k
    if x.active && x.halted && x.epoch == e && r ≤ 144 then
      let p := (x.granAt x.issued).1 / 4096
      let y := { x with halted := false, cursor := (Cursor.start).settle p (x.nextPage p (x.total - x.issued) x.issued) }
      let s1 := s.putStrm r k y
      if s1.lockedStrm r y then s
      else if r = 144 then s1.unpark k
      else s1
    else s.bumpMem 2

/-- PM_CTRL.FLUSH: every cursor re-reads both entries before its next issue (R299). -/
def pmFlush (s : State) : State :=
  { s with
    mems := { s.mems with strms := s.mems.strms.map (fun e =>
      (e.1, if e.2.active && e.2.space == 1 then { e.2 with cursor := e.2.cursor.toFlush } else e.2)) }
    front := { s.front with cursors := s.front.cursors.map (fun e => (e.1, e.2.toFlush)) } }

/-- PM_FLUSH_BUSY: some cursor has not re-read its entries since a FLUSH. -/
def State.flushBusy (s : State) : Bool :=
  s.mems.strms.any (fun e => e.2.active && e.2.cursor.flush) || s.front.cursors.any (fun e => e.2.flush)

/-- PF_INFO: the oldest page-fault entry is popped and its address latched (R301). -/
def State.pfInfoRead (s : State) : Word × State :=
  match s.mems.pf with
  | [] => (0, s)
  | e :: r =>
    (wd (e.requester % 256 + e.slot % 16 * 2 ^ 8 + e.epoch % 256 * 2 ^ 12 + b2n e.write * 2 ^ 20 + e.kind % 4 * 2 ^ 21 + 2 ^ 31),
     { s with mems := { s.mems with pf := r, pfAddr := e.addr } })

end Sys2Proof.Machine
end

