-- ==== Sys2Proof/Machine/Links.lean ====
section
/-! DEFINITION. Links, semaphores, stripe tags and work counters (spec/10_stage_pipeline_and_partitions.md R252 to R264,
R269, R275). The instructions that wait, signal and claim are in Machine/Control.lean. -/

namespace Sys2Proof.Machine

/-- Semaphore counts are modulo 65,536 (R255). -/
def m16 (x : Int) : Nat := (x % 65536).toNat

/-- Two tags name one stripe. -/
def Tag.same (a b : Tag) : Bool := a.source == b.source && a.fold == b.fold && a.frame == b.frame && a.stripe == b.stripe

/-- The 16 bytes of a stripe tag (Table 10.3). -/
def Tag.bytes (t : Tag) : List Byte :=
  bytesLE 2 (t.source + 4096 * b2n t.fold) ++ bytesLE 2 t.epoch ++ bytesLE 4 t.frame ++ bytesLE 2 t.stripe
    ++ bytesLE 1 t.lines ++ bytesLE 1 (b2n t.last + 2 * b2n t.poisoned + 4 * b2n t.late) ++ bytesLE 2 t.seg ++ bytesLE 2 0

/-! ## Counts (R255, R256) -/

/-- Segments available to consumer m on FULL. -/
def LinkS.availFull (x : LinkS) (m : Nat) : Nat := m16 ((x.tallyFull : Int) - ((tget 0 x.waitFull m : Nat) : Int))

/-- Credits available on EMPTY: the least over the signalling consumers. -/
def LinkS.availEmpty (x : LinkS) (d : LinkCfg) : Nat :=
  d.cons.foldl (fun a m => min a (m16 (((tget 0 x.tallyEmpty m : Nat) : Int) + d.slots + x.returned - x.waitEmpty))) 65535

/-- Signal counts of FULL and EMPTY as LINK_STATE reports them. -/
def LinkS.sigFull (x : LinkS) : Nat := x.tallyFull
def LinkS.sigEmpty (x : LinkS) (d : LinkCfg) : Nat := m16 ((x.waitEmpty : Int) + x.availEmpty d)

/-- The partition of a link's chain. -/
def State.linkPart (s : State) (l : Nat) : Nat := s.chainPart (s.link l).chain

/-- A semaphore of the partition has advanced, or a wait of it has begun (R275): the instant STALL_US is measured from. -/
def State.noteAdvance (s : State) (p : Nat) : State := { s with eph := { s.eph with waitSince := tput s.eph.waitSince p s.now } }
def State.noteWait (s : State) (p : Nat) : State :=
  match tfind s.eph.waitSince p with
  | some _ => s
  | none => s.noteAdvance p

/-! ## Publishing (R259, R260, R269) -/

/-- A segment of the tag becomes late at a stage: its signal takes effect after dl(j, stage), in a real-time partition. -/
def State.lateAt (s : State) (d : LinkCfg) (t : Tag) : Bool :=
  s.realTime (s.chainPart d.chain) &&
    match s.flight t.source t.frame with
    | some f => decide (s.dlAt t.source f.expectAt t.stripe d.consStage < s.now)
    | none => false

/-- Count a late segment and mark the frames of its tag. -/
def State.noteLate (s : State) (l : Nat) (d : LinkCfg) (t : Tag) : State :=
  let s1 := (s.bumpEph 2).markTag t fDeadline
  let srcs := s1.tagSources t
  { s1 with flights := s1.flights.map (fun f =>
    if srcs.contains f.source && f.frame == t.frame then
      { f with lateSegs := f.lateSegs + 1, lateFirst := match f.lateFirst with
          | some x => some x
          | none => some (d.consStage, t.stripe, l) }
    else f) }

/-- Publish one segment with its tag: into the next slot, one more on FULL's tally. -/
def State.publish (s : State) (l : Nat) (t : Option Tag) : State :=
  let d := s.link l
  let x := s.lnk l
  let late := match t with
    | some t => s.lateAt d t
    | none => false
  let s1 := match t with
    | some t => if late then s.noteLate l d t else s
    | none => s
  let slot := x.published % max d.slots 1
  let tags := match t with
    | some t => tput x.tags slot { t with late := t.late || late }
    | none => tdel x.tags slot
  (s1.putLnk l { x with published := x.published + 1, tallyFull := (x.tallyFull + 1) % 65536, tags }).noteAdvance (s.linkPart l)

/-- Publish several, in order. -/
def State.publishAll (s : State) (l : Nat) (ts : List (Option Tag)) : State := ts.foldl (fun s t => s.publish l t) s

/-- The tags of a signal of COUNT k on FULL: consecutive SEG values, LAST on the last one under END_STRIPE. -/
def Signal.tags (g : Signal) : List (Option Tag) :=
  (List.range g.count).map (fun i => g.tag.map (fun t => { t with seg := (g.seg + i) % 65536, last := g.endStripe && i + 1 == g.count }))

/-! ## Windows (R257) -/

/-- A FULL signal of k keeps every waiter's window. -/
def LinkS.fullOk (x : LinkS) (d : LinkCfg) (k : Nat) : Bool := d.cons.all (fun m => decide (x.availFull m + k ≤ 255))

/-- An EMPTY signal of k by consumer m keeps the window and releases only what m has admitted. -/
def LinkS.emptyOk (x : LinkS) (d : LinkCfg) (m k : Nat) : Bool :=
  decide (m16 (((tget 0 x.waitFull m : Nat) : Int) - ((tget 0 x.tallyEmpty m : Nat) : Int) - k) < 32768) &&
    decide (({ x with tallyEmpty := tput x.tallyEmpty m ((tget 0 x.tallyEmpty m + k) % 65536) } : LinkS).availEmpty d ≤ 255)

/-- The signal takes effect on EMPTY. -/
def State.signalEmpty (s : State) (l m k : Nat) : State :=
  let x := s.lnk l
  (s.putLnk l { x with tallyEmpty := tput x.tallyEmpty m ((tget 0 x.tallyEmpty m + k) % 65536) }).noteAdvance (s.linkPart l)

/-! ## Waiting (R256, R258) -/

/-- The segments that a wait on FULL would admit, as tags: of published segments the tag published with them, POISONED
while the link is fenced; beyond them, on a fenced link, the waiting context's own stripe. -/
def State.admitTags (s : State) (l m k : Nat) (own : Option Tag) : List (Option Tag) :=
  let d := s.link l
  let x := s.lnk l
  let a := tget 0 x.admitted m
  (List.range k).map (fun i =>
    if a + i < x.published then
      (tfind x.tags ((a + i) % max d.slots 1)).map (fun t => if x.fenced then { t with poisoned := true } else t)
    else own.map (fun t => { t with seg := 0, last := false, poisoned := true }))

/-- A wait of k by member m can complete. -/
def State.canWait (s : State) (l : Nat) (full : Bool) (m k : Nat) : Bool :=
  let x := s.lnk l
  x.fenced || (if full then decide (k ≤ x.availFull m) else decide (k ≤ x.availEmpty (s.link l)))

/-- The wait completes: its count advances; on FULL the segments are admitted. -/
def State.takeWait (s : State) (l : Nat) (full : Bool) (m k : Nat) : State :=
  let x := s.lnk l
  if full then
    s.putLnk l { x with waitFull := tput x.waitFull m ((tget 0 x.waitFull m + k) % 65536)
                        admitted := tput x.admitted m (tget 0 x.admitted m + k) }
  else s.putLnk l { x with waitEmpty := (x.waitEmpty + k) % 65536 }

/-! ## Claims (R261 to R264) -/

/-- The WCTR_CFG link of a counter. -/
def State.ctrLink (s : State) (w : Nat) : Nat := fld (s.rget (0x4A_0000 + 0x10 * w)) 0 10

/-- The stripe entry of a CLAIMED link for a tag. -/
def LinkS.stripeOf (x : LinkS) (t : Tag) : Option LinkStripe := x.stripes.find? (fun e => e.tag.same t)

/-- Slots taken so far on a CLAIMED link, without wrap: the end of the last stripe begun. -/
def LinkS.claimEnd (x : LinkS) : Nat := x.stripes.foldl (fun a e => max a (e.base + e.limit)) 0

/-- Begin a stripe on a CLAIMED link after the last slot of the one before it; stripes whose slots are all reused go. -/
def State.beginStripe (s : State) (l : Nat) (t : Tag) (limit : Nat) : State :=
  let x := s.lnk l
  let d := s.link l
  let keep := x.stripes.filter (fun e => decide (x.published < e.base + e.limit + 2 * d.slots))
  s.putLnk l { x with stripes := keep ++ [{ tag := t, limit, base := x.claimEnd }] }

/-- A tile is claimed: the completion record of its slot's last use goes. -/
def State.useSlot (s : State) (l : Nat) (t : Tag) (tile : Nat) : State :=
  let x := s.lnk l
  let d := s.link l
  match x.stripeOf t with
  | some e => s.putLnk l { x with done := x.done.filter (fun c => c.slot + d.slots != e.base + tile) }
  | none => s

/-- What a counter answers (R262). -/
inductive Answer where
  | tile (i seq : Nat)
  | exhausted (seq : Nat)
  | notReady
  deriving DecidableEq, Repr

/-- The counter's answer to a claim of a stripe with a LIMIT, and the counter after it. `stuck` says that a fault of the
counter's atomic leaves NEXT where it is (the example of R264). -/
def WorkCtr.answer (w : WorkCtr) (t : Tag) (limit : Nat) (stuck : Bool) : Answer × WorkCtr :=
  let adv := { w with seq := (w.seq + 1) % 2 ^ 32 }
  let serves := match w.cur with
    | some c => c.same t
    | none => false
  let before := match w.prev with
    | some c => c.same t
    | none => false
  if serves then
    if w.next < w.limit then (.tile w.next w.seq, { adv with next := if stuck then w.next else w.next + 1 })
    else (.exhausted w.seq, adv)
  else if before then (.exhausted w.seq, adv)
  else if w.cur.isNone || decide (w.limit ≤ w.next) then
    (.tile 0 w.seq, { adv with prev := w.cur, cur := some t, next := if stuck then 0 else 1, limit })
  else (.notReady, w)

/-- How a completion on a CLAIMED link stands (R264). -/
inductive Completes where
  | first (slot : Nat)
  | duplicate (equal : Bool)
  | reused
  deriving DecidableEq, Repr

def State.completes (s : State) (l : Nat) (c : ClaimS) : Completes :=
  let x := s.lnk l
  match x.done.find? (fun e => e.tag.same c.tag && e.tile == c.tile) with
  | some e => .duplicate (e.crc == c.crc)
  | none =>
    match x.stripeOf c.tag with
    | some e => if e.base + c.tile < x.published then .reused else .first (e.base + c.tile)
    | none => .reused

/-- The length of the run of completed tiles from a slot on. -/
def LinkS.runFrom (x : LinkS) (slot : Nat) : Nat → Nat
  | 0 => 0
  | n + 1 => if x.done.any (fun e => e.slot == slot) then x.runFrom (slot + 1) n + 1 else 0

/-- How many segments a completion publishes: those of the run that it makes up with the tiles completed behind it (R257, R264). -/
def State.completeRun (s : State) (l : Nat) (c : ClaimS) : Nat :=
  match s.completes l c with
  | .first slot => let x := s.lnk l; if slot = x.published then x.runFrom (slot + 1) (s.link l).slots + 1 else 0
  | _ => 0

/-- Drain writes under the claim are stored: its tile is neither completed nor its slot taken by another stripe (R264). -/
def State.claimStores (s : State) (l : Nat) (c : ClaimS) : Bool :=
  match s.completes l c with
  | .first _ => true
  | _ => false

/-- Advance FULL over the longest run of completed tiles in slot order. -/
def State.publishRun (s : State) (l : Nat) : Nat → State
  | 0 => s
  | n + 1 =>
    let x := s.lnk l
    match x.done.find? (fun e => e.slot == x.published) with
    | some e =>
      let lim := match x.stripeOf e.tag with
        | some st => st.limit
        | none => 0
      (s.publish l (some { e.tag with seg := e.tile, last := e.tile + 1 == lim })).publishRun l n
    | none => s

/-- A duplicate completion: equal results are MASKED, different ones DETECTED (R264). -/
def State.dupClaim (s : State) (l core : Nat) (c : ClaimS) (equal : Bool) : State :=
  let s1 := s.markTag c.tag (if equal then fMasked else fDetected)
  (s1.bumpEph (if equal then 4 else 5)).raise
    { cls := if equal then 0x23 else 0x24, action := if equal then 1 else 2, unit := core
      detail := c.tile % 65536 + l % 1024 * 2 ^ 16 + c.seq % 2 ^ 32 * 2 ^ 32
      frame := tagFrame (some c.tag) }

/-- A mismatching duplicate leaves the tile's slot content undefined (R264): free bytes, as far as the ring holds the slot. -/
def State.undefineSlot (s : State) (l : Nat) (c : ClaimS) : State :=
  let x := s.lnk l
  let d := s.link l
  match x.done.find? (fun e => e.tag.same c.tag && e.tile == c.tile) with
  | some e =>
    let a := (if d.pool then poolAt d.owner else vaultAt d.owner) + d.base + e.slot % max d.slots 1 * d.segBytes
    (s.wr a ((List.range d.segBytes).map (fun i => Config.freeByte (s.freeCount + i)))).useFree d.segBytes
  | none => s

/-- A completion takes effect. -/
def State.complete (s : State) (l core : Nat) (c : ClaimS) : State :=
  match s.completes l c with
  | .first slot =>
    let x := s.lnk l
    let s1 := s.putLnk l { x with done := x.done ++ [{ tag := c.tag, tile := c.tile, crc := c.crc, slot }] }
    s1.publishRun l ((s.link l).slots + 1)
  | .duplicate true => s.dupClaim l core c true
  | .duplicate false => (s.undefineSlot l c).dupClaim l core c false
  | .reused => s.dupClaim l core c false

/-! ## Fences (R258) -/

/-- Make links FENCED. -/
def State.fenceLinks (s : State) (p : Nat → LinkCfg → Bool) : State :=
  s.linkIds.foldl (fun s l => if p l (s.link l) then s.putLnk l { s.lnk l with fenced := true } else s) s

/-- The memory-side die whose control array holds a link's semaphores: beneath the core of CONS[0] (R252). -/
def LinkCfg.semDie (d : LinkCfg) : Nat :=
  match d.cons with
  | m :: _ => dieOf (m / 4)
  | [] => 0

end Sys2Proof.Machine
end

