-- ==== Sys2Proof/Machine/Occulter.lean ====
section
/-! DEFINITION. The Occulter (spec/14_faults_and_recovery.md R373, R374, R381 to R384): what a fence of a context, a core or a
die takes away, and the marks that failures leave on the stripe of a context. -/

namespace Sys2Proof.Machine

/-- The stripe that a context serves is marked POISONED in every tag it publishes, and in its frames (11 R297, 14 R366). -/
def State.poisonStripe (s : State) (n c : Nat) (t : Option Tag) : State :=
  match t with
  | none => s
  | some t =>
    let s1 := s.modCtx n c (fun x => match x.stripe with
      | some u => if u.same t then { x with poisoned := true } else x
      | none => x)
    s1.markTag t fPoisoned

/-- What a context loses: its walk and the instruction issued behind it, its drain jobs, its replay and what it waits for. -/
def CoreS.dropCtx (k : CoreS) (c : Nat) : CoreS :=
  { k with
    walks := tdel k.walks c
    queued := tdel k.queued c
    ahead := match k.ahead with
      | some p => if p.ctx = c then none else some p
      | none => none
    replay := match k.replay with
      | some w => if w.op.ctx = c then none else some w
      | none => none
    closed := k.closed.filter (fun x => x.walk.op.ctx != c)
    drain := k.drain.filter (fun j => j.op.ctx != c)
    ctxs := match tfind k.ctxs c with
      | some x => tput k.ctxs c { x with blocked := false, publish := none }
      | none => k.ctxs }

/-- Steps 2 to 5 of Table 14.4 for one context. -/
def State.revokeCtx (s : State) (n c : Nat) : State :=
  let s1 := s.putCore n ((s.core n).dropCtx c)
  let s2 := s1.fenceLinks (fun _ d => d.prods.contains (4 * n + c) || d.cons.contains (4 * n + c))
  (s2.activeSlots n).foldl (fun s k => if (s.strm n k).ctx = c then s.cancelStrm n k 3 else s) s2

/-- Steps 2 to 5 of Table 14.4 for one core: all its contexts, the links its vault owns, and every slot. -/
def State.revokeCore (s : State) (n : Nat) : State :=
  let s1 := s.putCore n ([0, 1, 2, 3].foldl (fun k c => k.dropCtx c) (s.core n))
  let s2 := s1.fenceLinks (fun _ d => d.prods.any (fun m => m / 4 == n) || d.cons.any (fun m => m / 4 == n)
    || (!d.pool && d.owner == n))
  s2.cancelAll n 3

/-- Fence a context. The record is written unless the context or its core is fenced already (R383). -/
def State.fenceCtx (s : State) (n c : Nat) (r : Report) : State :=
  let s1 := s.raise { r with action := 3, scope := 1, hasCtx := true }
  if s.ctxFenced n c then s1
  else ({ s1 with flt := { s1.flt with ctxs := (4 * n + c) :: s1.flt.ctxs } }).revokeCtx n c

/-- Fence a core with all its contexts. -/
def State.fenceCore (s : State) (n : Nat) (r : Report) : State :=
  let s1 := s.raise { r with action := 3, scope := 2 }
  if s.coreFenced n then s1
  else
    ({ s1 with flt := { s1.flt with cores := n :: s1.flt.cores
                                    hist := if s1.flt.hist.contains n then s1.flt.hist else n :: s1.flt.hist } }).revokeCore n

/-- Fence every core of a compute die: also the links whose semaphores or work counter lie in that die's pool. -/
def State.fenceDie (s : State) (d : Nat) (r : Report) : State :=
  let s1 := s.raise { r with action := 3, scope := 3 }
  if s.flt.dies.contains d then s1
  else
    let ns := (List.range 36).map (fun i => 36 * d + i)
    let new := ns.filter (fun n => !s1.coreFenced n)
    let s2 := { s1 with flt := { s1.flt with
      dies := d :: s1.flt.dies
      cores := new ++ s1.flt.cores
      hist := ns.filter (fun n => !s1.flt.hist.contains n) ++ s1.flt.hist } }
    let s3 := s2.fenceLinks (fun _ l => l.semDie == d || (l.claimed && l.counter / 64 == d) || (l.pool && l.owner == d))
    new.foldl (fun s n => s.revokeCore n) s3

/-- A fault that stops a context (R374): it is fenced, and the frame of its current stripe is marked FAULT_DETECTED. -/
def State.stopCtx (s : State) (n c cls detail : Nat) : State :=
  let t := (s.ctx n c).stripe
  let s1 := match t with
    | some t => s.markTag t fDetected
    | none => s
  s1.fenceCtx n c { cls, action := 3, unit := n + 256 * c, detail, frame := tagFrame t }

/-- The dies of a handshake kind: a core or its vault port is named by its compute die, another receiver by its compute die or,
as 4 more, by its memory-side die (Table 14.3). -/
def hsDieOk (die kind : Nat) : Bool := decide (die < 4) || (decide (2 ≤ kind) && decide (die < 8))

/-- HANDSHAKE_TIMEOUT (R373): the handshake of a kind at a die and mesh position has not been acknowledged for WD_US ticks. -/
def handshakeTimeout (die pos kind : Nat) (s : State) : State :=
  if !(s.timebaseRuns && bit (s.rget 0x6_0014) 16 && hsDieOk die kind && decide (pos < 36) && decide (kind < 6)) then s
  else
    let detail := die + pos * 16 + kind * 4096
    if kind ≤ 1 then s.fenceCore (36 * die + pos) { cls := 0x22, action := 3, unit := 36 * die + pos, detail }
    else s.fenceDie (die % 4) { cls := 0x22, action := 3, unit := 0x1000 + die, detail }

/-- LOCKSTEP (R372): the sequencer and its duplicate disagree. The spec defines no detail for the class, so it is a free
value (notes/assumptions/5.md). -/
def State.lockstep (s : State) (n : Nat) : State :=
  let (v, s1) := s.freeN
  s1.fenceCore n { cls := 0x21, action := 3, unit := n, detail := v % 2 ^ 64 }

/-! ## The commands -/

/-- HANDSHAKE_TIMEOUT (14 R373). -/
def execHandshakeTimeout (t : Nat) (die : Nat) (pos : Nat) (kind : Nat) (s : State) : Host.Outcome State Fault Refusal :=
  .next (handshakeTimeout die pos kind (s.advance t))

end Sys2Proof.Machine
end

