-- ==== Sys2Proof/Machine/Tensor.lean ====
section
/-! DEFINITION. Tensors as a core reads and writes them (spec/07 R181, R182, spec/10 R253), B8 blocks and their pairing
(spec/06 R172, R173, spec/13 R347), the coordinates that a window reads (spec/08 R198 to R201, spec/07 R194 to R196), and
drain-chain programs (spec/09 R226, R227). -/

namespace Sys2Proof.Machine

/-! ## Fields of a macro-instruction (Table 7.2) -/

def Op.f (o : Op) (off n : Nat) : Nat := leAt o.raw off n
def Op.opcode (o : Op) : Nat := o.f 0 1
def Op.flags (o : Op) : Nat := o.f 1 1
def Op.compat (o : Op) : Bool := nbit o.flags 0
def Op.folded (o : Op) : Bool := nbit o.flags 1
def Op.dep (o : Op) : Bool := nbit o.flags 5 || o.compat
def Op.wfmt (o : Op) : Nat := o.f 0x0C 1 % 4
def Op.sh (o : Op) : Nat := o.f 0x0D 1 % 32
def Op.subop (o : Op) : Nat := o.f 0x0E 1
def Op.groups (o : Op) : Nat := o.f 0x0F 1
def Op.codesAt (o : Op) : Nat := o.f 0x10 2 * 256
def Op.cb (o : Op) : Nat := o.f 0x12 2
def Op.tileM (o : Op) : Nat := max 1 (o.f 0x14 2)
def Op.ngrp (o : Op) : Nat := o.f 0x16 2
def Op.clampLo (o : Op) : Int := sx 32 (o.f 0x18 4)
def Op.clampHi (o : Op) : Int := sx 32 (o.f 0x1C 4)
def Op.abufBase (o : Op) : Nat := o.f 0x20 2
def Op.fx (o : Op) : Nat := max 1 (o.f 0x24 1)
def Op.fy (o : Op) : Nat := max 1 (o.f 0x25 1)
def Op.strideX (o : Op) : Nat := max 1 (o.f 0x26 1)
def Op.strideY (o : Op) : Nat := max 1 (o.f 0x27 1)
def Op.padL (o : Op) : Nat := o.f 0x28 1
def Op.padR (o : Op) : Nat := o.f 0x29 1
def Op.padT (o : Op) : Nat := o.f 0x2A 1
def Op.padB (o : Op) : Nat := o.f 0x2B 1
def Op.border (o : Op) : Nat := o.f 0x2C 1 % 4
def Op.eb (o : Op) : Int := Sys2Proof.Machine.sx 16 (o.f 0x30 2)
def Op.seqBase (o : Op) : Nat := o.f 0x32 2
def Op.opx (o : Op) (i : Nat) : Nat := o.f (0x34 + i) 1

/-- CONST_VAL saturated to the input format (08 R200). -/
def Op.constVal (o : Op) : Int := sat (fmtBits o.tin.fmt) (Sys2Proof.Machine.sx 16 (o.f 0x2E 2))

/-- Opcodes that walk tiles on the array: CONV, DWCONV, MATMUL, XFORM, the BWD opcodes, and POOL average. -/
def isArray (opc subop : Nat) : Bool :=
  opc == 1 || opc == 2 || opc == 3 || opc == 4 || opc == 0x20 || opc == 0x21 || (opc == 5 && subop == 1)
def Op.array (o : Op) : Bool := isArray o.opcode o.subop

/-- The diagonal mapping: DWCONV, CONV with GROUPS of 2 or more, POOL average (08 R207). -/
def isDiag (opc subop groups : Nat) : Bool := opc == 2 || (opc == 1 && 2 ≤ groups) || (opc == 5 && subop == 1)
def Op.diag (o : Op) : Bool := isDiag o.opcode o.subop o.groups

/-- Activation lines per position: 2 for S12 input (07 R186). -/
def Op.fa (o : Op) : Nat := if o.tin.fmt = 1 then 2 else 1

/-- Core cycles per position and K-step: f of 05 R142, f_d of 08 R209. -/
def Op.cyclesPer (o : Op) : Nat :=
  if o.diag then (if o.tin.fmt = 1 || o.wfmt = 3 then 4 else 2)
  else if o.opcode = 0x21 then 2
  else if o.tin.fmt = 1 || o.wfmt = 3 then 2 else 1

/-- Code-block bytes (06 R158) and load cycles (05 R142) of a weight format. -/
def codeBlock (w : Nat) : Nat :=
  match w with
  | 0 => 1024 | 1 => 768 | 2 => 512 | _ => 2048
def loadCycles (w : Nat) : Nat :=
  match w with
  | 0 => 2 | 1 => 2 | 2 => 1 | _ => 4

/-! ## Places -/

/-- Bytes of a link's ring, and its start. -/
def LinkCfg.ring (d : LinkCfg) : Nat := max 1 (d.slots * d.segBytes)
def LinkCfg.start (d : LinkCfg) : Nat := (if d.pool then poolAt d.owner else vaultAt d.owner) + d.base

/-- Device-memory address of a byte offset of a place, for the spaces that are memory. -/
def State.placeAt (s : State) (n : Nat) (p : Place) (o : Int) : Nat :=
  match p.space with
  | 0 => vaultAt n + o.toNat
  | 1 => poolAt (dieOf n) + o.toNat
  | _ =>
    let d := s.link p.ref
    d.start + (((p.origin * d.segBytes : Nat) + o) % ((d.ring : Nat) : Int)).toNat

/-- The place lies in the vault of another core that is fenced: reads return zeros, writes are discarded (14 R382). -/
def State.placeFenced (s : State) (n : Nat) (p : Place) : Bool :=
  p.space == 2 && (let d := s.link p.ref; !d.pool && d.owner != n && s.coreFenced d.owner)

/-- Bytes of a place. -/
def State.rdPlace (s : State) (n : Nat) (p : Place) (o : Int) (len : Nat) : List Byte :=
  if s.placeFenced n p then List.replicate len 0
  else (List.range len).map (fun i : Nat => memByte s.mem (s.placeAt n p (o + (i : Int))))

/-- Store bytes at a place, one piece up to the end of a ring and the rest at its start. -/
def State.wrPlace (s : State) (n : Nat) (p : Place) (o : Int) (bs : List Byte) : State :=
  if s.placeFenced n p then s
  else
    let a := s.placeAt n p o
    if p.space = 2 then
      let d := s.link p.ref
      let k := min bs.length (d.start + d.ring - a)
      (s.wr a (bs.take k)).wr d.start (bs.drop k)
    else s.wr a bs

/-- The lowest 8-byte word with an uncorrectable error in an interval. -/
def State.firstUe (s : State) (a n : Nat) : Option Nat :=
  (s.poison.filter (fun w => decide (w < a + n) && decide (a < w + 8))).foldl (fun m w =>
    match m with
    | some x => some (min x w)
    | none => some w) none

/-- An uncorrectable error in the `len` bytes that are read next from a place: at offset `o` of a memory, or at the head of the
ring of a stream, from `skip` on. -/
def State.placeUe (s : State) (n : Nat) (p : Place) (o : Int) (skip len : Nat) : Option Nat :=
  if s.poison = [] then none
  else if p.space = 3 then
    let x := s.strm n p.slot
    if s.strmLive n p then
      let f := (x.released + skip) % max x.qsize 1
      (s.firstUe (vaultAt n + x.qbase + f) (min len (x.qsize - f))).or (s.firstUe (vaultAt n + x.qbase) (len - (x.qsize - f)))
    else none
  else if s.placeFenced n p then none
  else s.firstUe (s.placeAt n p o) len

/-- Byte offset of element (e, y, x, c) (07 R182); y may be negative (08 R201). -/
def Tens.off (t : Tens) (e : Nat) (y x : Int) (c : Nat) : Int :=
  t.pl.base + (e * t.plane : Nat) + y * (t.line : Int) + x * (t.pix : Int) + (c * fmtSize t.fmt : Nat)

/-- One element read from memory. -/
def State.elem (s : State) (n : Nat) (t : Tens) (e : Nat) (y x : Int) (c : Nat) : Int :=
  fmtDec t.fmt (ofBytesLE (s.rdPlace n t.pl (t.off e y x c) (fmtSize t.fmt)))

/-! ## B8 blocks (06 R172 to R174) -/

/-- Blocks of a B8 tensor along c, and in all. -/
def Tens.blocksC (t : Tens) : Nat := ceilDiv t.c 16
def Tens.blocks (t : Tens) : Nat := t.e * t.h * t.w * t.blocksC

/-- What the pairing unit has before it: the bundle's first number and count, the block's place in its bundle, whether that is the
tensor's last bundle, the mantissas, the scale entry. -/
structure Block where
  seq : Nat
  count : Nat
  inBundle : Nat
  last : Bool
  mant : List Int
  e : Nat
  sseq : Nat
  deriving DecidableEq, Repr

/-- `len` bytes at offset `o` of a B8 sequence: in memory, or at the head of a stream's ring from `skip`. -/
def State.seqBytes (s : State) (n : Nat) (p : Place) (o : Nat) (skip len : Nat) : List Byte :=
  if p.space = 3 then
    let x := s.strm n p.slot
    if s.strmLive n p then s.ringRead n x (x.released + skip) len else List.replicate len 0
  else s.rdPlace n p (p.base + o) len

/-- Block q of a tensor; a stream gives its k-th block, in the order of the walk. -/
def State.block (s : State) (n : Nat) (t : Tens) (q k : Nat) : Block :=
  let d := if t.pl.space = 3 then k else q
  let b := d % 15
  let hd := s.seqBytes n t.pl (256 * (d / 15) + 240) 240 3
  let ms := s.seqBytes n t.pl (256 * (d / 15) + 16 * b) (16 * b) 16
  let se := ofBytesLE (s.seqBytes n t.scale (4 * q) 0 4)
  { seq := (leAt hd 0 2 + b) % 65536, count := leAt hd 2 1, inBundle := b
    last := if t.pl.space = 3 then decide ((s.strm n t.pl.slot).total ≤ 256 * (d / 15 + 1)) else decide (t.blocks ≤ 15 * (d / 15 + 1))
    mant := ms.map (fun x => sx 8 x.toNat)
    e := se % 64, sseq := nfld se 16 16 }

/-- The block and its scale entry have been delivered. -/
def State.blockReady (s : State) (n : Nat) (t : Tens) : Bool :=
  (t.pl.space != 3 || s.strmReady n t.pl 256) && (t.scale.space != 3 || s.strmReady n t.scale 4)

/-- The k-th block has been passed on: a stream's bundle is released with its last block, a scale entry at once. -/
def State.blockTaken (s : State) (n : Nat) (t : Tens) (k : Nat) : State :=
  let s1 := if t.pl.space = 3 && k % 15 = 14 then (s.takeStrm n t.pl 256).2 else s
  if t.scale.space = 3 then (s1.takeStrm n t.scale 4).2 else s1

/-- The block is in step (R347): equal numbers, a COUNT from 1 to 15, and in every bundle but the last the bundle holds it. -/
def Block.ok (b : Block) : Bool :=
  b.seq == b.sseq && 1 ≤ b.count && b.count ≤ 15 && (b.last || decide (b.inBundle < b.count))

/-! ## Fold geometry (07 R194, R196) -/

/-- The column of a folded input that a column reads: a member's own, or in a guard what the member's border gives. -/
def foldCol (mode : Nat) (const : Int) : List (Nat × Nat) → Int → Edge
  | [], _ => .value 0
  | [(s0, w)], u => shift s0 (borderAt mode const (u - s0) w)
  | (s0, w) :: (s1, w1) :: r, u =>
    let fg := s1 - (s0 + w)
    if u < ((s0 + w + fg / 2 : Nat) : Int) then shift s0 (borderAt mode const (u - s0) w)
    else foldCol mode const ((s1, w1) :: r) u
where
  shift (s0 : Nat) : Edge → Edge
    | .sample v => .sample (v + s0)
    | .value x => .value x

/-- The column that column u of the input reads. -/
def Op.col (o : Op) (u : Int) : Edge :=
  if o.fold = [] then borderAt o.border o.constVal u o.tin.w else foldCol o.border o.constVal o.fold u

/-- The line, relative to the stripe, that line v reads (08 R201). -/
def Op.row (o : Op) (v : Int) : Edge :=
  let y := v + o.y0
  match borderAt o.border o.constVal y o.hf with
  | .sample z => .sample (z - o.y0)
  | .value x => .value x

/-- Where an input value comes from. -/
inductive Src where
  | idle
  | value (x : Int)
  | mem (e : Nat) (y x : Int) (c : Nat)
  deriving DecidableEq, Repr

/-- The input sample of plane e, line v and column u of channel c, borders applied. -/
def Op.sample (o : Op) (e : Nat) (v u : Int) (c : Nat) : Src :=
  match o.row v, o.col u with
  | .value x, _ => .value x
  | _, .value x => .value x
  | .sample y, .sample x => .mem e y x c

/-- How many of a list of sources are read from the tensor. -/
def memCount (l : List Src) : Nat := l.countP (fun q => match q with | .mem .. => true | _ => false)

/-- Values of sources of a tensor in memory. -/
def State.valuesMem (s : State) (n : Nat) (t : Tens) (l : List Src) : List Int :=
  l.map (fun q => match q with
    | .idle => 0
    | .value x => x
    | .mem e y x c => s.elem n t e y x c)

/-- Values of sources in the order of a byte sequence. -/
def valuesSeq (fmt : Nat) : List Src → List Byte → List Int
  | [], _ => []
  | .idle :: r, bs => 0 :: valuesSeq fmt r bs
  | .value x :: r, bs => x :: valuesSeq fmt r bs
  | .mem _ _ _ _ :: r, bs => fmtDec fmt (ofBytesLE (bs.take (fmtSize fmt))) :: valuesSeq fmt r (bs.drop (fmtSize fmt))

/-- The sources can be read now. -/
def State.gatherReady (s : State) (n : Nat) (t : Tens) (l : List Src) : Bool :=
  t.pl.space != 3 || s.strmReady n t.pl (memCount l * fmtSize t.fmt)

/-- Values of sources; a stream's bytes are taken in their order. -/
def State.gather (s : State) (n : Nat) (t : Tens) (l : List Src) : List Int × State :=
  if t.pl.space = 3 then
    let (bs, s1) := s.takeStrm n t.pl (memCount l * fmtSize t.fmt)
    (valuesSeq t.fmt l bs, s1)
  else (s.valuesMem n t l, s)

/-- An uncorrectable error under sources that are about to be read (14 R368). -/
def State.srcUe (s : State) (n : Nat) (t : Tens) (l : List Src) : Option Nat :=
  if s.poison = [] then none
  else if t.pl.space = 3 then s.placeUe n t.pl 0 0 (memCount l * fmtSize t.fmt)
  else
    l.foldl (fun r q =>
      match r, q with
      | some a, _ => some a
      | none, .mem e y x c => s.placeUe n t.pl (t.off e y x c) 0 (fmtSize t.fmt)
      | none, _ => none) none

/-- An uncorrectable error under block q of a B8 tensor or under its scale entry; of a stream, under the block that comes `i` blocks
after the k-th, which is the next. -/
def State.blockUe (s : State) (n : Nat) (t : Tens) (q k i : Nat) : Option Nat :=
  let d := if t.pl.space = 3 then k + i else q
  let skip := 256 * ((k + i) / 15 - k / 15)
  ((s.placeUe n t.pl (t.pl.base + (256 * (d / 15) + 16 * (d % 15) : Nat)) (skip + 16 * (d % 15)) 16).or
    (s.placeUe n t.pl (t.pl.base + (256 * (d / 15) + 240 : Nat)) (skip + 240) 3)).or
    (s.placeUe n t.scale (t.scale.base + (4 * q : Nat)) (4 * i) 4)

/-! ## Positions -/

/-- Position p of an output tensor as (e, y, x). -/
def Tens.pos (t : Tens) (p : Nat) : Nat × Nat × Nat :=
  (p / (max 1 t.w * max 1 t.h), p / max 1 t.w % max 1 t.h, p % max 1 t.w)

/-- Position p of the diagonal mapping as (e, run, y) (08 R207). -/
def Op.diagPos (o : Op) (p : Nat) : Nat × Nat × Nat :=
  let rx := ceilDiv o.tout.w 64
  let h := max 1 o.tout.h
  (p / (max 1 rx * h), p / h % max 1 rx, p % h)

/-! ## Drain-chain programs (09 R226, R227) -/

/-- Operation entry from its 16 bytes. -/
def dopOf (bs : List Byte) : DOp :=
  { op := leAt bs 0 1, sh := leAt bs 1 1, c0 := leAt bs 2 2, nc := leAt bs 4 2, tab := leAt bs 6 1, src := leAt bs 7 1
    pidx := leAt bs 8 2, imm := leAt bs 10 2 }

/-- Bytes of an operation entry. -/
def State.dopBytes (s : State) (n dchain i : Nat) : List Byte := s.rd (vaultAt n + dchain * 64 + 16 + 16 * i) 16

/-- The operations of a program. -/
def State.dops (s : State) (n dchain : Nat) : List DOp :=
  if dchain = 0 then []
  else (List.range (s.rdLE (vaultAt n + dchain * 64) 1)).map (fun i => dopOf (s.dopBytes n dchain i))

/-- A drain parameter of an operation as resolved at issue or read from the vault: value i of its parameters, as S16. -/
def State.dpar (s : State) (n : Nat) (o : Op) (d : DOp) (i : Nat) : Int :=
  match d.src with
  | 0 => sx 16 (nfld (o.dp.getD (d.pidx + i / 2) 0) (16 * (i % 2)) 16)
  | 1 => sx 16 (s.rdLE (vaultAt n + d.pidx * 64 + 2 * i) 2)
  | _ => (d.imm : Int)

/-- α of BLEND and AUX: U16, above 32,768 taken as 32,768. -/
def State.dalpha (s : State) (n : Nat) (o : Op) (d : DOp) : Int :=
  let v := s.dpar n o d 0
  min 32768 (if v < 0 then v + 65536 else v)

end Sys2Proof.Machine
end

