-- ==== Sys2Proof/Machine/Issue.lean ====
section
/-! DEFINITION. Issue of a data macro-instruction: bound words, tensor descriptors, the checks of Table 7.7 in order, stream
activation (spec/07_macro_instructions_and_tiles.md R178 to R195, spec/08 R207, R218, spec/09 R229, R232, R234, spec/11 R283,
spec/13 R346, R350 to R361). -/

namespace Sys2Proof.Machine

/-- A failed issue check: its number, its class and the value that failed (R188). -/
structure IssueErr where
  check : Nat
  cls : Nat
  value : Nat
  deriving DecidableEq, Repr

abbrev Chk := Except IssueErr

def need (b : Bool) (e : IssueErr) : Chk Unit := if b then .ok () else .error e

/-- FORMAT of check 1, 3 or 4, and SHAPE. -/
def fmtE (c v : Nat) : IssueErr := ⟨c, 0x32, min v 0xFFFF⟩
def shapeE (c v : Nat) : IssueErr := ⟨c, 0x30, min v 0xFFFF⟩

/-! ## Bound words (R183) -/

/-- Word at an offset of a parameter set as it was read from the history (04 R125). -/
def setWord (set : List Byte) (off : Nat) : Nat := leAt set off 4

/-- The set bound to the frame of a tag, as it was read from the history. -/
def State.tagSet (s : State) (t : Tag) : Option (List Byte) := (s.flight t.source t.frame).map (·.set)

/-- The folded width of a FOLD instruction and its member 0 (R194); `none` without FOLD. -/
abbrev FoldW := Option (Nat × Nat)

/-- The source that bounds resolve against: the current stripe's, or member 0 of the fold (R183, R194). -/
def boundSrc (t : Tag) (foldW : FoldW) : Nat := (foldW.map (·.2)).getD t.source

/-- The set bound to the frame of a tag, of the source that bounds resolve against. -/
def State.boundSet (s : State) (t : Tag) (foldW : FoldW) : Option (List Byte) := s.tagSet { t with source := boundSrc t foldW }

/-- The base of a reference. -/
def State.boundBase (s : State) (tag : Option Tag) (foldW : FoldW) (ref pidx : Nat) : Option Nat :=
  match tag with
  | none => none
  | some t =>
    let src := boundSrc t foldW
    let e := s.src src
    match ref with
    | 1 => some ((foldW.map (·.1)).getD e.width)
    | 2 => some e.height
    | 3 => some e.exposures
    | 4 => some t.lines
    | 5 => (s.boundSet t foldW).map (fun set => setWord set (0x200 + 4 * pidx))
    | _ => none

/-- The value of a bound word. -/
def State.bound (s : State) (tag : Option Tag) (foldW : FoldW) (w : Nat) : Option Int :=
  if nfld w 0 4 = 0 then some (nfld w 16 16 : Nat)
  else
    (s.boundBase tag foldW (nfld w 0 4) (nfld w 9 6)).map (fun b =>
      let v : Int := (b : Int) + sx 16 (nfld w 16 16)
      let d : Int := ((2 ^ nfld w 4 4 : Nat) : Int)
      if nbit w 8 then -((-v) / d) else v / d)

/-- A bound word within Table 7.5. -/
def boundWf (w : Nat) : Bool := decide (nfld w 0 4 ≤ 5) && !nbit w 15 && (nfld w 0 4 != 0 || nfld w 4 5 == 0)

/-- A dimension: 1 to 65,535 (check 2). -/
def State.dim (s : State) (tag : Option Tag) (foldW : FoldW) (w : Nat) : Chk Nat :=
  match s.bound tag foldW w with
  | none => .error (shapeE 2 0)
  | some v => if 1 ≤ v ∧ v ≤ 65535 then .ok v.toNat else .error (shapeE 2 v.toNat)

/-! ## Tensor descriptors (R181, R182) -/

def State.descRaw (s : State) (n idx : Nat) : List Byte := s.rd (vaultAt n + 64 * idx) 64

/-- A descriptor within Table 7.4. -/
def descWf (d : List Byte) : Bool :=
  let fmt := leAt d 0 1
  let sp := leAt d 1 1
  let ref := leAt d 2 2
  decide (fmt ≤ 6) && decide (sp ≤ 3) && (match sp with
    | 2 => decide (1 ≤ ref) && decide (ref < 1024)
    | 3 => ref != 0
    | _ => ref == 0)
  && boundWf (leAt d 4 4) && boundWf (leAt d 8 4) && boundWf (leAt d 12 4) && boundWf (leAt d 16 4)
  && (fmt == 4 || leAt d 0x34 2 == 0) && zerosAt d 0x36 10 && ((fmt != 4 && fmt != 6) || zerosAt d 0x18 12)

/-- The ring origin of a link buffer: for a producer the slot that the next FULL signal will publish, or the slot of its
claimed tile; for a consumer the first slot of its latest wait (10 R253, R263). -/
def State.originOf (s : State) (n c l : Nat) (out : Bool) : Nat :=
  let d := s.link l
  let x := s.lnk l
  if out then
    if d.claimed then
      match (s.ctx n c).claim with
      | some k =>
        match x.stripeOf k.tag with
        | some e => (e.base + k.tile) % max d.slots 1
        | none => x.published % max d.slots 1
      | none => x.published % max d.slots 1
    else
      let inFlight := s.signals.foldl (fun a g => if g.link == l && g.full then a + g.count else a) 0
      (x.published + inFlight) % max d.slots 1
  else tget 0 (s.ctx n c).origins l

/-- The place a descriptor names, with the index registers of the context. -/
def State.placeOf (s : State) (n c : Nat) (d : List Byte) (out : Bool) : Place :=
  let ix := (s.ctx n c).idx
  let adv := (List.range 4).foldl (fun (a : Int) i => a + ((ix.getD i 0 : Nat) : Int) * sx 32 (leAt d (0x24 + 4 * i) 4)) 0
  { space := leAt d 1 1, ref := leAt d 2 2, base := (leAt d 0x14 4 : Int) + adv
    origin := if leAt d 1 1 = 2 then s.originOf n c (leAt d 2 2) out else 0, slot := 0, epoch := 0 }

/-- A tensor resolved for an instruction of context c of core n. -/
def State.tens (s : State) (n c idx : Nat) (out : Bool) (tag : Option Tag) (foldW : FoldW) : Chk Tens := do
  let d := s.descRaw n idx
  let w ← s.dim tag foldW (leAt d 4 4)
  let h ← s.dim tag foldW (leAt d 8 4)
  let ch ← s.dim tag foldW (leAt d 12 4)
  let e ← s.dim tag foldW (leAt d 16 4)
  let pl := s.placeOf n c d out
  let ds := s.descRaw n (leAt d 0x34 2)
  let sc := if leAt d 0x34 2 = 0 then pl else s.placeOf n c ds out
  if leAt d 0x34 2 != 0 then
    [4, 8, 12, 16].forM (fun o => do let _ ← s.dim tag foldW (leAt ds o 4))
  .ok { fmt := leAt d 0 1, pl, scale := sc, w, h, c := ch, e, pix := leAt d 0x18 4, line := leAt d 0x1C 4
        plane := leAt d 0x20 4 }

/-! ## Check 1: fields (Tables 7.2, 8.3, 8.4, 9.3, 13.1, 13.2) -/

/-- Opcodes with weights. -/
def hasWeights (opc subop : Nat) : Bool := opc == 1 || opc == 2 || opc == 3 || opc == 4 || opc == 0x20 || (opc == 5 && subop == 1)

/-- Value `v` is 0 unless the field is used, and then satisfies a range. -/
def fieldOk (used : Bool) (v : Nat) (range : Bool) : Bool := if used then range else v == 0

/-- PUB of an UPDATE as far as it acts: publication follows a STEP or is the work of PUBLISH (13 R360); 0 of anything else. -/
def updatePub (r : List Byte) : Nat :=
  if leAt r 0 1 = 0x22 && leAt r 0x34 1 % 4 != 1 then nfld (leAt r 0x34 1) 4 2 else 0

/-- MODE of an UPDATE, 3 of anything else. -/
def updateMode (r : List Byte) : Nat := if leAt r 0 1 = 0x22 then leAt r 0x34 1 % 4 else 3

/-- The OPX bytes are within their operator's table. -/
def opxOk (r : List Byte) : Bool :=
  let b (i : Nat) := leAt r (0x34 + i) 1
  match leAt r 0 1 with
  | 6 =>
    let ok (v : Nat) := decide (1 ≤ v) && decide (v ≤ 0x40_0000)
    ok (leAt r 0x34 4) && ok (leAt r 0x38 4)
  | 7 => decide (b 0 < 4) && zerosAt r 0x35 11
  | 4 =>
    let inv := leAt r 0x0E 1 == 1
    let inC := nbit (b 0) 1
    let outC := nbit (b 0) 2
    let cut := nbit (b 0) 3
    let keep := nbit (b 0) 4
    b 0 < 32 && (inC || !inv) && (outC || inv) && (!cut || !inv) && (!keep || inv)
      && (if cut || keep then decide (1 ≤ b 1) && decide (b 1 ≤ 64) else b 1 == 0)
      && (if cut then decide (b 2 ≤ 63) else b 2 == 0) && zerosAt r 0x37 9
  | 0x20 => decide (b 0 < 64) && zerosAt r 0x35 11
  | 0x21 => decide (b 0 < 128) && zerosAt r 0x35 11
  | 0x22 =>
    let pub := nfld (b 0) 4 2
    b 0 % 4 != 3 && !nbit (b 0) 3 && decide (b 0 < 64) && decide (b 1 ≤ 61) && decide (b 3 < 32)
      && (pub != 2 || decide (b 3 ≤ 16)) && (!(pub == 1 || pub == 2) || decide (leAt r 0x3A 2 < 2 ^ 14))
      && (updatePub r != 3 || leAt r 0x3A 2 != 0) && !nbit (leAt r 0x3C 2) 14 && decide (b 0xA < 4) && b 0xB == 0
  | _ => zerosAt r 0x34 12

/-- The fields of a data macro-instruction are within Table 7.2, and those its opcode does not use are 0. -/
def fieldsOk (r : List Byte) : Bool :=
  let f (o n : Nat) := leAt r o n
  let opc := f 0 1
  let sub := f 0x0E 1
  let fl := f 1 1
  let arr := isArray opc sub
  let wts := hasWeights opc sub
  let conv := opc == 1 || opc == 2 || opc == 5
  let filt := conv || opc == 6
  let one := opc == 3 || opc == 0x20 || opc == 0x21
  let fold := nbit fl 1
  fl < 64 && (!nbit fl 0 || opc == 1 || opc == 2 || opc == 3) && (fold || f 2 2 == 0)
    && f 4 2 != 0 && f 8 2 != 0
    && (match opc with
        | 0x21 => f 6 2 != 0
        | 7 => if f 0x34 1 % 4 = 0 then f 6 2 == 0 else f 6 2 != 0
        | 0x22 => f 0x34 1 % 4 != 0 || f 6 2 != 0
        | _ => f 6 2 == 0)
    && fieldOk (arr || opc == 5 || opc == 7) (f 0x0A 2) true
    && fieldOk wts (f 0x0C 1) (decide (f 0x0C 1 < 4))
    && fieldOk arr (f 0x0D 1) (decide (f 0x0D 1 < 32))
    && fieldOk (opc == 4 || opc == 5 || opc == 6) sub (decide (sub ≤ 1))
    && fieldOk (opc == 1) (f 0x0F 1) (f 0x0F 1 != 0)
    && fieldOk (wts && opc != 4 && opc != 5) (f 0x10 2) true
    && fieldOk wts (f 0x12 2) (decide (f 0x12 2 < 2 ^ 14))
    && fieldOk arr (f 0x14 2) (decide (1 ≤ f 0x14 2) && decide (f 0x14 2 ≤ 2048))
    && fieldOk (arr && opc != 5) (f 0x16 2) (decide (f 0x16 2 ≤ 1024))
    && fieldOk arr (f 0x18 4) true && fieldOk arr (f 0x1C 4) true
    && fieldOk arr (f 0x20 2) (decide (f 0x20 2 < 2 ^ 14))
    && fieldOk arr (f 0x22 2) (decide (1 ≤ f 0x22 2) && decide (f 0x22 2 ≤ 16384))
    && [0x24, 0x25, 0x26, 0x27].all (fun o =>
        if one then f o 1 == 1 else fieldOk filt (f o 1) (decide (1 ≤ f o 1) && decide (f o 1 ≤ 63)))
    && [0x28, 0x29, 0x2A, 0x2B].all (fun o => fieldOk conv (f o 1) (decide (f o 1 ≤ 63)))
    && fieldOk filt (f 0x2C 1) (decide (f 0x2C 1 < 4)) && f 0x2D 1 == 0
    && fieldOk (filt && f 0x2C 1 == 3) (f 0x2E 2) true && opxOk r

/-- Channels an operation applies to, of the N that the instruction produces; `none` where NC is 0 and N is unknown. -/
def DOp.count (d : DOp) (n : Option Nat) : Option Nat := if d.nc = 0 then n.map (· - d.c0) else some d.nc

/-- An operation entry within Table 9.4 for its instruction. Where a bound of N does not resolve, what depends on N is left to
check 2. -/
def dopOk (r : List Byte) (n : Option Nat) (bs : List Byte) : Bool :=
  let d := dopOf bs
  let opc := leAt r 0 1
  let sub := leAt r 0x0E 1
  let elt := opc == 7
  let std := (isArray opc sub && !isDiag opc sub (leAt r 0x0F 1)) || elt
  let nc := (d.count n).getD 1
  let noPar := d.src == 0 && d.pidx == 0
  let chPar := d.src == 1 || (d.src == 0 && decide (d.pidx + (nc - 1) / 2 < 64))
  let aPar := d.src == 1 || d.src == 2 || (d.src == 0 && decide (d.pidx < 64))
  zerosAt bs 12 4 && (d.nc == 0 || (match n with
      | some m => decide (d.c0 + d.nc ≤ m)
      | none => true))
    && decide (d.src ≤ 2) && (d.src == 2 || d.imm == 0) && (d.src != 2 || d.pidx == 0)
    && (match d.op with
        | 1 => d.tab == 0 && noPar && (decide (d.sh ≤ 31) || decide (225 ≤ d.sh))
        | 2 => d.tab == 0 && chPar && decide (d.sh ≤ 31)
        | 3 => d.tab == 0 && chPar && d.sh == 0
        | 4 => d.tab == 0 && std && decide (d.sh ≤ 31) && (d.src == 1 || (d.src == 0 && decide (d.pidx + 4 < 64)))
            && (List.range (nc / 3)).all (fun t => (d.c0 + 3 * t) / 64 == (d.c0 + 3 * t + 2) / 64)
        | 5 => decide (d.tab ≤ 3) && noPar && decide (d.sh ≤ 24)
        | 6 => d.tab == 0 && noPar && d.sh == 0
        | 7 => d.tab == 0 && aPar && d.sh == 0
        | 8 => d.tab == 0 && opc == 4 && nbit (leAt r 0x34 1) 2 && d.c0 == 0 && d.nc == 0 && d.src == 1 && decide (d.sh ≤ 31)
        | 9 => elt && leAt r 0x34 1 != 0 && decide (d.tab ≤ 3) && (if d.tab = 2 then aPar else noPar)
            && (if d.tab = 1 then decide (d.sh ≤ 31) else d.sh == 0)
        | _ => false)

/-- Every BLEND follows a SAVE over the same channels, given as (C0, number). -/
def blendOk (n : Option Nat) : List DOp → List (Nat × Nat) → Bool
  | [], _ => true
  | d :: r, saved =>
    let key := (d.c0, (d.count n).getD 0)
    if d.op = 6 then blendOk n r (key :: saved)
    else (d.op != 7 || saved.contains key || (n.isNone && saved.any (fun k => k.1 == d.c0))) && blendOk n r saved

/-- The drain-chain program is within 09 R226 to R232 and R234; `nOut` is N as far as it resolves. -/
def State.chainOk (s : State) (n : Nat) (r : List Byte) (nOut : Option Nat) (tag : Option Tag) : Bool :=
  let dchain := leAt r 0x0A 2
  if dchain = 0 then true
  else
    let hd := s.rd (vaultAt n + dchain * 64) 16
    let cnt := leAt hd 0 1
    let tap := leAt hd 1 1
    let ref := match tag with
      | some t => (s.tagSources t).any (fun i => (s.src i).reference)
      | none => false
    decide (cnt ≤ 15) && (tap == 0 || (decide (3 ≤ tap) && decide (tap ≤ 7))) && zerosAt hd 2 14
      && decide (dchain * 64 + 16 + 16 * cnt ≤ 0x40_0000)
      && (List.range cnt).all (fun i => dopOk r nOut (s.dopBytes n dchain i)) && blendOk nOut (s.dops n dchain) []
      && (!ref || cnt == 0 || (leAt r 0 1 == 7 && cnt == 1))

/-! ## Check 3: formats (Table 7.6, Table 13.3) -/

def formatsOk (r : List Byte) (tin tout : Nat) (aux : Option Nat) (v : Option Nat) : Bool :=
  let w := leAt r 0x0C 1
  let acc (f : Nat) := f == 0 || f == 1 || f == 2 || f == 3
  match leAt r 0 1 with
  | 1 | 2 | 3 => (tin == 0 || tin == 1) && acc tout
  | 4 => (tin == 0 || tin == 1) && (tout == 1 || tout == 2 || tout == 3) && w == 0
  | 5 => if leAt r 0x0E 1 = 1 then (tin == 0 || tin == 1) && acc tout && w == 0 else decide (tin ≤ 2) && tout == tin
  | 6 => decide (tin ≤ 2) && tout == tin
  | 7 => acc tin && acc tout && (match aux with
      | some a => acc a
      | none => true)
  | 8 => tout == tin
  | 0x20 => tin == 4 && (tout == 4 || tout == 3)
  | 0x21 => tin == 0 && aux == some 4 && (tout == 4 || tout == 3)
  | 0x22 =>
    match leAt r 0x34 1 % 4 with
    | 0 => (tin == 4 || tin == 3) && aux == some 4 && tout == 2 && v == some 5
    | 1 => (tin == 2 || tin == 3) && tout == 4
    | _ => tin == 2 && tout == 2
  | _ => false

/-- A B8 tensor's SCALE names a descriptor of FMT 6 (13 R346). -/
def State.scaleOk (s : State) (n idx : Nat) : Bool :=
  let d := s.descRaw n idx
  leAt d 0 1 != 4 || (leAt d 0x34 2 != 0 && leAt (s.descRaw n (leAt d 0x34 2)) 0 1 == 6)

/-! ## Sizes (R186, 08 R207, R219, 13 R351, R352) -/

/-- HOP of an XFORM pass. -/
def xformHop (r : List Byte) : Nat :=
  if leAt r 0x34 1 / 8 % 4 = 0 then 64 else 65 - leAt r 0x35 1

/-- Blocks along the axis. -/
def xformBlocks (r : List Byte) (tout : Tens) : Nat :=
  let size := if nbit (leAt r 0x34 1) 0 then tout.h else tout.w
  if nbit (leAt r 0x34 1) 4 then ceilDiv size (xformHop r) else ceilDiv size 64

/-- N, K, G, S and P of an array operation. -/
def sizes (r : List Byte) (tin tout : Tens) (aux : Option Tens) : Nat × Nat × Nat × Nat × Nat :=
  let opc := leAt r 0 1
  let fx := max 1 (leAt r 0x24 1)
  let fy := max 1 (leAt r 0x25 1)
  let diag := isDiag opc (leAt r 0x0E 1) (leAt r 0x0F 1)
  let cplxIn := nbit (leAt r 0x34 1) 1
  let cplxOut := nbit (leAt r 0x34 1) 2
  let k := match opc with
    | 1 => tin.c / max 1 (leAt r 0x0F 1) * fx * fy
    | 2 | 5 => fx * fy
    | 4 => if cplxIn then 128 else 64
    | 0x21 => tin.w * tin.h * tin.e
    | _ => tin.c
  let n := match opc with
    | 4 => if cplxOut then 128 else 64
    | 0x21 => tin.c
    | _ => tout.c
  let p := match opc with
    | 4 => xformBlocks r tout * tout.e * (if nbit (leAt r 0x34 1) 0 then tout.w else tout.h)
    | 0x21 => match aux with
        | some a => a.c
        | none => 0
    | _ => if diag then ceilDiv tout.w 64 * tout.h * tout.e else tout.w * tout.h * tout.e
  (n, k, if diag then n else ceilDiv n 64, ceilDiv k 32, p)

/-- Check 6 on pairs of a dimension and what it must equal: the first that differs is the value that failed. -/
def eqDims (l : List (Nat × Nat)) : Chk Unit :=
  match l.find? (fun e => e.1 != e.2) with
  | some e => .error (shapeE 6 e.1)
  | none => .ok ()

/-- The dimensions of two tensors, as pairs. -/
def sameShape (a b : Tens) : List (Nat × Nat) := [(a.w, b.w), (a.h, b.h), (a.c, b.c), (a.e, b.e)]

/-- Output size of a spatial dimension (R186), as an integer. -/
def outDim (i f st lo hi : Nat) : Int := ((i + lo + hi : Nat) - (f : Int)) / (max 1 st : Nat) + 1

/-! ## Fold lists (R194, R195) -/

structure Fold where
  /-- sources, and (first column, width) of each at FOLD_DIV d -/
  members : List Nat
  cols : List (Nat × Nat)
  guard : Nat
  deriving DecidableEq, Repr

/-- Starts of the members. -/
def foldStarts (fg : Nat) : List Nat → Nat → List (Nat × Nat)
  | [], _ => []
  | w :: r, s0 => (s0, w) :: foldStarts fg r (s0 + w + fg)

/-- The fold list an instruction names. -/
def State.foldList (s : State) (n : Nat) (r : List Byte) : Fold :=
  let b := s.rd (vaultAt n + 64 * leAt r 2 2) 64
  let d := nfld (leAt r 1 1) 2 3
  let ms := (List.range (leAt b 0 1)).map (fun i => leAt b (8 + 2 * i) 2 % 4096)
  let fg := leAt b 2 2 / 2 ^ d
  { members := ms, guard := leAt b 2 2, cols := foldStarts fg (ms.map (fun i => (s.src i).width / 2 ^ d)) 0 }

/-- The fold list is within Table 7.8. -/
def State.foldWf (s : State) (n : Nat) (r : List Byte) : Bool :=
  let b := s.rd (vaultAt n + 64 * leAt r 2 2) 64
  let c := leAt b 0 1
  decide (2 ≤ c) && decide (c ≤ 16) && leAt b 1 1 == 0 && decide (2 ≤ leAt b 2 2) && decide (leAt b 2 2 ≤ 256) && zerosAt b 4 4
    && (List.range 16).all (fun i => if i < c then decide (leAt b (8 + 2 * i) 2 < 4096) else leAt b (8 + 2 * i) 2 == 0)
    && zerosAt b 0x28 24

def Fold.width (f : Fold) : Nat := f.cols.foldl (fun a e => max a (e.1 + e.2)) 0

/-- What bounds of an instruction resolve against. -/
def State.foldW (s : State) (n : Nat) (r : List Byte) : FoldW :=
  if nbit (leAt r 1 1) 1 then
    let f := s.foldList n r
    some (f.width, f.members.headD 0)
  else none

/-- The conditions of R195. -/
def State.foldOk (s : State) (r : List Byte) (f : Fold) : Bool :=
  let d := nfld (leAt r 1 1) 2 3
  let opc := leAt r 0 1
  let spatial := opc == 1 || opc == 2 || opc == 5
  let sx := if spatial || opc == 6 then max 1 (leAt r 0x26 1) else 1
  let fg := f.guard / 2 ^ d
  match f.members with
  | [] => false
  | m0 :: _ =>
    let e0 := s.src m0
    f.members.all (fun i =>
      let e := s.src i
      e.chain == e0.chain && e.dt == e0.dt && e.height == e0.height && e.exposures == e0.exposures
        && e.stripeLines == e0.stripeLines && e.period == e0.period && e.width % (2 ^ d * sx) == 0)
    && f.guard % (2 ^ d * sx) == 0 && fg % 2 == 0 && decide (leAt r 0x28 1 ≤ fg / 2) && decide (leAt r 0x29 1 ≤ fg / 2)
    && (!spatial || f.cols.all (fun e => outDim e.2 (leAt r 0x24 1) sx (leAt r 0x28 1) (leAt r 0x29 1) == ((e.2 / sx : Nat) : Int)))

/-! ## Check 7: reach -/

/-- Lowest and one past the highest byte offset of a box of coordinates. -/
def Tens.span (t : Tens) (ylo yhi : Int) : Int × Int :=
  let hi := t.off (t.e - 1) yhi ((t.w : Int) - 1) (t.c - 1) + fmtSize t.fmt
  (t.off 0 ylo 0 0, hi)

/-- Bytes of a B8 or scale sequence. -/
def Tens.seqLen (t : Tens) (scale : Bool) : Nat := if scale then 4 * t.blocks else 256 * ceilDiv t.blocks 15

/-- A place whose bytes run from lo to hi lies within its space; the value that a failure reports. -/
def State.reachOk (s : State) (p : Place) (lo hi : Int) : Chk Unit :=
  match p.space with
  | 0 => need (decide (0 ≤ lo) && decide (hi ≤ 0x40_0000)) (shapeE 7 hi.toNat)
  | 1 => need (decide (0 ≤ lo) && decide (hi ≤ 0x100_0000)) (shapeE 7 hi.toNat)
  | 2 =>
    let d := s.link p.ref
    need (d.en && decide (hi - 1 - lo < (d.slots * d.segBytes : Nat))) (shapeE 7 (hi - lo).toNat)
  | _ => .ok ()

/-- Lines that an input tensor can be read at, relative to the stripe. -/
def inputLines (r : List Byte) (t tout : Tens) (y0 hf : Nat) : Int × Int :=
  let lo : Int := -(y0 : Int)
  let hi : Int := (hf : Int) - y0 - 1
  let cl (a b : Int) := (max lo (min 0 a), min hi (max ((t.h : Int) - 1) b))
  match leAt r 0 1 with
  | 1 | 2 | 5 =>
    let a : Int := -(leAt r 0x2A 1 : Int)
    cl a (((tout.h - 1) * leAt r 0x27 1 : Nat) + a + leAt r 0x25 1 - 1)
  | 6 =>
    let a := sx 16 (leAt r 0x3E 2) * 256
    cl (a / 65536) ((a + ((tout.h - 1) * leAt r 0x38 4 : Nat)) / 65536 + 1)
  | 4 =>
    if nbit (leAt r 0x34 1) 0 && nbit (leAt r 0x34 1) 3 then
      let off : Int := leAt r 0x36 1
      cl (-off) (((xformBlocks r tout - 1) * xformHop r : Nat) - off + 63)
    else (0, (t.h : Int) - 1)
  | _ => (0, (t.h : Int) - 1)

/-- Check 7 of one tensor with its scale tensor. -/
def State.reach (s : State) (t : Tens) (ylo yhi : Int) : Chk Unit := do
  if t.fmt = 4 then
    s.reachOk t.pl t.pl.base (t.pl.base + t.seqLen false)
    s.reachOk t.scale t.scale.base (t.scale.base + t.seqLen true)
  else if t.fmt = 6 then s.reachOk t.pl t.pl.base (t.pl.base + t.seqLen true)
  else
    let (lo, hi) := t.span ylo yhi
    s.reachOk t.pl lo hi

/-! ## The instruction -/

/-- Field h of the frame geometry: the first frame line of the stripe and the frame's height at the input (08 R201). -/
def State.frameLines (s : State) (n : Nat) (tag : Option Tag) (foldW : FoldW) (tIn h : Nat) : Nat × Nat :=
  match tag with
  | none => (0, h)
  | some t =>
    let e := s.src (boundSrc t foldW)
    let hw := leAt (s.descRaw n tIn) 8 4
    let linesOf (k : Nat) := ((s.bound (some { t with lines := k }) foldW hw).getD h).toNat
    let full := linesOf e.stripeLines
    let last := e.stripes - 1
    (t.stripe * full, last * full + linesOf (e.stripeHeight last))

/-! ## K-steps and passes (R138, R191) -/

/-- Every row of a K-step of a group is null, so that it is skipped (R138, R162). -/
def kstepNull (s : State) (n : Nat) (o : Op) (g st : Nat) : Bool :=
  o.opcode != 0x21 &&
    (List.range (min 32 (o.k - 32 * st))).all (fun i => s.rdLE (cbAt n (o.cb + g * (8 + 32 * o.s) + 8 + 32 * st + i) + 30) 1 % 2 == 1)

/-- Groups of a pass. -/
def Op.passGroups (o : Op) (q : Nat) : List Nat := (List.range (min o.gpp (o.g - q * o.gpp))).map (fun i => q * o.gpp + i)

end Sys2Proof.Machine
end

