-- ==== Sys2Proof/Machine/Walks.lean ====
section
/-! DEFINITION. What a walk reads and writes, element by element: the sources of the rows in the standard and diagonal
mappings (spec/08 R205 to R219), B8 blocks (spec/13 R348 to R352), windows of POOL and RESAMPLE (spec/08 R213 to R216), and
the bytes that an instruction's walk takes from or gives to each tensor (spec/11 Table 11.3). -/

namespace Sys2Proof.Machine

/-- Sum of f over 0 to n − 1. -/
def sumN (n : Nat) (f : Nat → Nat) : Nat := (List.range n).foldl (fun a i => a + f i) 0

/-! ## Blocks and positions -/

/-- Blocks of positions, and the positions of block b. -/
def Op.blocks (o : Op) : Nat := ceilDiv o.p o.tileM
def Op.rows (o : Op) (b : Nat) : Nat := min o.tileM (o.p - b * o.tileM)

/-- K-steps of a pass that every group of it skips, so that their activations are not fetched. -/
def State.passSkips (s : State) (n : Nat) (o : Op) (q ks : Nat) : Bool := (o.passGroups q).all (fun g => kstepNull s n o g ks)

/-! ## The standard mapping (R205) and XFORM (R219) -/

/-- Window row and column of a tap at an output position. -/
def Op.winY (o : Op) (y ty : Nat) : Int := ((y * o.strideY + ty : Nat) : Int) - (o.padT : Int)
def Op.winX (o : Op) (x tx : Nat) : Int := ((x * o.strideX + tx : Nat) : Int) - (o.padL : Int)

/-- AXIS, IN_CPLX, OUT_CPLX, CUT and KEEP of XFORM (Table 8.4). -/
def Op.xAxisY (o : Op) : Bool := nbit (o.opx 0) 0
def Op.xIn (o : Op) : Bool := nbit (o.opx 0) 1
def Op.xOut (o : Op) : Bool := nbit (o.opx 0) 2
def Op.xCut (o : Op) : Bool := nbit (o.opx 0) 3
def Op.xKeep (o : Op) : Bool := nbit (o.opx 0) 4

/-- Position p of an XFORM as (e, block, other coordinate), blocks in the place of their axis
(notes/assumptions/16.md). -/
def Op.xPos (o : Op) (p : Nat) : Nat × Nat × Nat :=
  let bl := max 1 (xformBlocks o.raw o.tout)
  if o.xAxisY then
    let w := max 1 o.tout.w
    (p / (bl * w), p / w % bl, p % w)
  else
    let h := max 1 o.tout.h
    (p / (bl * h), p % bl, p / bl % h)

/-- Source of reduction element k of an XFORM at position p. -/
def Op.xSrc (o : Op) (p k : Nat) : Src :=
  let (e, b, z) := o.xPos p
  let n := if o.xIn then k / 2 else k
  let co := if o.xIn then k % 2 else 0
  let u : Int := if o.xCut then ((b * xformHop o.raw + n : Nat) : Int) - (o.opx 2 : Int) else ((b * 64 + n : Nat) : Int)
  if o.xAxisY then o.sample e u z co else o.sample e z u co

/-- Source of reduction element k at position p in the standard mapping. -/
def Op.stdSrc (o : Op) (p k : Nat) : Src :=
  if o.k ≤ k then .idle
  else if o.opcode = 4 then o.xSrc p k
  else
    let (e, y, x) := o.tout.pos p
    let c := max 1 o.tin.c
    let tap := k / c
    o.sample e (o.winY y (tap / o.fx)) (o.winX x (tap % o.fx)) (k % c)

/-- The 32 row sources of a K-step at a position. -/
def Op.stdLine (o : Op) (p ks : Nat) : List Src := (List.range 32).map (fun i => o.stdSrc p (32 * ks + i))

/-! ## The diagonal mapping (R207, R212) -/

/-- Channels per convolution group, and the input channel of reduction element k of diagonal group g. -/
def Op.cg (o : Op) : Nat := if o.opcode = 1 then max 1 (o.tin.c / o.groups) else 1
def Op.diagChan (o : Op) (g k : Nat) : Nat :=
  if o.opcode = 1 then g / max 1 (o.n / o.groups) * o.cg + k % o.cg else g

/-- Filter row and column of reduction element k. -/
def Op.diagTap (o : Op) (k : Nat) : Nat × Nat := (k / o.cg / o.fx, k / o.cg % o.fx)

/-- Samples of a segment (R212). -/
def Op.segLen (o : Op) : Nat := 63 * o.strideX + o.fx

/-- Input lines, as (channel, line − Y of the stripe as a pattern, plane), that a K-step of a group references at (e, y),
without repeats. Lines are stored with an offset so that they are natural numbers. -/
def Op.diagLines (o : Op) (g ks e y : Nat) : List (Nat × Nat × Nat) :=
  (List.range (min 32 (o.k - 32 * ks))).foldl (fun l i =>
    let k := 32 * ks + i
    let key := (o.diagChan g k, e, y * o.strideY + (o.diagTap k).1)
    if l.contains key then l else l ++ [key]) []

/-- Sources of the segment of a line at run r. A sample that no window of the run covers occupies the segment and is not read
(R204). -/
def Op.segSrc (o : Op) (r : Nat) (key : Nat × Nat × Nat) : List Src :=
  let (c, e, v) := key
  let cols := min 64 (o.tout.w - 64 * r)
  (List.range o.segLen).map (fun i =>
    if i - min (i / o.strideX) (cols - 1) * o.strideX < o.fx then
      o.sample e ((v : Int) - (o.padT : Int)) (o.winX (64 * r) i) c
    else .idle)

/-- Lines that position p brings in when the walk was at position p − 1 of the same tile and K-step. -/
def Op.newLines (o : Op) (g ks p : Nat) (first : Bool) : List (Nat × Nat × Nat) :=
  let (e, r, y) := o.diagPos p
  let now := o.diagLines g ks e y
  if first then now
  else
    let (e0, r0, y0) := o.diagPos (p - 1)
    if e0 = e ∧ r0 = r then
      let old := o.diagLines g ks e0 y0
      now.filter (fun k => !old.contains k)
    else now

/-! ## B8 operands (13 R348, R351, R352) -/

/-- Blocks that rows 0 to 15 and 16 to 31 of K-step ks take at position p of BWD_DATA. -/
def Op.bwdBlocks (o : Op) (p ks : Nat) : List Nat :=
  ([2 * ks, 2 * ks + 1].filter (fun c => decide (c < o.tin.blocksC))).map (fun c => p * o.tin.blocksC + c)

/-- BWD_WGT takes the blocks of its 32 forward positions when o′ enters a block of channels, or a tile begins. -/
def wgtLoads (op m : Nat) : Bool := m == 0 || op % 16 == 0

/-- Blocks that the rows of K-step ks take for forward output channel o′. -/
def Op.wgtBlocks (o : Op) (ks ch : Nat) : List Nat :=
  match o.aux with
  | some a => (List.range (min 32 (o.k - 32 * ks))).map (fun r => (32 * ks + r) * a.blocksC + ch / 16)
  | none => []

/-- Sources of the code block of BWD_WGT: X of 32 forward positions and 64 channels. -/
def Op.wgtCodes (o : Op) (ks g : Nat) : List Src :=
  (List.range 2048).map (fun i =>
    let pos := 32 * ks + i / 64
    let c := 64 * g + i % 64
    if pos < o.k && c < o.n then
      let (e, y, x) := o.tin.pos pos
      .mem e y x c
    else .idle)

/-! ## Opcodes without tiles (R193) -/

/-- Sources of output element (e, y, x, c) of POOL maximum, RESAMPLE, ELTW and UPDATE. -/
def Op.elemSrc (o : Op) (e y x c : Nat) : List Src :=
  match o.opcode with
  | 5 => (List.range (o.fx * o.fy)).map (fun i => o.sample e (o.winY y (i / o.fx)) (o.winX x (i % o.fx)) c)
  | 6 =>
    let px : Int := sx 16 (o.f 0x3C 2) * 256 + (x * o.f 0x34 4 : Nat)
    let py : Int := sx 16 (o.f 0x3E 2) * 256 + (y * o.f 0x38 4 : Nat)
    if o.subop = 0 then [o.sample e ((py + 0x8000) / 65536) ((px + 0x8000) / 65536) c]
    else
      let x0 := px / 65536
      let y0 := py / 65536
      [o.sample e y0 x0 c, o.sample e y0 (x0 + 1) c, o.sample e (y0 + 1) x0 c, o.sample e (y0 + 1) (x0 + 1) c]
  | _ => [.mem e y x c]

/-- Source of the aux operand of an ELTW (Table 9.5). -/
def Op.auxSrc (o : Op) (e y x c : Nat) : Src :=
  match o.opx 0 with
  | 2 => .mem 0 0 0 c
  | 3 => .mem e y x 0
  | _ => .mem e y x c

/-- Elements of the output of an instruction without tiles, and element i as (e, y, x, c). -/
def Tens.count (t : Tens) : Nat := t.e * t.h * t.w * t.c
def Tens.coord (t : Tens) (i : Nat) : Nat × Nat × Nat × Nat :=
  let c := max 1 t.c
  let (e, y, x) := t.pos (i / c)
  (e, y, x, i % c)

/-- The fold's guard columns are dropped at the drain of a chain's last stage (09 R238). -/
def State.dropsGuards (s : State) (n : Nat) (o : Op) : Bool := o.fold != [] && s.lastStage (4 * n + o.ctx)

/-- Members of the output fold as (first column, width): the input's columns divided by the stride (R195). -/
def Op.outFold (o : Op) : List (Nat × Nat) :=
  let st := if o.opcode = 1 || o.opcode = 2 || o.opcode = 5 || o.opcode = 6 then o.strideX else 1
  o.fold.map (fun e => (e.1 / st, e.2 / st))

/-- Output column x belongs to a member, not to a guard. -/
def Op.inMember (o : Op) (x : Nat) : Bool := o.outFold.any (fun e => decide (e.1 ≤ x) && decide (x < e.1 + e.2))

/-- The sample at output column x is written. -/
def State.writesCol (s : State) (n : Nat) (o : Op) (x : Nat) : Bool := !s.dropsGuards n o || o.inMember x

/-! ## Bytes of a walk (11 Table 11.3) -/

/-- Bytes of the data and scale sequences of `b` blocks. -/
def b8Bytes (b : Nat) (scale : Bool) : Nat := if scale then 4 * b else 256 * ceilDiv b 15

/-- Sum over the blocks, passes and K-steps of a walk that are fetched. -/
def State.sumWalk (s : State) (n : Nat) (o : Op) (f : Nat → Nat → Nat → Nat) : Nat :=
  sumN o.blocks (fun b => sumN o.passes (fun q => sumN o.s (fun ks => if s.passSkips n o q ks then 0 else f b q ks)))

/-- Bytes that the walk takes from T_IN; `scale` asks for its scale tensor. -/
def State.tinBytes (s : State) (n : Nat) (o : Op) (scale : Bool) : Nat :=
  let sz := fmtSize o.tin.fmt
  if o.opcode = 0x20 then
    b8Bytes (s.sumWalk n o (fun b _ ks => sumN (o.rows b) (fun m => (o.bwdBlocks (b * o.tileM + m) ks).length))) scale
  else if o.opcode = 0x21 then s.sumWalk n o (fun _ q ks => sz * ((o.passGroups q).foldl (fun a g => a + memCount (o.wgtCodes ks g)) 0))
  else if o.diag then
    sz * sumN o.blocks (fun b => sumN o.g (fun g => sumN o.s (fun ks =>
      if kstepNull s n o g ks then 0
      else sumN (o.rows b) (fun m =>
        let p := b * o.tileM + m
        ((o.newLines g ks p (m == 0)).foldl (fun a k => a + memCount (o.segSrc (o.diagPos p).2.1 k)) 0)))))
  else if o.array then s.sumWalk n o (fun b _ ks => sz * sumN (o.rows b) (fun m => memCount (o.stdLine (b * o.tileM + m) ks)))
  else if o.tin.fmt = 4 then b8Bytes o.tin.blocks scale
  else if o.tin.fmt = 6 then 4 * o.tin.blocks
  else sz * sumN o.tout.count (fun i => let (e, y, x, c) := o.tout.coord i; memCount (o.elemSrc e y x c))

/-- Bytes that the walk takes from T_AUX. -/
def State.auxBytes (s : State) (n : Nat) (o : Op) (scale : Bool) : Nat :=
  match o.aux with
  | none => 0
  | some a =>
    if o.opcode = 0x21 then
      b8Bytes (s.sumWalk n o (fun b _ ks => sumN (o.rows b) (fun m =>
        let ch := b * o.tileM + m
        if wgtLoads ch m then (o.wgtBlocks ks ch).length else 0))) scale
    else if a.fmt = 4 then b8Bytes a.blocks scale
    else fmtSize a.fmt * o.tout.count

/-- Bytes that the walk gives to T_OUT. -/
def State.toutBytes (s : State) (n : Nat) (o : Op) (scale : Bool) : Nat :=
  if o.tout.fmt = 4 then b8Bytes o.tout.blocks scale
  else if o.tout.fmt = 6 then 4 * o.tout.blocks
  else
    let cols := if s.dropsGuards n o then o.outFold.foldl (fun a e => a + e.2) 0 else o.tout.w
    fmtSize o.tout.fmt * (o.tout.e * o.tout.h * cols * o.tout.c)

end Sys2Proof.Machine
end

