-- ==== Sys2Proof/Machine/Resolve.lean ====
section
/-! DEFINITION. Stream descriptors (spec/11 R281 to R283), the checks of Table 7.7 in order (spec/07 R187), and the issue of a
data macro-instruction with its streams. -/

namespace Sys2Proof.Machine

/-! ## Stream descriptors (R281, R282, Table 11.3) -/

def State.sdRaw (s : State) (n idx : Nat) : List Byte := s.rd (vaultAt n + 128 * idx) 128

/-- Number of dimensions. -/
def sdDims (d : List Byte) : Nat := nfld (leAt d 0 1) 2 3

/-- Check 1 of a stream: EN, DIR as the tensor is used, DIMS, SPACE, UNIT and reserved bytes. -/
def sdWf (d : List Byte) (write : Bool) : Bool :=
  let ctl := leAt d 0 1
  let sp := leAt d 1 1
  let u := leAt d 2 2
  nbit ctl 0 && nbit ctl 1 == write && decide (1 ≤ sdDims d) && decide (sdDims d ≤ 5) && decide (ctl < 64) && decide (sp ≤ 4)
    && (match sp with
        | 2 => decide (u < 4)
        | 3 => decide (u < 144)
        | 4 => decide (u < 4) && nbit ctl 1
        | _ => u == 0)
    && (List.range (sdDims d)).all (fun i => boundWf (leAt d (0x48 + 12 * i) 4)) && nfld (leAt d 8 8) 36 28 == 0 && zerosAt d 0x25 3 && zerosAt d 0x38 8 && zerosAt d 0x7C 4

/-- The stream descriptors that an instruction's tensors name: each with its direction. `idx` are descriptor indices. -/
def State.streamRefs (s : State) (n : Nat) (ins outs : List Nat) : List (Nat × Bool) :=
  let of (w : Bool) (i : Nat) : List (Nat × Bool) :=
    let d := s.descRaw n i
    let sc := leAt d 0x34 2
    let ds := s.descRaw n sc
    (if leAt d 1 1 = 3 then [(leAt d 2 2, w)] else [])
      ++ (if leAt d 0 1 = 4 && sc != 0 && leAt ds 1 1 = 3 then [(leAt ds 2 2, w)] else [])
  (ins.filter (· != 0)).flatMap (of false) ++ (outs.filter (· != 0)).flatMap (of true)

/-- COUNT of dimension i. -/
def State.sdCount (s : State) (tag : Option Tag) (foldW : FoldW) (d : List Byte) (i : Nat) : Option Int :=
  s.bound tag foldW (leAt d (0x48 + 12 * i) 4)

/-- Check 1 of COUNT words and check 2 of a stream. -/
def State.sdCounts (s : State) (tag : Option Tag) (foldW : FoldW) (d : List Byte) : Chk Unit := do
  (List.range (sdDims d)).forM (fun i => do
    match s.sdCount tag foldW d i with
    | some v => need (decide (1 ≤ v) && decide (v ≤ 65535)) (shapeE 2 v.toNat)
    | none => .error (shapeE 2 0))
  need (decide (1 ≤ leAt d 4 4) && decide (leAt d 4 4 ≤ 65536)) (shapeE 2 (leAt d 4 4))

/-- The first address of the traversal: BASE with the index registers, the stripe and the ring frame. -/
def State.sdBase (s : State) (n c : Nat) (tag : Option Tag) (d : List Byte) : Int :=
  let ix := (s.ctx n c).idx
  let adv := (List.range 4).foldl (fun (a : Int) i => a + ((ix.getD i 0 : Nat) : Int) * sx 32 (leAt d (0x28 + 4 * i) 4)) 0
  let st := match tag with
    | some t => ((t.stripe : Nat) : Int) * sx 32 (leAt d 0x1C 4)
        + ((t.frame % (leAt d 0x24 1 % 16 + 1) * leAt d 0x20 4 * 4096 : Nat) : Int)
    | none => 0
  (leAt d 8 8 : Int) + adv + st

/-- Bytes of a space. -/
def spaceSize (sp : Nat) : Nat :=
  match sp with
  | 0 => 2 ^ 35 | 1 => 2 ^ 34 | 2 => 2 ^ 24 | 3 => 2 ^ 22 | _ => 2 ^ 18

/-- Lowest and highest offset that the dimensions add. -/
def State.sdSpan (s : State) (tag : Option Tag) (foldW : FoldW) (d : List Byte) : Int × Int :=
  (List.range (sdDims d)).foldl (fun (a : Int × Int) i =>
    let k := ((s.sdCount tag foldW d i).getD 1).toNat
    let st : Int := sx 32 (leAt d (0x44 + 12 * i) 4)
    let x := (leAt d (0x40 + 12 * i) 4 : Int) * st
    let y := ((leAt d (0x40 + 12 * i) 4 + (k - 1) : Nat) : Int) * st
    (a.1 + min x y, a.2 + max x y)) (0, 0)

/-- Bytes that an activation moves. -/
def State.sdTotal (s : State) (tag : Option Tag) (foldW : FoldW) (d : List Byte) : Nat :=
  (List.range (sdDims d)).foldl (fun a i => a * ((s.sdCount tag foldW d i).getD 0).toNat) (leAt d 4 4)

/-- Check 7 of a stream: its ring, its reach, and its byte count against the walk's. -/
def State.sdReach (s : State) (n c : Nat) (tag : Option Tag) (foldW : FoldW) (ref bytes : Nat) : Chk Unit := do
  let d := s.sdRaw n ref
  let qb := leAt d 0x10 4
  let qs := leAt d 0x14 4
  let run := leAt d 4 4
  need (qb % 4096 == 0 && qs % 4096 == 0 && decide (4096 ≤ qs) && decide (qs ≤ 2 ^ 20) && decide (qb + qs ≤ 0x40_0000)
    && decide (ceilDiv (2 * run) 256 * 256 ≤ qs)) (shapeE 7 (qb + qs))
  let b := s.sdBase n c tag d
  let (lo, hi) := s.sdSpan tag foldW d
  need (decide (0 ≤ b + lo) && decide (b + hi + run ≤ spaceSize (leAt d 1 1))) (shapeE 7 (b + hi + run).toNat)
  need (s.sdTotal tag foldW d == bytes) (shapeE 7 (s.sdTotal tag foldW d))

/-- Check 7 of the streams of an instruction. -/
def State.streamReach (s : State) (n c : Nat) (foldW : FoldW) (o : Op) : Chk Unit := do
  let one (p : Place) (bytes : Nat) : Chk Unit := if p.space = 3 then s.sdReach n c o.stripe foldW p.ref bytes else .ok ()
  one o.tin.pl (s.tinBytes n o false)
  if o.tin.fmt = 4 then one o.tin.scale (s.tinBytes n o true)
  match o.aux with
  | some a =>
    one a.pl (s.auxBytes n o false)
    if a.fmt = 4 then one a.scale (s.auxBytes n o true)
  | none => .ok ()
  if updateMode o.raw != 2 then
    one o.tout.pl (s.toutBytes n o false)
    if o.tout.fmt = 4 then one o.tout.scale (s.toutBytes n o true)

/-! ## The checks of Table 7.7 -/

/-- Descriptors that an instruction names: T_IN, T_AUX, T_OUT, V_DESC of STEP, the target of a TENSOR publication; 0 where it names
none. -/
structure Named where
  tin : Nat
  aux : Nat
  tout : Nat
  v : Nat
  pub : Nat

def namedOf (r : List Byte) : Named :=
  let opc := leAt r 0 1
  { tin := leAt r 4 2, aux := if opc = 0x22 && updateMode r != 0 then 0 else leAt r 6 2, tout := leAt r 8 2
    v := if updateMode r = 0 then leAt r 0x38 2 else 0, pub := if updatePub r = 3 then leAt r 0x3A 2 else 0 }

def Named.all (d : Named) : List Nat := [d.tin, d.aux, d.tout, d.v, d.pub].filter (· != 0)

/-- The stream descriptors that they name; T_OUT of PUBLISH is not written. -/
def State.namedStreams (s : State) (n : Nat) (r : List Byte) : List (Nat × Bool) :=
  let d := namedOf r
  s.streamRefs n [d.tin, d.aux] (if updateMode r = 2 then [d.pub] else [d.tout, d.v, d.pub])

/-- A dimension of a descriptor as far as it resolves. -/
def State.dimOf (s : State) (n idx off : Nat) (tag : Option Tag) (foldW : FoldW) : Option Nat :=
  (s.dim tag foldW (leAt (s.descRaw n idx) off 4)).toOption

/-- N of the instruction (R186), as far as it resolves. -/
def State.nOut (s : State) (n : Nat) (r : List Byte) (tag : Option Tag) (foldW : FoldW) : Option Nat :=
  match leAt r 0 1 with
  | 4 => some (if nbit (leAt r 0x34 1) 2 then 128 else 64)
  | 0x21 => s.dimOf n (leAt r 4 2) 12 tag foldW
  | _ => s.dimOf n (leAt r 8 2) 12 tag foldW

/-- T_IN.C and T_OUT.C of an XFORM are those of Table 8.4, as far as they resolve. -/
def State.xformOk (s : State) (n : Nat) (r : List Byte) (tag : Option Tag) (foldW : FoldW) : Bool :=
  let is (idx : Nat) (cplx : Bool) : Bool := match s.dimOf n idx 12 tag foldW with
    | some c => c == (if cplx then 2 else 1)
    | none => true
  leAt r 0 1 != 4 || (is (leAt r 4 2) (nbit (leAt r 0x34 1) 1) && is (leAt r 8 2) (nbit (leAt r 0x34 1) 2))

/-- Check 1. EB and SEQ_BASE belong to an output in B8, EB also to an S32 gradient of STEP. -/
def State.check1 (s : State) (n : Nat) (r : List Byte) (tag : Option Tag) (foldW : FoldW) : Bool :=
  let d := namedOf r
  let fmt (i : Nat) := leAt (s.descRaw n i) 0 1
  let b8 := fmt d.tout == 4
  fieldsOk r && d.all.all (fun i => descWf (s.descRaw n i))
    && d.all.all (fun i => fmt i != 4 || leAt (s.descRaw n i) 0x34 2 == 0 || descWf (s.descRaw n (leAt (s.descRaw n i) 0x34 2)))
    && (!nbit (leAt r 1 1) 1 || s.foldWf n r) && (s.namedStreams n r).all (fun e => sdWf (s.sdRaw n e.1) e.2)
    && (b8 || leAt r 0x32 2 == 0) && (b8 || leAt r 0x30 2 == 0 || (updateMode r == 0 && fmt d.tin == 3))
    && s.xformOk n r tag foldW && s.chainOk n r (s.nOut n r tag foldW) tag

/-- The instruction with what issue fixes (R185 to R190); check 2 where a bound does not resolve. Its streams are still to be
activated. -/
def State.opOf (s : State) (n c index : Nat) (r : List Byte) (tag : Option Tag) (foldW : FoldW) : Chk Op := do
  let d := namedOf r
  let opc := leAt r 0 1
  let fl := s.foldList n r
  let folded := nbit (leAt r 1 1) 1
  let opt (i : Nat) (out : Bool) : Chk (Option Tens) := if i = 0 then .ok none else (s.tens n c i out tag foldW).map some
  let tin ← s.tens n c d.tin false tag foldW
  let aux ← opt d.aux false
  let tout ← s.tens n c d.tout true tag foldW
  let vt ← opt d.v true
  let pt ← opt d.pub true
  (s.namedStreams n r).forM (fun e => s.sdCounts tag foldW (s.sdRaw n e.1))
  let (nN, k, g, st, p) := sizes r tin tout aux
  let (y0, hf) := s.frameLines n tag foldW d.tin tin.h
  let (outY0, outHf) := s.frameLines n tag foldW d.tout tout.h
  let accW := s.rget (coreReg n (0x20 + 4 * c))
  let accRows := fld accW 16 12
  let tileM := max 1 (leAt r 0x14 2)
  let ngrp := leAt r 0x16 2
  let gReq := if ngrp = 0 then g else min ngrp g
  let gpp := if nbit (leAt r 1 1) 0 then g else max 1 (min gReq (accRows / tileM))
  let words (off cnt : Nat) : List Nat := match tag with
    | some t => (List.range cnt).map (fun i => setWord ((s.boundSet t foldW).getD []) (off + 4 * i))
    | none => List.replicate cnt 0
  let dchain := leAt r 0x0A 2
  .ok {
    ctx := c, index, raw := r, tin, aux, tout, vt, pubT := pt
    n := if isArray opc (leAt r 0x0E 1) then nN else tout.c, k, s := st, g, p, gpp
    passes := ceilDiv g (max 1 gpp), banks := if 2 * gpp * tileM ≤ accRows then 2 else 1, accBase := fld accW 0 11, y0, hf
    outY0, outHf, fold := if folded then fl.cols else [], members := if folded then fl.members else []
    chain := s.dops n dchain, tap := if dchain = 0 then 0 else s.rdLE (vaultAt n + dchain * 64 + 1) 1
    dp := words 0x100 64, hyper := if opc = 0x22 then words (0x200 + 4 * leAt r 0x35 1) 3 else [], stripe := tag }

/-- The codebook words that receive centroids in a publication, with the entries each must have (13 R360, R361). -/
def Op.centroidWords (o : Op) : List (Nat × Nat) :=
  if updatePub o.raw = 1 then
    let w := o.f 0x3A 2 + 8
    let tw := o.f 0x3C 2 % 2 ^ 14 + 8
    (List.range (min o.tout.c 16384)).map (fun i => (w + i, o.tout.w))
      ++ (if nbit (o.f 0x3C 2) 15 then (List.range (min o.tout.w 16384)).map (fun i => (tw + i, o.tout.c)) else [])
  else []

/-- Entries of a codebook word by its FMT; 0 for a NULL word or direct weights. -/
def State.wordEntries (s : State) (n w : Nat) : Nat :=
  let b := s.rdLE (cbAt n w + 30) 1
  if b % 2 = 1 then 0
  else
    match nfld b 1 2 with
    | 0 => 16 | 1 => 8 | 2 => 4 | _ => 0

/-- Check 3: Tables 7.6 and 13.3, scale tensors, and the words and the tensor that a publication writes. -/
def State.check3 (s : State) (n : Nat) (o : Op) : Bool :=
  let r := o.raw
  let d := namedOf r
  formatsOk r o.tin.fmt o.tout.fmt (o.aux.map (·.fmt)) (o.vt.map (·.fmt)) && d.all.all (fun i => s.scaleOk n i)
    && (!(o.opcode == 0x21 && nbit (o.opx 0) 6) || (o.tout.fmt == 3 && decide (o.tout.pl.space ≤ 1)))
    && (match o.pubT with
        | some t => t.fmt == 0 || t.fmt == 2
        | none => true)
    && (o.opcode != 0x22 || updateMode r == 0 || (leAt r 6 2 == 0 && leAt r 0x38 2 == 0))
    && (updateMode r != 2 || d.tin == d.tout)
    && o.centroidWords.all (fun e => decide (16384 ≤ e.1) || s.wordEntries n e.1 != 0)

/-- Checks 5 and 6: the shapes of Table 7.7, of the matching operators (13 R351, R352, R355) and of publication (Table 13.4). -/
def State.shapesOk (s : State) (n : Nat) (o : Op) : Chk Unit := do
  let r := o.raw
  let opc := o.opcode
  let conv := opc == 1 || opc == 2 || opc == 5
  let ow := outDim o.tin.w (leAt r 0x24 1) (leAt r 0x26 1) (leAt r 0x28 1) (leAt r 0x29 1)
  let oh := outDim o.tin.h (leAt r 0x25 1) (leAt r 0x27 1) (leAt r 0x2A 1) (leAt r 0x2B 1)
  need (!conv || decide (1 ≤ ow)) (shapeE 5 ow.toNat)
  need (!conv || decide (1 ≤ oh)) (shapeE 5 oh.toNat)
  let wantW : Int := if conv then ow else (o.tin.w : Int)
  let wantH : Int := if conv then oh else (o.tin.h : Int)
  let same := conv || opc == 3 || opc == 7 || opc == 8
  need (!same || decide (((o.tout.w : Nat) : Int) = wantW)) (shapeE 6 o.tout.w)
  need (!same || decide (((o.tout.h : Nat) : Int) = wantH)) (shapeE 6 o.tout.h)
  need (!(same || opc == 6) || o.tout.e == o.tin.e) (shapeE 6 o.tout.e)
  need (opc != 1 || o.tin.c % max 1 o.groups == 0) (shapeE 6 o.tin.c)
  need (opc != 1 || o.tout.c % max 1 o.groups == 0) (shapeE 6 o.tout.c)
  need (!(opc == 2 || opc == 5 || opc == 6 || opc == 7 || opc == 8) || o.tout.c == o.tin.c) (shapeE 6 o.tout.c)
  (if opc = 0x20 then eqDims [(o.tout.w, o.tin.w), (o.tout.h, o.tin.h), (o.tout.e, o.tin.e)] else .ok ())
  (match opc, o.aux with
    | 0x21, some a => eqDims [(a.w, o.tin.w), (a.h, o.tin.h), (a.e, o.tin.e), (o.tout.w, a.c), (o.tout.h, 1), (o.tout.e, 1)
        , (o.tout.c, o.tin.c)]
    | 7, some a => (match leAt r 0x34 1 with
        | 1 => eqDims (sameShape a o.tout)
        | 2 => eqDims [(a.w, 1), (a.h, 1), (a.e, 1), (a.c, o.tout.c)]
        | _ => eqDims [(a.w, o.tout.w), (a.h, o.tout.h), (a.e, o.tout.e), (a.c, 1)])
    | _, _ => .ok ())
  (if opc = 0x22 then eqDims (([some o.tout, o.aux, o.vt, o.pubT].filterMap id).flatMap (fun a => sameShape a o.tin)) else .ok ())
  need (match updatePub r with
    | 1 => decide (o.tout.c ≤ 32) && o.tout.h == 1 && o.tout.e == 1
        && o.centroidWords.all (fun e => decide (16384 ≤ e.1) || decide (e.2 ≤ s.wordEntries n e.1))
    | 2 => o.tout.w == 1 && o.tout.h == 1 && o.tout.e == 1 && decide (o.tout.c ≤ 64)
    | _ => true) (shapeE 6 o.tout.w)

/-- Check 7: reach of every tensor and stream, and tensors that must lie in the core's own memories. -/
def State.check7 (s : State) (n c : Nat) (o : Op) (foldW : FoldW) : Chk Unit := do
  let (ilo, ihi) := inputLines o.raw o.tin o.tout o.y0 o.hf
  let full (a : Option Tens) : Chk Unit := match a with
    | some t => s.reach t 0 ((t.h : Int) - 1)
    | none => .ok ()
  s.reach o.tin ilo ihi
  full o.aux
  full (some o.tout)
  full o.vt
  full o.pubT
  s.streamReach n c foldW o
  let own (a : Option Tens) := match a with
    | some t => decide (t.pl.space ≤ 1) && (t.fmt != 4 || decide (t.scale.space ≤ 1))
    | none => true
  need (updateMode o.raw != 0 || (own o.aux && own (some o.tout) && own o.vt)) (shapeE 7 o.tout.pl.space)
  need (own o.pubT) (shapeE 7 0)

/-- Checks 1 to 7 of Table 7.7, after which the streams are activated (11 R283). -/
def State.resolve (s : State) (n c index : Nat) (r : List Byte) : Chk Op := do
  let tag := (s.ctx n c).stripe
  let foldW := s.foldW n r
  need (s.check1 n r tag foldW) (fmtE 1 0)
  let o ← s.opOf n c index r tag foldW
  need (s.check3 n o) (fmtE 3 0)
  need (!(o.array || o.opcode == 5) || decide (o.clampLo ≤ o.clampHi)) (fmtE 4 (leAt r 0x18 4))
  need (!o.array || o.tout.fmt != 3 || !o.chain.isEmpty || leAt r 0x0D 1 == 0) (fmtE 4 (leAt r 0x0D 1))
  s.shapesOk n o
  s.check7 n c o foldW
  .ok o

/-- Checks 8 to 15 of Table 7.7. -/
def State.lateChecks (s : State) (n : Nat) (o : Op) : Chk Unit := do
  let r := o.raw
  let opc := o.opcode
  let arr := o.array
  let wts := hasWeights opc (leAt r 0x0E 1)
  let accRows := fld (s.rget (coreReg n (0x20 + 4 * o.ctx))) 16 12
  -- 8 and 9
  let cb := o.cb + o.g * (8 + 32 * o.s)
  need (!wts || decide (cb ≤ 16384)) (shapeE 8 cb)
  let pw := if updatePub r = 2 then o.f 0x3A 2 + ceilDiv o.tout.c 8 else o.centroidWords.foldl (fun a e => max a (e.1 + 1)) 0
  need (decide (pw ≤ 16384)) (shapeE 8 pw)
  let codes := o.codesAt + o.g * o.s * codeBlock (leAt r 0x0C 1)
  need (!wts || opc == 4 || opc == 5 || decide (codes ≤ 0x40_0000)) (shapeE 9 codes)
  -- 10 to 13
  let lines := leAt r 0x22 2
  need (!arr || decide (o.abufBase + lines ≤ 16384)) (shapeE 10 (o.abufBase + lines))
  need (!arr || decide (2 * o.tileM * o.fa ≤ lines)) (shapeE 10 (2 * o.tileM * o.fa))
  need (!o.compat || o.k % 32 == 0) (shapeE 11 o.k)
  need (!o.compat || o.n % 64 == 0) (shapeE 11 o.n)
  need (!o.compat || o.tileM % 64 == 0) (shapeE 11 o.tileM)
  need (!o.compat || o.p % 64 == 0) (shapeE 11 o.p)
  need (!o.compat || o.ngrp == 0) (shapeE 11 o.ngrp)
  need (!arr || decide (o.tileM ≤ accRows)) ⟨12, if o.compat then 0x30 else 0x31, min o.tileM 0xFFFF⟩
  need (!o.compat || decide (o.g * o.tileM ≤ accRows)) (shapeE 13 (o.g * o.tileM))
  -- 14 and 15
  let fl := s.foldList n r
  need (!o.folded || s.foldOk r fl) (shapeE 14 fl.guard)
  let isFold := match o.stripe with
    | some t => t.fold
    | none => false
  need (o.folded == isFold) (shapeE 15 (b2n o.folded))

end Sys2Proof.Machine
end

