-- ==== Sys2Proof/Machine/Contexts.lean ====
section
/-! DEFINITION. Program contexts of a core (spec/05 R151, R152, spec/10 R272): which contexts can issue, what they wait for,
and the choice of the context that issues. -/

namespace Sys2Proof.Machine

/-- CTX_CFG of a context: EN and MQ_ENTRIES. -/
def State.ctxEn (s : State) (n c : Nat) : Bool := bit (s.rget (coreReg n (0x10 + 4 * c))) 0
def State.mqEntries (s : State) (n c : Nat) : Nat := fld (s.rget (coreReg n (0x10 + 4 * c))) 8 7

/-- The core runs: an image runs, in the power state RUN, its die is powered (16 R408, R418), and a re-arm has not stopped the
frames (02 R63). -/
def State.coreRuns (s : State) (n : Nat) : Bool :=
  s.live && decide (n < 144) && s.past14 && s.pwr.state == .run && s.diePowered (dieOf n) && !s.coreFenced n &&
    match s.boot.rearm with
    | some r => r.step == .drain
    | none => true

/-- The context runs its program: enabled, not fenced, and not stopped at an END. -/
def State.ctxRuns (s : State) (n c : Nat) : Bool :=
  s.coreRuns n && s.ctxEn n c && !s.ctxFenced n c && !(s.ctx n c).ended

/-- The macro-instruction at the head of a context's queue. -/
def State.head (s : State) (n c : Nat) : Option (Nat × List Byte) := (s.ctx n c).queue.head?

/-- The entry of the macro queue that takes the k-th macro-instruction fetched for a context: the contexts' shares stand in the
order of the contexts, and each is used round and round (05 R151; notes/assumptions/9.md). -/
def State.queueEntry (s : State) (n c k : Nat) : Nat :=
  (List.range c).foldl (fun a i => if s.ctxEn n i then a + s.mqEntries n i else a) 0 + k % max 1 (s.mqEntries n c)

/-- The entry that holds the head. -/
def State.headEntry (s : State) (n c : Nat) : Nat :=
  let x := s.ctx n c
  s.queueEntry n c (x.fetched - x.queue.length)

/-- An entry written anew: its check bits are those of what is written. -/
def State.queueWritten (s : State) (a : Nat) : State :=
  { s with poison := s.poison.filter (fun w => decide (w + 8 ≤ a) || decide (a + 64 ≤ w)) }

/-- The first word of the head's entry that is held in error (05 R131): its read fails with ECC_UE (14 R368). -/
def State.headUe (s : State) (n c : Nat) : Option Nat :=
  s.poison.find? (fun w => decide (mqAt n (s.headEntry n c) ≤ w) && decide (w < mqAt n (s.headEntry n c) + 64))

/-- A read in error of the macro queue: the core is fenced, as for the program's own word (notes/assumptions/17.md). -/
def State.fenceHead (s : State) (n a : Nat) : State :=
  s.fenceCore n { cls := 0x11, action := 3, unit := n, detail := memOffset a }

/-- Opcodes of Table 7.1. -/
def knownOpcode (r : List Byte) : Bool :=
  let o := leAt r 0 1
  (decide (1 ≤ o) && decide (o ≤ 8)) || (decide (0x10 ≤ o) && decide (o ≤ 0x14)) || (decide (0x20 ≤ o) && decide (o ≤ 0x22))

/-- The slots that an operation's output takes. -/
def Op.outSlots (o : Op) : List Nat :=
  (if o.tout.pl.space = 3 then [o.tout.pl.slot] else [])
    ++ (if o.tout.fmt = 4 && o.tout.scale.space = 3 then [o.tout.scale.slot] else [])

/-- Every output write of the context has been accepted, those of the slots in `own` left out: no tile of it waits for
comparison, replay or drain, and its write streams have ended (07 R177). -/
def State.ctxDrained (s : State) (n c : Nat) (own : List Nat) : Bool :=
  let k := s.core n
  k.closed.all (fun x => x.walk.op.ctx != c || !x.tileEnd) && k.drain.all (fun j => j.op.ctx != c || !j.tile)
    && (match k.replay with
      | some w => w.op.ctx != c
      | none => true)
    && (s.activeSlots n).all (fun i => (s.strm n i).ctx != c || !(s.strm n i).write || own.contains i)

/-- Unit number of a walk (07 R191), and whether a tile of it has begun. -/
def Walk.unit (w : Walk) : Nat := w.b * w.op.passes + w.pass
def Walk.begun (w : Walk) : Bool := w.loaded || w.loadLeft != 0 || w.unit != 0 || w.ks != 0 || w.slot != 0

/-- A tile is in progress on the array (CORE_STATUS.BUSY). -/
def State.coreBusy (s : State) (n : Nat) : Bool :=
  let k := s.core n
  k.replay.isSome || (match tfind k.walks k.cur with
    | some w => w.begun
    | none => false)

/-- The drain works on a tile (CORE_STATUS.DRAINING). -/
def State.coreDraining (s : State) (n : Nat) : Bool :=
  match (s.core n).drain with
  | j :: _ => j.tile
  | [] => false

/-- The walk has issued its last tile: the first K-step of the last tile of the last unit has begun (07 R177, R191). -/
def Walk.lastTile (w : Walk) : Bool :=
  let o := w.op
  w.b + 1 == ceilDiv o.p o.tileM && w.pass + 1 == o.passes
    && (w.ks != 0 || (w.slot + 1 == (o.passGroups w.pass).length && (w.loaded || w.loadLeft != 0)))

/-- No data macro-instruction of the context may issue: the one before has not issued its last tile, one is issued behind a walk
already, or an instruction without tiles or a publication is still being worked on (07 R177, 13 R362). -/
def State.dataWaits (s : State) (n c : Nat) : Bool :=
  let k := s.core n
  (match tfind k.walks c with
    | some w => !w.lastTile
    | none => false)
    || (tfind k.queued c).isSome || k.drain.any (fun j => j.op.ctx == c && !j.tile) || (s.ctx n c).publish.isSome

/-- A data macro-instruction of the context is still being walked or, without tiles, still being worked on: control
macro-instructions behind it do not issue (notes/assumptions/43.md). -/
def State.ctxBusy (s : State) (n c : Nat) : Bool := (tfind (s.core n).walks c).isSome || s.dataWaits n c

/-- WAIT_SEM fields. -/
def waitLink (r : List Byte) : Nat := leAt r 2 2
def waitFull (r : List Byte) : Bool := leAt r 4 1 == 0
def waitCount (r : List Byte) : Nat := leAt r 5 1

/-- The context can issue now: a walk goes on, or the head of its queue is an instruction that does not wait on a semaphore or
counter (R272). -/
def State.canIssue (s : State) (n c : Nat) : Bool :=
  s.ctxRuns n c &&
    (if (tfind (s.core n).walks c).isSome then true
     else if (s.ctx n c).publish.isSome then false
     else
       match s.head n c with
       | none => false
       | some (_, r) =>
         match leAt r 0 1 with
         | 0x11 => s.canWait (waitLink r) (waitFull r) (4 * n + c) (waitCount r)
         | 0x10 => (s.ctx n c).asked.isNone && !(s.ctx n c).blocked
         | _ => true)

/-- The stripe a context is judged by: its current one, or that of the head segment it is about to admit (R272). -/
def State.keyTag (s : State) (n c : Nat) : Option Tag :=
  let x := s.ctx n c
  if (tfind (s.core n).walks c).isSome then x.stripe
  else
    match s.head n c with
    | some (_, r) =>
      if leAt r 0 1 = 0x11 && waitFull r then
        match s.admitTags (waitLink r) (4 * n + c) 1 x.stripe with
        | t :: _ => t
        | [] => x.stripe
      else x.stripe
    | none => x.stripe

/-- The key of R272: deadline, rel(j), context number; a context without a deadline sorts last. -/
def State.ctxKey (s : State) (n c : Nat) : Nat × Nat × Nat :=
  let none' := 2 ^ 70
  match s.keyTag n c with
  | none => (none', none', c)
  | some t =>
    match s.flight t.source t.frame with
    | none => (none', none', c)
    | some f =>
      let part := (s.corePart n).getD 0
      let st := match s.ctxStage (4 * n + c) with
        | some (_, st) => st
        | none => 0
      let off := (s.src t.source).deadlineOffset
      let dl := if s.realTime part then s.dlAt t.source f.expectAt t.stripe st
        else if off = 0 then none' else f.expectAt + off
      (dl, s.relAt t.source f.expectAt t.stripe, c)

/-- Key order. -/
def keyLt (a b : Nat × Nat × Nat) : Bool :=
  if a.1 ≠ b.1 then decide (a.1 < b.1) else if a.2.1 ≠ b.2.1 then decide (a.2.1 < b.2.1) else decide (a.2.2 < b.2.2)

/-- The microsecond now running is not a clean one of the core's work (01 R24); one that the probe fills is (R25). -/
def State.paceWaits (s : State) (n : Nat) : State :=
  let p := s.pace
  let c := tget PaceCore.init p.cores n
  if c.probe then s else { s with pace := { p with cores := tput p.cores n { c with waited := true } } }

/-- The core has work at this instant (01 R25). -/
def State.noteWork (s : State) (n : Nat) : State :=
  let p := s.pace
  { s with pace := { p with cores := tput p.cores n { tget PaceCore.init p.cores n with lastWork := s.now } } }

/-- Work has arrived: the pace probe stops (01 R25). -/
def State.probeStops (s : State) (n : Nat) : State :=
  let p := s.pace
  let c := tget PaceCore.init p.cores n
  if c.probe then { s with pace := { p with cores := tput p.cores n { c with probe := false, waited := true } } } else s

/-- The core waits in this cycle: WAIT reads 1 while its issuing context has a program to go on with (05 Table 5.8). -/
def State.coreWaits (s : State) (n : Nat) : State :=
  if s.coreRuns n then
    let k := s.core n
    (s.putCore n { k with waiting := s.ctxRuns n k.cur }).paceWaits n
  else s

/-- At a point of R152: the context with the smallest key among those that can issue; the running one keeps the array unless
another's key is strictly smaller. With none, the core waits. -/
def State.pick (s : State) (n : Nat) : State :=
  let k := s.core n
  let cand := [0, 1, 2, 3].filter (fun c => s.canIssue n c)
  match cand with
  | [] => s.coreWaits n
  | c0 :: r =>
    let start := if cand.contains k.cur then k.cur else c0
    let best := r.foldl (fun b c => if keyLt (s.ctxKey n c) (s.ctxKey n b) then c else b)
      (if keyLt (s.ctxKey n c0) (s.ctxKey n start) then c0 else start)
    let s1 := (s.putCore n { k with cur := best, waiting := false }).probeStops n
    if best = k.cur then s1 else s1.paceWaits n

/-- Something has become ready: a core whose context cannot issue picks again; one whose context can has work. -/
def State.wake (s : State) (n : Nat) : State :=
  let k := s.core n
  if s.canIssue n k.cur then
    (if k.walks = [] then s.putCore n { k with waiting := false } else s).probeStops n
  else s.pick n

/-- Wake every core that has contexts with state. -/
def State.wakeAll (s : State) : State := s.cores.foldl (fun s e => s.wake e.1) s

/-- What follows the instruction at index i (R179): the loops left, the next index, and the index registers that advance.
Innermost loop first. -/
def loopStep (i : Nat) : List LoopS → List LoopS × Nat × List Nat
  | [] => ([], i + 1, [])
  | l :: r =>
    if l.last ≠ i then (l :: r, i + 1, [])
    else if l.left ≤ 1 then
      let (r1, nx, inc) := loopStep i r
      (r1, nx, l.idx :: inc)
    else ({ l with left := l.left - 1 } :: r, l.first, [l.idx])

/-- One more in index register k, modulo 65,536. -/
def bumpIdx (ix : List Nat) (k : Nat) : List Nat := lset ix k ((ix.getD k 0 + 1) % 65536)

/-- The context goes on after index i. -/
def Ctx.after (x : Ctx) (i : Nat) : Ctx :=
  let (ls, nx, inc) := loopStep i x.loops
  { x with loops := ls, fetchAt := nx, idx := inc.foldl bumpIdx x.idx }

/-- A macro-instruction of a context issues: it leaves the queue and is counted (ISSUED); the next index follows. -/
def State.issued (s : State) (n c i : Nat) : State :=
  (((s.bump64 (coreReg n 0xA0) 1).modCtx n c (fun x => { x.after i with queue := x.queue.drop 1, blocked := false })).probeStops
    n).noteWork n

/-- Index of the next macro-instruction to fetch: what follows the queue (R151). -/
def Ctx.fetchNext (x : Ctx) : Nat :=
  (x.queue.foldl (fun (a : List LoopS × Nat) e => let (ls, nx, _) := loopStep e.1 a.1; (ls, nx)) (x.loops, x.fetchAt)).2

/-- Fetch may go on: no LOOP, CLAIM with SKIP or END is waiting to issue (R180). -/
def Ctx.fetchFree (x : Ctx) : Bool :=
  x.queue.all (fun e =>
    let o := leAt e.2 0 1
    o != 0x13 && o != 0x14 && !(o == 0x10 && leAt e.2 5 1 != 0))

/-- A failing issue check stops the context (R188): ISSUE_LAST, the record, and the fence of R374. -/
def State.issueFail (s : State) (n c index : Nat) (r : List Byte) (e : IssueErr) : State :=
  let s1 := s.rput (coreReg n 0x48) (wd (e.check + c * 256 + 1024 + index % 65536 * 65536))
  let v := if e.check = 1 || e.check = 3 || e.check = 16 then 0 else e.value
  (s1.stopCtx n c e.cls (e.check + leAt r 0 1 * 256 + c * 2 ^ 16 + index % 65536 * 2 ^ 32 + min v 0xFFFF * 2 ^ 48)).pick n

end Sys2Proof.Machine
end

