-- ==== Sys2Proof/Machine/Security.lean ====
section
/-! DEFINITION. Fuses, keys and locks (spec/17_security_identity_and_time.md R426 to R437): the fuse array, the programming
requests of PROGRAM, FUSE_PROGRAM_DONE, and what a locked field does with a write. -/

namespace Sys2Proof.Machine

/-- A fuse word as sensed (R426): words 0 to 127 are state, 128 to 255 the Skoica region. -/
def State.fuse (s : State) (w : Nat) : Word := if w < 128 then tget 0 s.sec.fuses w else Config.skoicaFuse w

/-- Word 48: the key-slot bits. -/
def State.keyValid (s : State) (k : Nat) : Bool := bit (s.fuse 48) k
def State.keyRevoked (s : State) (k : Nat) : Bool := bit (s.fuse 48) (4 + k)
def State.aesValid (s : State) (k : Nat) : Bool := bit (s.fuse 48) (8 + k)
def State.aesRevoked (s : State) (k : Nat) : Bool := bit (s.fuse 48) (12 + k)
def State.debugDisable (s : State) : Bool := bit (s.fuse 48) 16

/-- The index of the lowest 0 bit of a word from bit b, at most n bits on. -/
def lowZero : Nat → Nat → Nat → Nat
  | 0, _, b => b
  | n + 1, w, b => if nbit w b then lowZero n w (b + 1) else b

/-- The rollback counter (R427): the lowest 0 bit of words 96 to 99, 0 to 127. -/
def State.rollback (s : State) : Nat :=
  let v := (s.fuse 96).toNat + (s.fuse 97).toNat * 2 ^ 32 + (s.fuse 98).toNat * 2 ^ 64 + (s.fuse 99).toNat * 2 ^ 96
  lowZero 127 v 0

/-- KEY_STATUS (Table 17.5). -/
def State.keyStatus (s : State) : Word := wd (fld (s.fuse 48) 0 17 + s.rollback * 2 ^ 24)

/-- FUSE_READ[w]: words 56 to 87 read 0 (R430). -/
def State.fuseRead (s : State) (w : Nat) : Word := if 56 ≤ w && w ≤ 87 then 0 else s.fuse w

/-- The bytes of a key hash: byte i in word w0 + i div 4 (R426). -/
def State.fuseBytes (s : State) (w0 n : Nat) : List Byte :=
  ((List.range (n / 4)).map (fun i => bytesLE 4 (s.fuse (w0 + i)).toNat)).flatten

/-- ORing a value into a fuse word. -/
def State.burn (s : State) (r : FuseReq) : State :=
  { s with sec := { s.sec with fuses := tput s.sec.fuses r.word (wd ((s.fuse r.word).toNat ||| r.value)) } }

/-- Refusals 1 and 2 of Table 17.2. -/
def State.fuseRefused (s : State) (r : FuseReq) : Bool :=
  let w := r.word
  if w ≤ 47 then s.keyValid (w / 12)
  else if w = 48 || w = 49 then false
  else if 56 ≤ w && w ≤ 87 then s.aesValid ((w - 56) / 8)
  else true

/-- Refusal 3: on the image path the value revokes a slot the image was loaded with. -/
def fuseSelfRevokes (r : FuseReq) (h : Header) : Bool :=
  r.word == 48 && (nbit r.value (4 + h.keySlot) || (h.aesSlot != 0xFF && nbit r.value (12 + h.aesSlot)))

/-- Debug is open (R436). -/
def State.debugOpen (s : State) : Bool := !s.debugDisable && s.sec.debugEn

/-- The request that FUSE_ADDR and FUSE_DATA name. -/
def State.fuseReq (s : State) : FuseReq := { word := fld (s.rget 0x4_0100) 0 8, value := (s.rget 0x4_0104).toNat }

/-- Send the next queued request to the fuse array. -/
def State.fuseNext (s : State) : State :=
  match s.sec.busy, s.sec.queue with
  | none, r :: rest => { s with sec := { s.sec with busy := some r, queue := rest } }.out (.fuseBurn r.word r.value)
  | _, _ => s

/-- FUSE_CMD.PROGRAM by MGMT or another path than the image's: provisioning in PUSH_WAIT or RECOVERY_WAIT on a device with
no valid key (R429). A command while BUSY is 1 is ignored. -/
def State.fuseProgram (s : State) (p : Path) : State :=
  if s.sec.busy.isSome then s
  else
    let r := s.fuseReq
    let ok := p == .mgmt && (s.boot.phase == .pushWait || s.boot.phase == .recoveryWait) && fld (s.fuse 48) 0 4 == 0
    if !ok || s.fuseRefused r then { s with sec := { s.sec with result := 1 } }
    else { s with sec := { s.sec with busy := some r, result := 0 } }.out (.fuseBurn r.word r.value)

/-- The next bits of the rollback counter to program towards a goal: one word (R427, 02 R57). -/
def State.svnReq (s : State) (goal : Nat) : Option FuseReq :=
  let v := s.rollback
  if goal ≤ v then none
  else
    let w := v / 32
    let top := min goal (32 * (w + 1))
    some { word := 96 + w, value := 2 ^ (top - 32 * w) - 2 ^ (v - 32 * w) }

/-- Start what is due after step 14: the counter advance first, then the queue (R429). -/
def State.fuseWork (s : State) : State :=
  if s.sec.busy.isSome || !s.past14 then s
  else
    match s.sec.svnGoal with
    | some g =>
      match s.svnReq g with
      | some r => { s with sec := { s.sec with busy := some r } }.out (.fuseBurn r.word r.value)
      | none => { s with sec := { s.sec with svnGoal := none } }.fuseNext
    | none => s.fuseNext

/-- FUSE_PROGRAM_DONE: programming and read-back of the word completes; `readBack` is what the fuse word then reads. A
word programmed is used from then on (R426); DEBUG_DISABLE closes debug for good (R436). Bits outside the request cannot
change, and a bit of it that did not take leaves RESULT at VERIFY_FAIL and ends a counter advance. -/
def fuseDone (readBack : Word) (s : State) : State :=
  match s.sec.busy with
  | none => s
  | some r =>
    let took := r.value &&& readBack.toNat
    let good := took == r.value || ((s.fuse r.word).toNat ||| took) == ((s.fuse r.word).toNat ||| r.value)
    let s1 := s.burn { r with value := took }
    let s2 := { s1 with sec := { s1.sec with busy := none, result := if good then 0 else 2
                                             svnGoal := if good then s1.sec.svnGoal else none
                                             debugEn := s1.sec.debugEn && !s1.debugDisable } }
    s2.fuseWork

/-- FUSE_STATUS (Table 17.5). -/
def State.fuseStatus (s : State) : Word := wd (b2n s.sec.busy.isSome + s.sec.result * 2 + (s.sec.queue.length % 128) * 8)

/-! ## Locks (R433, R434) -/

/-- A path as an origin of LOCK_VIOLATION: 0 BAR0 or BAR2, 1 MGMT, 2 JTAG, 3 DMA channel or stream. -/
def Path.origin : Path → Nat
  | .bar0 => 0 | .mgmt => 1 | .dbg => 2 | .image => 1

/-- Raise LOCK_VIOLATION for an address, a lock bit or 0x3F for a protected range, and an origin. -/
def State.lockViolation (s : State) (addr lock origin : Nat) : State :=
  s.raise { cls := 0x72, action := 2, unit := unitIo
            detail := addr % 2 ^ 32 + lock * 2 ^ 32 + origin * 2 ^ 40, origin := some origin }

/-! ## The commands -/

/-- FUSE_PROGRAM_DONE (17 R429). -/
def execFuseProgramDone (t : Nat) (readBack : Word) (s : State) : Host.Outcome State Fault Refusal :=
  .next (fuseDone readBack (s.advance t))

end Sys2Proof.Machine
end

