-- ==== Sys2Proof/Machine/DataOps.lean ====
section
/-! DEFINITION. The data macro-instructions (spec/07 Table 7.1): CONV to COPY, the BWD opcodes and UPDATE. Each issues the
instruction at the head of the issuing context's queue: the checks of Table 7.7, its streams (spec/11 R283), and a walk of tiles
(spec/07 R191) or a run of elements (R193). The arithmetic follows in CORE_CYCLE and DRAIN_ROW. -/

namespace Sys2Proof.Machine

/-! ## Streams at issue (R283) -/

/-- A free slot of a core. -/
def State.freeSlot (s : State) (n : Nat) (used : List Nat) : Option Nat :=
  (List.range 16).find? (fun k => !(s.strm n k).active && !used.contains k)

/-- The places of an operation's tensors that are streams: input and output, in the order T_IN, its scale, T_AUX, its scale,
T_OUT, its scale. -/
def Op.streamCount (o : Op) : Nat :=
  let one (t : Tens) := b2n (t.pl.space == 3) + b2n (t.fmt == 4 && t.scale.space == 3)
  one o.tin + (match o.aux with
    | some a => one a
    | none => 0) + (if updateMode o.raw = 2 then 0 else one o.tout)

/-- Free slots for all streams of an operation, or none. -/
def State.freeSlots (s : State) (n : Nat) : Nat → List Nat → Option (List Nat)
  | 0, used => some used
  | k + 1, used =>
    match s.freeSlot n used with
    | some i => State.freeSlots s n k (used ++ [i])
    | none => none

/-- An output of the last stage is outstanding for the frames of a tag (09 R239). -/
def State.outBegun (s : State) (n c : Nat) (t : Option Tag) : State :=
  match t with
  | some t =>
    if s.lastStage (4 * n + c) then
      let srcs := s.tagSources t
      { s with flights := s.flights.map (fun f =>
        if srcs.contains f.source && f.frame == t.frame then { f with outsLeft := f.outsLeft + 1 } else f) }
    else s
  | none => s

/-- Activate the stream of a place in a slot: the descriptor as resolved at issue. -/
def State.activate (s : State) (n c : Nat) (o : Op) (foldW : FoldW) (p : Place) (slot : Nat) (t : Tens) (write : Bool) : State :=
  let d := s.sdRaw n p.ref
  let dims := sdDims d
  let old := s.strm n slot
  let x : Strm := { Strm.init with
    active := true, write, epoch := (old.epoch + 1) % 256, desc := p.ref, space := leAt d 1 1, unit := leAt d 2 2
    run := max 1 (leAt d 4 4), base := s.sdBase n c o.stripe d, saved := old.saved, roff := old.roff
    starts := (List.range dims).map (fun i => leAt d (0x40 + 12 * i) 4)
    strides := (List.range dims).map (fun i => sx 32 (leAt d (0x44 + 12 * i) 4))
    counts := (List.range dims).map (fun i => ((s.sdCount o.stripe foldW d i).getD 1).toNat)
    qbase := leAt d 0x10 4, qsize := max 1 (leAt d 0x14 4), rate := leAt d 0x18 4, report := nbit (leAt d 0 1) 5
    total := s.sdTotal o.stripe foldW d, stripe := o.stripe, ctx := c, fmt := t.fmt, chans := t.c, w := t.w
    members := if s.dropsGuards n o then o.members.zip (o.outFold.map (·.2)) else [] }
  let s0 := s.putStrm n slot x.settle
  let s1 := match s0.lockedStrm n x, s0.protectedIn (vaultAt n + x.qbase) x.qsize with
    | true, some a => (s0.putStrm n slot { x.settle with halted := true }).lockViolation a 0x3F 3
    | _, _ => s0
  let s2 := s1.putCore n { s1.core n with bundles := tdel (s1.core n).bundles slot }
  if write then s2.outBegun n c o.stripe else s2

/-- The place of an activation: its slot and its request epoch. -/
def State.inSlot (s : State) (n : Nat) (p : Place) (k : Nat) : Place := { p with slot := k, epoch := (s.strm n k).epoch }

/-- Give slots to the places of a tensor and activate them. -/
def State.openTens (s : State) (n c : Nat) (o : Op) (foldW : FoldW) (t : Tens) (write : Bool) (slots : List Nat) :
    State × Tens × List Nat :=
  let (s1, t1, r1) := if t.pl.space = 3 then
      match slots with
      | k :: r =>
        let s1 := s.activate n c o foldW t.pl k t write
        (s1, { t with pl := s1.inSlot n t.pl k }, r)
      | [] => (s, t, [])
    else (s, t, slots)
  if t.fmt = 4 && t.scale.space = 3 then
    match r1 with
    | k :: r =>
      let s2 := s1.activate n c o foldW t.scale k { t with fmt := 6 } write
      (s2, { t1 with scale := s2.inSlot n t.scale k }, r)
    | [] => (s1, t1, [])
  else (s1, t1, r1)

/-- Activate the streams of an operation. -/
def State.openStreams (s : State) (n c : Nat) (o : Op) (foldW : FoldW) (slots : List Nat) : State × Op :=
  let (s1, ti, r1) := s.openTens n c o foldW o.tin false slots
  let (s2, au, r2) := match o.aux with
    | some a => let (x, b, r) := s1.openTens n c o foldW a false r1; (x, some b, r)
    | none => (s1, none, r1)
  let (s3, ou, _) := if updateMode o.raw = 2 then (s2, o.tout, r2) else s2.openTens n c o foldW o.tout true r2
  (s3, { o with tin := ti, aux := au, tout := ou })

/-! ## Walks and runs -/

/-- The walk of an operation at its start. -/
def Walk.start (o : Op) : Walk :=
  { op := o, b := 0, pass := 0, ks := 0, slot := 0, m := 0, sub := 0, idle := 0, loadLeft := 0, loaded := false, fed := 0, skip := []
    sats := [], gsats := [], segs := [], blocks := 0, skew := none, took := [], replay := false, counted := false, drained := 0
    cause := none }

/-- The run of an operation without tiles: its elements, or its blocks, bundles or entries, in position order (R193). STEP starts the generator from its seed,
0 read as 1 (13 R359). -/
def DrainJob.run (o : Op) : DrainJob :=
  let seed := o.hyper.getD 1 0
  let rows := if o.opcode = 0x22 then o.tin.e * o.tin.h * o.tin.w * ceilDiv o.tin.c 16
    else if o.opcode = 8 && o.tin.fmt = 4 then ceilDiv o.tin.blocks 15
    else if o.opcode = 8 && o.tin.fmt = 6 then ceilDiv o.tin.blocks 64 else o.tout.count
  { op := o, b := 0, gr := 0, row0 := 0, rows, next := 0, zero := false, tile := false, blocks := 0
    skew := false, lfsr := if seed = 0 then 1 else seed, got := [] }

/-- A resplit writes RESPLIT_LAST if it has been read since the last one (R192). -/
def State.noteResplit (s : State) (n c index : Nat) (o : Op) : State :=
  let gReq := if o.ngrp = 0 then o.g else min o.ngrp o.g
  let last := s.rget (coreReg n 0x4C)
  if o.array && !o.compat && o.gpp < gReq && !bit last 13 then
    s.rput (coreReg n 0x4C) (wd (o.gpp % 2048 + c * 2048 + 8192 + index % 65536 * 65536))
  else s

/-- The work of an issued instruction begins: a walk of tiles, or a run of elements. -/
def State.startOp (s : State) (n c : Nat) (o : Op) : State :=
  let k := s.core n
  if o.array then s.putCore n { k with walks := tput k.walks c (Walk.start o), waiting := false }
  else s.putCore n { k with drain := k.drain ++ [DrainJob.run o], waiting := false }

/-- The work of an issued instruction begins, or waits behind the walk that is in its last tile (R189). -/
def State.beginOp (s : State) (n c : Nat) (o : Op) : State :=
  let k := s.core n
  if (tfind k.walks c).isSome then s.putCore n { k with queued := tput k.queued c o } else s.startOp n c o

/-- Checks 8 to 15 have failed: the activations that the instruction's streams were given are cancelled (11 R303). -/
def State.cancelOps (s : State) (n : Nat) (slots : List Nat) : State := slots.foldl (fun s k => s.cancelStrm n k 1) s

/-- Issue the data macro-instruction at the head of the issuing context, if it is one that `want` accepts, during the last tile of
the walk before it at the earliest (R177, R189): checks 1 to 7, its streams, checks 8 to 15 (notes/assumptions/44.md). An
instruction whose opcode is not in Table 7.1 fails check 1 here as well. A word of the instruction's queue entry that is held in
error fences the core (05 R131). -/
def State.issueData (n : Nat) (want : List Byte → Bool) (s : State) : State :=
  let c := (s.core n).cur
  if !s.ctxRuns n c then s
  else
    match s.head n c with
    | none => s
    | some (i, r) =>
      if !(want r || !knownOpcode r) then s
      else if s.dataWaits n c then s
      else
        match s.headUe n c with
        | some a => s.fenceHead n a
        | none =>
          match s.resolve n c i r with
          | .error e => s.issueFail n c i r e
          | .ok o =>
            match s.freeSlots n o.streamCount [] with
            | none => if (tfind (s.core n).walks c).isSome then s else s.coreWaits n
            | some slots =>
              let (s1, o1) := s.openStreams n c o (s.foldW n r) slots
              match s.lateChecks n o with
              | .error e => (s1.cancelOps n slots).issueFail n c i r e
              | .ok () => (((s1.issued n c i).noteResplit n c i o1).beginOp n c o1).wake n

/-- The head of a queue is opcode `o`. -/
def isOp (o : Nat) (r : List Byte) : Bool := leAt r 0 1 == o
def isSub (o sub : Nat) (r : List Byte) : Bool := leAt r 0 1 == o && (if sub = 0 then leAt r 0x0E 1 != 1 else leAt r 0x0E 1 == 1)

/-- CONV (07 R186, 08 R205, R207). -/
def execConv (t core : Nat) (s : State) : Host.Outcome State Fault Refusal := .next ((s.advance t).issueData core (isOp 1))
/-- DWCONV (08 R207). -/
def execDwconv (t core : Nat) (s : State) : Host.Outcome State Fault Refusal := .next ((s.advance t).issueData core (isOp 2))
/-- MATMUL (08 R205). -/
def execMatmul (t core : Nat) (s : State) : Host.Outcome State Fault Refusal := .next ((s.advance t).issueData core (isOp 3))
/-- XFORM with SUBOP 0 (08 R218 to R220). -/
def execXformForward (t core : Nat) (s : State) : Host.Outcome State Fault Refusal :=
  .next ((s.advance t).issueData core (isSub 4 0))
/-- XFORM with SUBOP 1. -/
def execXformInverse (t core : Nat) (s : State) : Host.Outcome State Fault Refusal :=
  .next ((s.advance t).issueData core (isSub 4 1))
/-- POOL with SUBOP 0 (08 R213). -/
def execPoolMax (t core : Nat) (s : State) : Host.Outcome State Fault Refusal := .next ((s.advance t).issueData core (isSub 5 0))
/-- POOL with SUBOP 1 (08 R214). -/
def execPoolAverage (t core : Nat) (s : State) : Host.Outcome State Fault Refusal :=
  .next ((s.advance t).issueData core (isSub 5 1))
/-- RESAMPLE with SUBOP 0 (08 R216). -/
def execResampleNearest (t core : Nat) (s : State) : Host.Outcome State Fault Refusal :=
  .next ((s.advance t).issueData core (isSub 6 0))
/-- RESAMPLE with SUBOP 1 (08 R216). -/
def execResampleBilinear (t core : Nat) (s : State) : Host.Outcome State Fault Refusal :=
  .next ((s.advance t).issueData core (isSub 6 1))
/-- ELTW (09 R229). -/
def execEltw (t core : Nat) (s : State) : Host.Outcome State Fault Refusal := .next ((s.advance t).issueData core (isOp 7))
/-- COPY (07 R193). -/
def execCopy (t core : Nat) (s : State) : Host.Outcome State Fault Refusal := .next ((s.advance t).issueData core (isOp 8))
/-- BWD_DATA (13 R351). -/
def execBwdData (t core : Nat) (s : State) : Host.Outcome State Fault Refusal := .next ((s.advance t).issueData core (isOp 0x20))
/-- BWD_WGT (13 R352). -/
def execBwdWgt (t core : Nat) (s : State) : Host.Outcome State Fault Refusal := .next ((s.advance t).issueData core (isOp 0x21))

/-- UPDATE with a MODE; the reserved mode 3 fails check 1 with the STEP command. -/
def isUpdate (mode : Nat) (r : List Byte) : Bool :=
  leAt r 0 1 == 0x22 && (leAt r 0x34 1 % 4 == mode || (mode == 0 && leAt r 0x34 1 % 4 == 3))

/-- UPDATE in STEP mode (13 R356). -/
def execUpdateStep (t core : Nat) (s : State) : Host.Outcome State Fault Refusal :=
  .next ((s.advance t).issueData core (isUpdate 0))
/-- UPDATE in LOSS mode (13 R355). -/
def execUpdateLoss (t core : Nat) (s : State) : Host.Outcome State Fault Refusal :=
  .next ((s.advance t).issueData core (isUpdate 1))
/-- UPDATE in PUBLISH mode (13 R360). -/
def execUpdatePublish (t core : Nat) (s : State) : Host.Outcome State Fault Refusal :=
  .next ((s.advance t).issueData core (isUpdate 2))

end Sys2Proof.Machine
end

