-- ==== Sys2Proof/Machine/ClockOps.lean ====
section
/-! DEFINITION. Operations on the clock and supply registers that several chapters use: PLL_CFG, SSC_CFG and MCLK_CFG
writes (spec/15_clocks.md R397, R401, R403) and the VDD_CORE target (spec/16_power_modes_and_supplies.md R410, R411). -/

namespace Sys2Proof.Machine

/-- The fuse-set frequency of an HBM PLL, within the range of Table 15.4. -/
def hbmMhz (n : Nat) : Nat := 800 + (Config.hbmFreq n).toNat % 801

/-- PLL_CFG[n]: from fuses with EN = 1 for n = 0, 1, 2 and 7 (Table 15.6). -/
def State.pllCfg (s : State) (n : Nat) : Word :=
  if n = 0 || n = 1 then wd (hbmMhz n + 2 ^ 16)
  else if n = 2 || n = 7 then wd (1000 + 2 ^ 16)
  else s.rget (0x1_0100 + 0x20 * n)

/-- PLL n is enabled. -/
def State.pllEn (s : State) (n : Nat) : Bool := bit (s.pllCfg n) 16

/-- FREQ range of the PLLs that the image sets (Table 15.4). -/
def pllRange (n : Nat) : Nat × Nat :=
  match n with
  | 3 => (300, 700) | 4 => (150, 700) | 5 => (1200, 2200) | 6 => (1000, 2000) | _ => (1, 0)

/-- A write of PLL_CFG[n], n = 3 to 6: FREQ outside the range leaves the register unchanged; a change of FREQ or EN of an
enabled PLL relocks it on request, with no PLL_UNLOCK; EN = 0 stops the island clock. During a switchover the write is
applied after it (Table 15.3). -/
def State.pllCfgWrite (s : State) (n : Nat) (w : Word) : State :=
  let (lo, hi) := pllRange n
  let f := fld w 0 12
  if f < lo || hi < f then s
  else if s.clk.switching.isSome then { s with clk := { s.clk with heldCfg := s.clk.heldCfg ++ [(n, w)] } }
  else
    let old := s.pllCfg n
    let new := wd (w.toNat &&& 0x1_0FFF)
    let s1 := s.rput (0x1_0100 + 0x20 * n) new
    if new = old then s1
    else { s1 with clk := { s1.clk with locked := nclr s1.clk.locked n, held := nclr s1.clk.held n, lost := nclr s1.clk.lost n } }

/-- DEPTH at most 16, and RATE at least 30 unless DEPTH is 0 (R401). -/
def sscOk (depth rate : Nat) : Bool := decide (depth ≤ 16) && (depth == 0 || decide (30 ≤ rate))

/-- A write of SSC_CFG[n] (R401). -/
def State.sscWrite (s : State) (n : Nat) (w : Word) : State :=
  if sscOk (fld w 1 5) (fld w 6 6) then s.rput (0x1_0104 + 0x20 * n) (wd (w.toNat &&& 0xFFF)) else s

/-- A write of MCLK_CFG[n] (R403): DIV at least 18, the spread in range. -/
def State.mclkWrite (s : State) (n : Nat) (w : Word) : State :=
  if decide (18 ≤ fld w 0 8) && sscOk (fld w 17 5) (fld w 22 6) then s.rput (0x1_0300 + 4 * n) (wd (w.toNat &&& 0x0FFF_FFFF))
  else s

/-- The VDD_CORE target in mV: V_max ÷ 0.94 rounded up plus MARGIN, or 650 plus MARGIN in FINDER, held within 620 to 850
(16 R410); 620 while the compute dies are power-gated (16 R418). -/
def State.avsTarget (s : State) : Nat :=
  let margin := fld (s.rget 0x2_0014) 0 6
  let base := if s.boot.profile = 2 then 650 else ceilDiv (Config.vMax * 100) 94
  if s.pwr.saved then 620 else min 850 (max 620 (base + margin))

/-- The warning level of VDD_CORE: 94 % of the target, rounded up (16 R410). -/
def coreWarn (target : Nat) : Nat := ceilDiv (target * 94) 100

/-- Take up the target of the present settings; a change goes out on AVSBus at once (16 R411). -/
def State.updTarget (s : State) : State :=
  let t := s.avsTarget
  if !s.boot.sensed || t = s.pwr.target then s
  else { s with pwr := { s.pwr with target := t } }.out (.avsTarget t)

/-- Warning and reset levels of a rail in mV (16 Table 16.3). -/
def State.railWarn (s : State) (n : Nat) : Nat :=
  match n with
  | 0 => coreWarn s.pwr.target
  | 1 | 2 => 712 | 3 => 807 | 4 => 1140 | 5 => 1045 | 6 => 380 | 7 => 1710 | _ => 1800
def railReset (n : Nat) : Nat :=
  match n with
  | 0 => 580 | 1 | 2 => 675 | 3 => 765 | 4 => 1080 | 5 => 990 | 6 => 360 | _ => 1620

/-- An island is clocked in the present power state: its gate bit (15 Table 15.9), with TIMEBASE for xSPI and SENSCTL. In
start-up every island is clocked as start-up needs (15 R404). -/
def State.gatedIn (s : State) (p : PState) (i : Nat) : Bool :=
  let w := match p with
    | .run => s.clk.gateRun | .sleep => s.rget 0x1_0404 | .deep => s.rget 0x1_0408
  let on := bit w i && (if i = 8 || i = 9 then bit w 7 else true)
  if s.past14 then !on else false
def State.gated (s : State) (i : Nat) : Bool := s.gatedIn s.pwr.state i

/-- The islands over which core-local memory is saved: both stacks and the die-to-die links (16 R420). -/
def savePlls : List Nat := [0, 1, 5]

/-- In a wake the PLLs relock for RUN before their islands resume (16 Table 16.6); from SLEEP into DEEP_SLEEP the islands that
the saving needs are clocked first (16 R420). -/
def State.pllGated (s : State) (n : Nat) : Bool :=
  match s.pwr.trans with
  | some t =>
    if t.wake then s.gatedIn .run n
    else s.gated n && !(s.pwr.state == .sleep && decide (t.step ≤ 5) && savePlls.contains n)
  | none => s.gated n

/-- Stack n is in self-refresh: its controller is gated, or held while its PLL relocks (15 R393, R398, R404). -/
def State.refreshing (s : State) (n : Nat) : Bool := nbit s.mems.selfRefresh n || nbit s.clk.held n

/-- The island of a PLL runs: PLL enabled, locked, not held, and not gated. -/
def State.islandRuns (s : State) (pll gate : Nat) : Bool :=
  s.live && s.pllEn pll && nbit s.clk.locked pll && !nbit s.clk.held pll && !s.gated gate

end Sys2Proof.Machine
end

