-- ==== Sys2Proof/Machine/Params.lean ====
section
/-! DEFINITION. Parameter sets (spec/04_front_stage_and_taps.md R122 to R128): commit, activation at a Frame Start, the set a frame
is bound to, and the sensor writes that a set sends to a sensor-control port. The buses themselves are in
Machine/Sensors.lean. -/

namespace Sys2Proof.Machine

/-- The parameter window of a source. -/
def psAt (src : Nat) : Nat := 0x50_0000 + src * 0x800

def State.ps (s : State) (src : Nat) : ParamSet := tget ParamSet.init s.par src
def State.putPs (s : State) (src : Nat) (p : ParamSet) : State := { s with par := tput s.par src p }

/-- The shadow as it stands; the control words read 0 (R122). -/
def State.psShadow (s : State) (src : Nat) : List Byte :=
  (List.range 256).flatMap (fun k => bytesLE 4 (if k < 16 then 0 else (s.rget (psAt src + 4 * k)).toNat))

/-- The sensor-write words of a set. -/
def setWords (bs : List Byte) : List Nat := (List.range (leAt bs 0x300 4 % 64)).map (fun k => leAt bs (0x304 + 4 * k) 4)

/-- The sensor writes of a set are writes of 1 to 64 bytes, no CCC, that fill the words exactly (R123 step 1). -/
def swOk : Nat → List Nat → Bool
  | _, [] => true
  | 0, _ => false
  | n + 1, w :: r =>
    let len := nfld w 8 8
    let k := ceilDiv len 4
    !nbit w 7 && !nbit w 24 && decide (1 ≤ len) && decide (len ≤ 64) && decide (k ≤ r.length) && swOk n (r.drop k)

/-- How many commands the words hold. -/
def swCount : Nat → List Nat → Nat
  | 0, _ => 0
  | _, [] => 0
  | n + 1, w :: r => 1 + swCount n (r.drop (ceilDiv (nfld w 8 8) 4))

/-- A PS_CTRL write (R123). Neither COMMIT nor DISCARD: no effect. -/
def psCtrl (src : Nat) (commit next discard : Bool) (s : State) : State :=
  let p := s.ps src
  let p1 := if discard then { p with pend := none } else p
  if !commit then (if discard then s.putPs src p1 else s)
  else
    let bs := s.psShadow src
    if !swOk 64 (setWords bs) then (s.putPs src { p1 with refused := true }).bumpFront 3
    else
      let e := (p1.lastEpoch + 1) % 65536
      let s1 := if p1.pend.isSome then s.bumpFront 2 else s
      s1.putPs src { p1 with
        pend := some { bytes := bs, target := (s.rget (psAt src)).toNat, next, epoch := e }, lastEpoch := e, refused := false }

/-! ## Activation and binding (R124, R125) -/

/-- The history slot k of a source. -/
def State.psSlotAt (s : State) (src k : Nat) : Nat := s.rget64 0xC_0020 + src * 32768 + k * 1024

/-- Read the set bound to a frame from the history, once for the frame (R125, notes/assumptions/52.md). -/
def State.readSet (s : State) (src f slot : Nat) : State :=
  s.addAux (.history src f) false false false (s.psSlotAt src slot) 1024 []

/-- A pending set is due at the Frame Start of frame f. -/
def PendSet.due (p : PendSet) (f : Nat) : Bool := p.next || decide ((f + 2 ^ 32 - p.target) % 2 ^ 32 < 2 ^ 31)

/-- Activate the pending set of a source at the Frame Start of frame f, if it is due: the next history slot, the apply frame
f + K, and what is late. Earlier sets have then seen the Frame Start of a later frame (R127). -/
def State.psActivate (s : State) (src f : Nat) (host : Bool) : State :=
  let p := s.ps src
  let p0 := { p with binds := p.binds.map (fun b => { b with later := true }) }
  match p.pend with
  | none => s.putPs src p0
  | some q =>
    if !q.due f then s.putPs src p0
    else
      let e := s.src src
      let k := if e.ctlEn && !host then e.applyLatency else 0
      let slot := p.count % 32
      let late := f != q.target && !q.next
      let n := if e.ctlEn && !host then swCount 64 (setWords q.bytes) else 0
      let b : SetBind :=
        { key := p.nextKey, epoch := q.epoch, slot, apply := (f + k) % 2 ^ 32, at0 := f, first := none, writesLeft := n, later := false, late }
      (s.wr (s.psSlotAt src slot) q.bytes).putPs src { p0 with
        pend := none, activeEpoch := q.epoch, active := q.bytes, lastLate := late, count := p.count + 1, nextKey := p.nextKey + 1
        binds := p0.binds ++ [b] }

/-- Frame f has reached the apply frame of a set activated at or before it: frame numbers are modulo 2^32, and an apply frame
lies at most 7 frames ahead of the frame that activates its set. -/
def SetBind.reached (b : SetBind) (f : Nat) : Bool :=
  let d := (b.apply + 2 ^ 32 - f) % 2 ^ 32
  d == 0 || decide (7 < d)

/-- The set a frame is bound to: the latest apply frame that is at most f. Apply frames rise in the order of activation. -/
def ParamSet.bindOf (p : ParamSet) (f : Nat) : Option SetBind := (p.binds.filter (fun b => b.reached f)).getLast?

/-- Mark a frame PARAM_LATE; PS_LATE counts the frames so marked. -/
def State.markParamLate (s : State) (src f : Nat) : State :=
  match s.flight src f with
  | some x => if nbit x.flags 8 then s else (s.markFrame src f fParamLate).bumpFront 1
  | none => s

/-- Change the bind of a key. -/
def ParamSet.modBind (p : ParamSet) (key : Nat) (g : SetBind → SetBind) : ParamSet :=
  { p with binds := p.binds.map (fun b => if b.key = key then g b else b) }

/-- Note that frame f is bound to its set: PS_BOUND, the first bound frame, and a mark that waited for it. Sets that no
later frame can be bound to and whose writes have ended are forgotten. -/
def State.psBound (s : State) (src f : Nat) : State :=
  let p := s.ps src
  match p.bindOf f with
  | none => s
  | some b =>
    let p1 := p.modBind b.key (fun c => { c with first := some (c.first.getD f) })
    let p2 := { p1 with bound := b.epoch, binds := p1.binds.filter (fun c => decide (b.key ≤ c.key) || c.writesLeft != 0) }
    let s1 := s.putPs src p2
    if b.first.isNone && b.late then s1.markParamLate src f else s1

/-- Step 14 (R125): the shadow of every enabled source becomes the active set, epoch 0, apply frame 0, slot 0. -/
def State.psStart (s : State) : State :=
  s.sources.foldl (fun s src =>
    let bs := s.psShadow src
    let key := (s.ps src).nextKey
    (s.wr (s.psSlotAt src 0) bs).putPs src { ParamSet.init with
      active := bs, count := 1, nextKey := key + 1
      binds := [{ key, epoch := 0, slot := 0, apply := 0, at0 := 0, first := none, writesLeft := 0, later := false, late := false }] })
    { s with par := s.par.map (fun e => (e.1, { ParamSet.init with nextKey := e.2.nextKey })) }

/-- A re-arm request: pending sets, and activated sets whose sensor writes are not yet queued, are discarded (Table 4.5). -/
def State.psRearm (s : State) : State :=
  { s with
    par := s.par.map (fun e => (e.1, { e.2 with pend := none }))
    flights := s.flights.map (fun f => { f with sensorDue := false })
    sctl := s.sctl.map (fun e => (e.1, { e.2 with writes := [] })) }

/-! ## Sensor writes (R126, R127) -/

/-- An I3C controller port at reset (03 Table 3.9). -/
def SctlPort.init : SctlPort :=
  { queue := [], rdata := [], ibis := [], ibiLast := 0, busy := none, busySet := none, kept := false, writes := [], nack := false
    dropped := false, nacks := 0, ibiLost := 0, assigned := [], anyAssigned := false }

def State.sp (s : State) (n : Nat) : SctlPort := tget SctlPort.init s.sctl n
def State.putSp (s : State) (n : Nat) (p : SctlPort) : State := { s with sctl := tput s.sctl n p }

/-- Move waiting sets into the command queue, whole and in order, as far as there is room. -/
def sctlPump (q : List (Word × Option (Nat × Nat))) : List SensorWrite → List (Word × Option (Nat × Nat)) × List SensorWrite
  | [] => (q, [])
  | w :: r =>
    if q.length + w.words.length ≤ 256 then sctlPump (q ++ w.words.map (fun x => (x, some (w.source, w.set)))) r
    else (q, w :: r)

/-- The port with waiting sets moved in. -/
def SctlPort.pump (p : SctlPort) : SctlPort :=
  let (q, w) := sctlPump p.queue p.writes
  { p with queue := q, writes := w }

/-- Queue the sensor writes of the set activated at a frame, once, to the source's CTL_PORT. -/
def State.queueSets (s : State) (src f : Nat) : State :=
  match s.flight src f with
  | none => s
  | some x =>
    if !x.sensorDue then s
    else
      let s1 := s.modFlight src f (fun y => { y with sensorDue := false })
      match (s.ps src).binds.find? (fun b => b.at0 == f && b.writesLeft != 0) with
      | none => s1
      | some b =>
        let n := (s.src src).ctlPort
        let a := s.psSlotAt src b.slot
        let words := (List.range (s.rdLE (a + 0x300) 4 % 64)).map (fun k => wd (s.rdLE (a + 0x304 + 4 * k) 4))
        let p := s1.sp n
        s1.putSp n ({ p with writes := p.writes ++ [{ source := src, set := b.key, words }] } : SctlPort).pump

/-- A sensor write of a set has ended: NACKed, or the set's last one after the Frame Start of a later frame, makes the set's
first bound frame PARAM_LATE. -/
def State.setWriteDone (s : State) (src key : Nat) (nack : Bool) : State :=
  match (s.ps src).binds.find? (fun b => b.key == key) with
  | none => s
  | some b =>
    let late := nack || (b.writesLeft ≤ 1 && b.later)
    let s1 := s.putPs src ((s.ps src).modBind key (fun c => { c with writesLeft := c.writesLeft - 1, late := c.late || late }))
    match b.first with
    | some g => if late then s1.markParamLate src g else s1
    | none => s1

/-! ## Registers of the window (Table 4.4) -/

/-- PS_STATUS, PS_STATE, PS_BOUND and the copy of the active set, by offset in the window. -/
def State.psRead (s : State) (src off : Nat) : Word :=
  let p := s.ps src
  if off = 8 then wd (p.activeEpoch + p.lastEpoch * 65536)
  else if off = 0xC then wd (b2n p.pend.isSome + 2 * b2n p.lastLate + 4 * b2n p.refused)
  else if off = 0x10 then wd p.bound
  else if 0x400 ≤ off then wd (leAt p.active (off - 0x400) 4)
  else s.rget (psAt src + off)

end Sys2Proof.Machine
end

