-- ==== Sys2Proof/Machine/Sensors.lean ====
section
/-! DEFINITION. Sensor control over I3C (spec/03_sensor_ingress.md R94 to R97): the command queue, what goes on the bus, read
data and In-Band Interrupts; and the FSYNC outputs with genlock (R99, R100). -/

namespace Sys2Proof.Machine

/-- CTL_CFG of a port. -/
def State.ctlCfg (s : State) (n : Nat) : Word := s.rget (0xA_0000 + 0x100 * n)

/-- Words that follow a command word on the bus, and words it reads. -/
def cmdWords (w : Word) : Nat := ceilDiv (fld w 8 8) 4

/-- SC_STATUS (Table 3.9). -/
def State.scStatus (s : State) (n : Nat) : Word :=
  let p := s.sp n
  wd ((256 - p.queue.length) + 512 * b2n (p.queue.isEmpty && p.busy.isNone && !p.kept) + 1024 * b2n p.nack + 2048 * p.rdata.length
    + 2 ^ 18 * b2n p.dropped)

/-- A word written to SC_CMD: queued, or dropped with DROPPED (R95). -/
def scCmdWrite (n : Nat) (w : Word) (s : State) : State :=
  let p := s.sp n
  if p.nack || p.dropped || 256 ≤ p.queue.length then s.putSp n { p with dropped := true }
  else s.putSp n { p with queue := p.queue ++ [(w, none)] }

/-- SC_CTRL.FLUSH. -/
def scFlush (n : Nat) (s : State) : State :=
  let p := s.sp n
  s.putSp n ({ p with queue := [], rdata := [], nack := false, dropped := false } : SctlPort).pump

/-- SENSOR_COMMAND_ISSUE: the command at the head of the queue goes on the bus once it is whole and its read data has room.
ADDR 0 of a parameter-set write is the source's SENSOR_ADDR (04 R123). -/
def sensorIssue (n : Nat) (s : State) : State :=
  let p := s.sp n
  if !s.live || fld (s.ctlCfg n) 0 2 == 0 || p.busy.isSome then s
  else
    match p.queue with
    | [] => s
    | (w, o) :: r =>
      let k := if bit w 7 then 0 else cmdWords w
      if r.length < k || (bit w 7 && decide (64 < p.rdata.length + cmdWords w)) then s
      else
        let w1 := match o with
          | some (src, _) => if fld w 0 7 = 0 then setFld w 0 7 (s.src src).sensorAddr else w
          | none => w
        let cmd := w1 :: (r.take k).map (·.1)
        (s.putSp n ({ p with queue := r.drop k, busy := some cmd, busySet := o } : SctlPort).pump).out (.sensorBus n cmd)

/-- Addresses assigned by a command: SETDASA 0x87 and SETNEWDA 0x88 carry the address in bits [7:1] of their first byte,
SETAASA 0x29 assigns every static address, RSTDAA 0x06 clears them (notes/assumptions/21.md). -/
def SctlPort.assign (p : SctlPort) (cmd : List Word) : SctlPort :=
  match cmd with
  | w :: r =>
    let da := match r with
      | d :: _ => fld d 1 7
      | [] => 0
    if !bit w 24 then p
    else
      match fld w 16 8 with
      | 0x87 => { p with assigned := da :: p.assigned }
      | 0x88 => { p with assigned := da :: p.assigned.filter (· != fld w 0 7) }
      | 0x29 => { p with anyAssigned := true }
      | 0x06 => { p with assigned := [], anyAssigned := false }
      | _ => p
  | [] => p

/-- The image's time with the queues is over: step 14 has been passed and no re-arm is in progress (R95, R96). -/
def State.setsOnly (s : State) : Bool := s.boot.phase == .running || s.boot.phase == .armedWait

/-- Step 14: what the image left in the queues is discarded; from now on they issue parameter-set writes only (R96). -/
def State.dropImageCmds (s : State) : State :=
  { s with sctl := s.sctl.map (fun e => (e.1, { e.2 with queue := e.2.queue.filter (fun x => x.2.isSome) })) }

/-- SENSOR_COMMAND_DONE: the command on the bus ends, with a STOP unless its NO_STOP keeps the bus. A NACK of an image's command
empties the queue and sets NACK; of a parameter-set write, and of anything after step 14, it ends that command alone (R96). -/
def sensorDone (n : Nat) (rdata : List Word) (nack : Bool) (s : State) : State :=
  let p := s.sp n
  match p.busy with
  | none => s
  | some cmd =>
    let p1 := { p with busy := none, busySet := none, kept := !nack && bit (cmd.headD 0) 25 }
    if nack then
      match p.busySet with
      | some (src, k) => (s.putSp n { p1 with nacks := satAdd32 p.nacks 1 }).setWriteDone src k true
      | none => if s.setsOnly then s.putSp n p1 else s.putSp n ({ p1 with queue := [], nack := true } : SctlPort).pump
    else
      let k := match cmd with
        | w :: _ => if bit w 7 then cmdWords w else 0
        | [] => 0
      let got := rdata.take k ++ List.replicate (k - rdata.length) 0
      let s1 := s.putSp n (({ p1 with rdata := p1.rdata ++ got } : SctlPort).assign cmd)
      match p.busySet with
      | some (src, k) => s1.setWriteDone src k false
      | none => s1

/-- IBI: an In-Band Interrupt from an address, with its payload (R97). -/
def sensorIbi (n addr : Nat) (payload : List Byte) (s : State) : State :=
  let p := s.sp n
  let c := s.ctlCfg n
  if !s.live || fld c 0 2 != 1 then s
  else if !bit c 2 || !(p.anyAssigned || p.assigned.contains addr) then s.out (.sensorAck n false)
  else if 16 ≤ p.ibis.length then (s.putSp n { p with ibiLost := satAdd32 p.ibiLost 1 }).out (.sensorAck n true)
  else (s.putSp n { p with ibis := p.ibis ++ [{ addr := addr % 128, payload := payload.take 4 }] }).out (.sensorAck n true)

/-- HOT_JOIN: refused with a NACK (R94). -/
def hotJoin (n : Nat) (s : State) : State :=
  if !s.live || fld (s.ctlCfg n) 0 2 != 1 then s else s.out (.sensorAck n false)

/-- SC_RDATA. -/
def State.scRdata (s : State) (n : Nat) : Word × State :=
  match (s.sp n).rdata with
  | [] => (0, s)
  | w :: r => (w, s.putSp n { s.sp n with rdata := r })

/-- SC_IBI: the oldest entry, which leaves the queue; its payload bytes 2 and 3 stay for SC_IBI_DATA. -/
def State.scIbi (s : State) (n : Nat) : Word × State :=
  match (s.sp n).ibis with
  | [] => (0, s)
  | e :: r =>
    (wd (e.addr + 128 + e.payload.length * 256 + leAt e.payload 0 2 * 65536),
     s.putSp n { s.sp n with ibis := r, ibiLast := leAt e.payload 2 2 })

/-- A write of CTL_CFG that enables an I3C port with IBI_EN at 0 broadcasts DISEC with the IBI and Hot-Join bits (R97):
CCC 0x01 with the byte 0x09 (notes/assumptions/21.md). So does a write that clears IBI_EN on a port that is on, of which R97
says nothing (notes/assumptions/51.md). -/
def State.ctlCfgDone (s : State) (n : Nat) (old : Word) : State :=
  let c := s.ctlCfg n
  if fld c 0 2 = 1 && !bit c 2 && (fld old 0 2 != 1 || bit old 2) then s.out (.sensorBus n [0x0101_017E#32, 0x09#32]) else s

/-! ## FSYNC outputs and genlock (R99, R100) -/

/-- An output before the first T0. -/
def FsOut.init : FsOut :=
  { ctrl := 0, period := 0, phase := 0, t0 := none, nextFree := 0, sched := [], times := [], nextNum := 0, old := [], oldCtrl := 0 }

def State.fs (s : State) (j : Nat) : FsOut := tget FsOut.init s.trig.outs j
def State.putFs (s : State) (j : Nat) (o : FsOut) : State := { s with trig := { s.trig with outs := tput s.trig.outs j o } }

/-- FS_WIDTH of an FS_CTRL word, and the level of an active pulse. -/
def fsWidth (ctrl : Word) : Nat := fld ctrl 16 16
def fsActive (ctrl : Word) : Bool := !bit ctrl 2

/-- The level at which an output idles: high only while it is on and active low. -/
def FsOut.idle (o : FsOut) : Bool := fld o.ctrl 0 2 != 0 && !fsActive o.ctrl

/-- Pulses of a schedule that are due before an instant and have not been emitted. -/
def FsOut.dueBefore (o : FsOut) (t : Nat) : List Nat :=
  match o.t0, fld o.ctrl 0 2 with
  | some t0, 1 =>
    ((List.range ((t - t0) / max 1 o.period + 1)).map (fun i => t0 + o.phase + (o.nextFree + i) * o.period)).filter (· < t)
  | some _, 2 => (o.sched.map (·.2)).filter (· < t)
  | _, _ => []

/-- Pulses of one GENLOCK edge at G with its period, by time. -/
def FsOut.edgePulses (o : FsOut) (g period : Nat) : List Nat :=
  let m := fld o.ctrl 4 4 + 1
  (List.range m).map (fun i => g + o.phase + i * (period / m))

/-- T0: every output takes up the settings of the image, and pulse numbers restart from 0. In GENLOCK with the lock held, the
pulses that edges before T0 schedule at or after it are its first ones (10 R266). -/
def State.fsStart (s : State) : State :=
  let s1 := (List.range 4).foldl (fun (s : State) j =>
    let a := 0xA_2000 + 0x10 * j
    let old := s.fs j
    let o : FsOut := { FsOut.init with
      ctrl := s.rget a, period := (s.rget (a + 4)).toNat, phase := (s.rget (a + 8)).toNat, t0 := some s.now
      old := old.old ++ old.dueBefore s.now, oldCtrl := old.ctrl }
    let ts := if fld o.ctrl 0 2 = 2 && s.trig.locked then
        (s.trig.edges.flatMap (fun e => o.edgePulses e.1 e.2)).filter (fun t => decide (s.now ≤ t)) else []
    let times := (List.range ts.length).zip ts
    let o1 := { o with sched := times, times, nextNum := ts.length }
    let s1 := s.putFs j o1
    if o1.idle = old.idle then s1 else s1.out (.fsync j o1.idle)) s
  { s1 with trig := { s1.trig with everLocked := s1.trig.locked } }

/-- Pulses of one GENLOCK edge at G with the period in effect. -/
def FsOut.addEdge (o : FsOut) (g period : Nat) : FsOut :=
  if fld o.ctrl 0 2 != 2 || o.t0.isNone then o
  else
    let ps := o.edgePulses g period
    let ts := ((List.range ps.length).map (· + o.nextNum)).zip ps
    { o with sched := o.sched ++ ts, times := o.times ++ ts, nextNum := o.nextNum + ps.length }

/-- Every output takes an edge. -/
def Trig.addEdge (g : Trig) (e : Nat) : Trig :=
  { g with outs := g.outs.map (fun o => (o.1, o.2.addEdge e g.period))
           edges := g.edges.filter (fun x => decide (e < x.1 + 2_000_000_000)) ++ [(e, g.period)] }

/-- Holdover: the next virtual edge, one period on. -/
def Trig.holdTick (g : Trig) : Trig :=
  match g.holdEdge with
  | some e => if g.everLocked then { g.addEdge (e + g.period) with holdEdge := some (e + g.period) } else g
  | none => g

/-- Pulses scheduled from virtual edges that lie after an instant are withdrawn; their numbers are given out again. -/
def FsOut.withdraw (o : FsOut) (t : Nat) : FsOut :=
  match o.sched.find? (fun e => decide (t < e.2)) with
  | none => o
  | some (k, _) => { o with sched := o.sched.filter (fun e => decide (e.1 < k)), times := o.times.filter (fun e => decide (e.1 < k))
                            nextNum := k }

/-- The next pulse of an output's present schedule. -/
def FsOut.nextPulse (o : FsOut) : Option Nat :=
  match o.t0, fld o.ctrl 0 2 with
  | some t0, 1 => some (t0 + o.phase + o.nextFree * o.period)
  | some _, 2 => (o.sched.head?).map (·.2)
  | _, _ => none

/-- A pulse due at t, by an FS_CTRL word: emitted, or skipped and counted when the next one is scheduled to start at most
FS_WIDTH ns after it. -/
def State.fsEmit (s : State) (j : Nat) (ctrl : Word) (t : Nat) (next : Option Nat) : State :=
  let skip := match next with
    | some u => decide (u ≤ t + fsWidth ctrl)
    | none => false
  let a := 0xA_200C + 0x10 * j
  if skip then s.rput a (satInc (s.rget a)) else s.outs [.fsync j (fsActive ctrl), .fsync j (s.fs j).idle]

/-- FSYNC_PULSE: the scheduled time of the next pulse of an output has come. Pulses left from the schedule before T0 come first,
and the skip rule looks across the change (R99). -/
def fsyncPulse (j : Nat) (s : State) : State :=
  let o := s.fs j
  if !s.live then s
  else
    match o.old with
    | t :: r => if s.now < t then s
      else (s.fsEmit j o.oldCtrl t (match r with
        | u :: _ => some u
        | [] => o.nextPulse)).putFs j { o with old := r }
    | [] =>
      match o.nextPulse with
      | none => s
      | some t =>
        if s.now < t then s
        else
          let o1 := if fld o.ctrl 0 2 = 1 then { o with nextFree := o.nextFree + 1 } else { o with sched := o.sched.drop 1 }
          let s1 := (s.fsEmit j o.ctrl t o1.nextPulse).putFs j o1
          if fld o.ctrl 0 2 = 2 && o1.sched.length ≤ 1 then { s1 with trig := s1.trig.holdTick } else s1

/-- GENLOCK_EDGE: an edge on GENLOCK_IN of a pulse of `width` ns; one of less than 100 ns is not accepted. Periods from 1 ms to
1 s are accepted; a shorter one is no edge, and after a longer one the measurement starts anew (notes/assumptions/22.md). Two
successive periods within 1 µs lock. -/
def genlockEdge (width : Nat) (s : State) : State :=
  if !s.timebaseRuns || width < 100 then s
  else
    let g := s.trig
    let g0 := { g with lastEdge := some s.now, edgeNs := s.ns }
    match g.lastEdge with
    | none => { s with trig := g0 }
    | some e =>
      let d := s.now - e
      if g.holdEdge.isSome then
        let g1 := { g0 with holdEdge := none, periods := 0, outs := g.outs.map (fun o => (o.1, o.2.withdraw s.now))
                            edges := g.edges.filter (fun x => decide (x.1 ≤ s.now)) }
        { s with trig := if g.everLocked then g1.addEdge s.now else g1 }
      else if d < 1_000_000 then s
      else if 1_000_000_000 < d then { s with trig := { g0 with periods := 0 } }
      else
        let near := g.periods != 0 && decide (d ≤ g.periods + 1000) && decide (g.periods ≤ d + 1000)
        let g1 := { g0 with period := d, periods := d, locked := g.locked || near, everLocked := g.everLocked || near }
        let s1 := { s with trig := if g1.everLocked then g1.addEdge s.now else g1 }
        if near && !g.locked && g.everLocked then s1.setEvt 3 else s1

/-- GENLOCK_LOST: no edge within 1.25 × P_G of the last one: LOST, and holdover at the last P_G. -/
def genlockLost (s : State) : State :=
  let g := s.trig
  match g.lastEdge with
  | none => s
  | some e =>
    if g.period = 0 || g.holdEdge.isSome || decide (4 * s.now < 4 * e + 5 * g.period) then s
    else
      let g1 := { g with lost := true, locked := false, holdEdge := some e }
      ({ s with trig := g1.holdTick.holdTick }).setEvt 3

/-- GL_STATUS. -/
def State.glStatus (s : State) : Word := wd (b2n s.trig.locked + 2 * b2n s.trig.lost)

/-! ## The commands -/

/-- SENSOR_COMMAND_ISSUE (03 R95). -/
def execSensorCommandIssue (t port : Nat) (s : State) : Host.Outcome State Fault Refusal := .next (sensorIssue port (s.advance t))
/-- SENSOR_COMMAND_DONE (03 R96). -/
def execSensorCommandDone (t port : Nat) (rdata : List Word) (nack : Bool) (s : State) : Host.Outcome State Fault Refusal :=
  .next (sensorDone port rdata nack (s.advance t))
/-- IBI (03 R97). -/
def execIbi (t port addr : Nat) (payload : List Byte) (s : State) : Host.Outcome State Fault Refusal :=
  .next (sensorIbi port addr payload (s.advance t))
/-- HOT_JOIN (03 R94). -/
def execHotJoin (t port : Nat) (s : State) : Host.Outcome State Fault Refusal := .next (hotJoin port (s.advance t))
/-- FSYNC_PULSE (03 R99). -/
def execFsyncPulse (t output : Nat) (s : State) : Host.Outcome State Fault Refusal := .next (fsyncPulse output (s.advance t))
/-- GENLOCK_EDGE (03 R100). -/
def execGenlockEdge (t width : Nat) (s : State) : Host.Outcome State Fault Refusal := .next (genlockEdge width (s.advance t))
/-- GENLOCK_LOST (03 R100). -/
def execGenlockLost (t : Nat) (s : State) : Host.Outcome State Fault Refusal := .next (genlockLost (s.advance t))

end Sys2Proof.Machine
end

