-- ==== Sys2Proof/Machine/Ingress.lean ====
section
/-! DEFINITION. Sensor ingress (spec/03_sensor_ingress.md R67 to R93): packets, frame slots, line buffers and ingress writers,
frame close, and the opening of a frame, which a SOURCE channel uses too (spec/12 R337). -/

namespace Sys2Proof.Machine

/-! ## Frames (R85, R89, 04 R124) -/

/-- The transmit streams that carry a source, as 16 × port + stream (09 R241). -/
def State.txOf (s : State) (src : Nat) : List Nat :=
  (List.range 64).filter (fun i =>
    let w := s.rget (0xE_0200 + 0x1000 * (i / 16) + 0x20 * (i % 16))
    bit w 24 && fld w 0 12 == src)

/-- Open a frame: parameter sets are activated and bound, the bound set is read, and its record starts, SUPPLY_WARNED while a
rail is in a dip (01 R23). `expect` is E_k, `corr` the corrected headers that opened it. -/
def State.openFrame (s : State) (src fr : Nat) (host : Bool) (plate expect csiFn : Nat) (late : Bool) (lateUs corr : Nat) :
    State :=
  let e := s.src src
  let s1 := s.psActivate src fr host
  let p := s1.ps src
  let b := p.bindOf fr
  let ex := List.range e.exposures
  let slot := match b with
    | some b => b.slot
    | none => 0
  let f : Flight :=
    { source := src, frame := fr, host, plate, plateHost := e.plateHost
      epoch := match b with
        | some b => b.epoch
        | none => 0
      psSlot := slot, set := [], setBad := false
      sofNs := s1.ns, eofNs := 0, startAt := s1.now, expectAt := expect
      flags := (if late then fCsiLate else 0) ||| (if s1.pwr.dips ≠ 0 then fSupply else 0)
      crcErrs := 0, eccCorr := corr, eccUncorr := 0, linesDropped := 0, arrived := ex.map (fun i => (i, 0))
      complete := ex.map (fun i => (i, 0)), lost := [], zeroed := [], ends := [], embBytes := 0, overrun := 0, csiFn := csiFn % 65536
      lateUs, isOpen := true, writes := 0, recWritten := false, released := 0, taken := 0, passes := [], lastOut := none, outsLeft := 0
      tapsLeft := (List.range 8).filter (fun t => s1.tapOn src t fr), endsLeft := s1.txOf src, lateSegs := 0, lateFirst := none
      stopped := false, sensorDue := p.binds.any (fun b => b.at0 == fr && b.writesLeft != 0), metAt := s1.now }
  (({ s1 with flights := s1.flights ++ [f] }).psBound src fr).readSet src fr slot

/-- Complete lines of a frame, over all exposures. -/
def Flight.lines (f : Flight) : Nat := f.complete.foldl (fun a e => a + e.2) 0

/-- Add to a frame's count of lines of an exposure. -/
def addLine (m : List (Nat × Nat)) (x : Nat) : List (Nat × Nat) := tput m x (tget 0 m x + 1)

/-! ## Sources of a port (R74, R76) -/

/-- Line buffer and writer of a port or gang, by lead port. -/
def State.ing' (s : State) (n : Nat) : IngPort :=
  tget { used := 0, peak := 0, queue := [], nextW := 0, discard := false, deskew := false, lastHs := none, bytes := 0 } s.ing.ports n
def State.putIng (s : State) (n : Nat) (p : IngPort) : State := { s with ing := { s.ing with ports := tput s.ing.ports n p } }

/-- Free bytes of a line buffer. -/
def State.bufFree (s : State) (port : Nat) : Nat := s.bufBytes port - (s.ing' port).used

/-- Bytes enter a line buffer, and leave it. -/
def State.bufTake (s : State) (port n : Nat) : State :=
  let p := s.ing' port
  s.putIng port { p with used := p.used + n, peak := max p.peak (p.used + n) }
def State.bufGive (s : State) (port n : Nat) : State :=
  let p := s.ing' port
  s.putIng port { p with used := p.used - min p.used n }

/-- Add a write to a port's ingress writer. -/
def State.addWrite (s : State) (port : Nat) (w : IngWrite) : State :=
  let p := s.ing' port
  s.putIng port { p with queue := p.queue ++ [{ w with id := p.nextW }], nextW := p.nextW + 1 }

/-- Put a write into a port's line buffer. -/
def State.pushWrite (s : State) (port : Nat) (w : IngWrite) : State :=
  if w.data = [] then s
  else ((s.bufTake port w.data.length).addWrite port w).modFlight w.source w.frame (fun f => { f with writes := f.writes + 1 })

/-- The Frame Record of a closed frame whose line writes have all been accepted is given to the ingress writer of its port (R89);
its bytes are those of the moment at which it issues. -/
def State.recordIfReady (s : State) (src fr : Nat) : State :=
  match s.flight src fr with
  | none => s
  | some f =>
    let port := (s.src src).port
    if f.isOpen || f.recWritten || f.writes != 0 || (s.ing' port).queue.any (fun w => w.isRec && w.source == src && w.frame == fr)
    then s
    else s.addWrite port { id := 0, source := src, frame := fr, addr := f.plate, toHost := f.plateHost, data := List.replicate 64 0
                           issued := 0, accepted := 0, isLine := false, exposure := 0, line := 0, full := false, isRec := true }

/-- The Frame Record is in its plate; flags that came since it issued are added at once. -/
def State.frameRecDone (s : State) (src fr : Nat) (bs : List Byte) : State :=
  match s.flight src fr with
  | none => s
  | some f =>
    let s1 := s.modFlight src fr (fun f => { f with recWritten := true, metAt := s.now })
    if s.recBytes f = bs then s1 else s1.putRec f

def SlotState.init : SlotState := { nextSlot := 0, opened := none, nextFree := 0, dropping := none }
def State.slots (s : State) (src : Nat) : SlotState := tget SlotState.init s.ing.slots src
def State.putSlots (s : State) (src : Nat) (x : SlotState) : State :=
  { s with ing := { s.ing with slots := tput s.ing.slots src x } }

/-- The source and exposure that a virtual channel of a port carries. -/
def State.srcOn (s : State) (port vc : Nat) : Option (Nat × Nat) :=
  s.sources.findSome? (fun i =>
    let e := s.src i
    if (e.kind = 0 || e.kind = 1) && e.port == port then
      ((List.range e.exposures).find? (fun x => (e.vc + x) % 16 == vc)).map (fun x => (i, x))
    else none)

/-- A port receives: its PHY is on, it leads its gang, MIPI_RX is clocked, and the virtual channel exists there (R70). -/
def State.receives (s : State) (port vc : Nat) : Bool :=
  s.live && decide (port < 16) && s.portOn port && s.leadOf port == port && s.islandRuns 3 3
    && (decide (vc < 4) || bit (s.portCfg port) 17 || fld (s.portCfg port) 0 2 == 2)

/-- The open frame of a source. -/
def State.openOf (s : State) (src : Nat) : Option Flight := s.flights.find? (fun f => f.source == src && !f.host && f.isOpen)

/-- Frames are accepted: RUNNING in the power state RUN with no transition in progress (R93, 16 R420, R422). -/
def State.accepting (s : State) : Bool := s.running && s.pwr.state == .run && s.pwr.trans.isNone

/-! ## The in-line source (R83) -/

/-- The source is the in-line source. -/
def State.isInline (s : State) (src : Nat) : Bool := (s.src src).kind == 1

/-- Change the in-line front stage's view of a frame. -/
def State.modInl (s : State) (fr : Nat) (g : InlineS → InlineS) : State :=
  { s with front := { s.front with inl := s.front.inl.map (fun x => if x.frame = fr then g x else x) } }

/-- Where line l of exposure x lies in the stagger region: a ring of STAGGER × (E − 1 − x) + 4 lines per exposure, one after the
other, which fills the region of R113 exactly (notes/assumptions/58.md). -/
def State.staggerAt (s : State) (src x l : Nat) : Nat :=
  let e := s.src src
  let ring (y : Nat) : Nat := e.stagger * (e.exposures - 1 - y) + 4
  let first := ((List.range x).map ring).foldl (· + ·) 0
  s.rget64 0xC_0010 + (first + l % ring x) * (ceilDiv e.lineBytes 256 * 256)

/-- Fetch back the lines below line n that are in the stagger region (04 R113). -/
def State.inlFetch (s : State) (port src fr n : Nat) : State :=
  match s.front.inl.find? (fun i => i.frame == fr) with
  | none => s
  | some i =>
    let due := i.away.filter (fun p => decide (p.2 < n) && !i.fetching.contains p)
    due.foldl (fun s p =>
      s.addAux (.stagger port fr p.1 p.2) false false false (s.staggerAt src p.1 p.2) (s.src src).lineBytes [])
      (s.modInl fr (fun i => { i with fetching := i.fetching ++ due }))

/-- The lines of the stripe in work leave the line buffer; later ones of the last exposure stay until their stripe's turn comes
(R80, notes/assumptions/59.md). -/
def State.inlDrain (s : State) (port src : Nat) : State :=
  match s.front.inl with
  | [] => s
  | i :: _ =>
    let out (p : Nat × Nat) : Bool := decide (p.1 < (i.stripe + 1) * (s.src src).stripeLines)
    (s.modInl i.frame (fun i => { i with held := i.held.filter (fun p => !out p) })).bufGive port
      ((i.held.filter out).foldl (fun a p => a + p.2) 0)

/-- The in-line front stage gives up what it holds. -/
def State.dropInl (s : State) : State :=
  let n := s.front.inl.foldl (fun a i => i.held.foldl (fun a p => a + p.2) a) 0
  let s1 := { s with front := { s.front with inl := [] } }
  match s.sources.find? s.isInline with
  | some src => s1.bufGive (s.src src).port n
  | none => s1

/-- A complete line of the in-line source: one of the last exposure goes to the in-line front stage, one of an earlier exposure
to the stagger region (04 R113). -/
def State.inlineLine (s : State) (port : Nat) (f : Flight) (x l : Nat) (bs : List Byte) : State :=
  let e := s.src f.source
  let s1 := s.bufTake port bs.length
  let s2 := if x + 1 < e.exposures then
      (s1.addAux (.stagger port f.frame x l) true false false (s1.staggerAt f.source x l) bs.length bs).modInl f.frame
        (fun i => { i with away := i.away ++ [(x, l)] })
    else s1.modInl f.frame (fun i => { i with lines := i.lines ++ [((x, l), bs)], held := i.held ++ [(l, bs.length)] })
  s2.inlDrain port f.source

/-! ## Close (R88, R90) -/

/-- Raise one per-frame class at close. -/
def State.csiFault (s : State) (f : Flight) (cls count : Nat) : State :=
  s.raise { cls, action := 2, unit := 0x2000 + (s.src f.source).port, detail := f.source + min count m32 * 2 ^ 32
            frame := some (f.source, f.frame) }

/-- Close the open frame of a source; `aborted` closes it TRUNCATED whatever it holds (Table 3.5). -/
def State.closeFrame (s : State) (f0 : Flight) (aborted : Bool) : State :=
  let src := f0.source
  let e := s.src src
  let n := e.port
  let short := aborted || f0.linesDropped != 0 || (List.range e.exposures).any (fun x => decide (tget 0 f0.complete x < e.height))
  let f := { f0 with isOpen := false, eofNs := s.ns, flags := if short then f0.flags ||| fTruncated else f0.flags }
  let s1 := (s.putFlight f).bumpPort n 0
  let s2 := if short then s1.bumpPort n 4 else s1
  let s3 := if f.crcErrs ≠ 0 then s2.csiFault f 0x50 f.crcErrs else s2
  let s4 := if f.eccUncorr ≠ 0 then s3.csiFault f 0x51 f.eccUncorr else s3
  let s5 := if short then s4.csiFault f 0x52 (max 1 (e.height * e.exposures - f.lines)) else s4
  let s6 := if nbit f.flags 1 then s5.csiFault f 0x53 f.lateUs else s5
  let s7 := if f.overrun ≠ 0 then s6.csiFault f 0x61 f.overrun else s6
  let s8 := (s7.queueSets src f.frame).modInl f.frame (fun x => { x with closed := true })
  (if e.kind = 1 then s8.inlFetch n src f.frame e.height else s8).recordIfReady src f.frame

/-! ## Frame slots (R85, 10 R266) -/

/-- The slot whose window contains the present instant, counting windows that PERIOD spaces from the last known expected
start: −1 and below before slot 0. -/
def State.slotNow (s : State) (src : Nat) : Int :=
  let e := s.src src
  let p : Int := (e.period : Int)
  let from' (k0 e0 : Nat) : Int := ((k0 : Nat) : Int) + (2 * ((s.now : Int) - (e0 : Int)) + p) / (2 * p)
  let times := match e.trig with
    | 0 => []
    | j => (s.fs (j - 4)).times
  if e.trig ≥ 4 && fld (s.fs (e.trig - 4)).ctrl 0 2 == 2 then
    -- GENLOCK: the last pulse whose window has opened, by its scheduled time
    match (times.filter (fun t => decide (2 * ((t.2 + s.tt src 0 : Nat) : Int) ≤ 2 * (s.now : Int) + p))).getLast? with
    | some (k, t) => from' k (t + s.tt src 0)
    | none => -1
  else
    match s.expectAt src 0 with
    | some e0 => from' 0 e0
    | none => -1

/-- E_k of a slot, continued by PERIOD beyond the pulses that are scheduled. -/
def State.expectOf (s : State) (src k : Nat) : Nat :=
  match s.expectAt src k with
  | some x => x
  | none =>
    match ((s.fs ((s.src src).trig - 4)).times).getLast? with
    | some (j, t) => t + s.tt src 0 + (k - j) * (s.src src).period
    | none => s.now

/-- Count slots up to, but not including, slot k whose windows have ended without a Frame Start. -/
def State.expireTo (s : State) (src : Nat) (k : Nat) : State :=
  let x := s.slots src
  if k ≤ x.nextSlot then s
  else (State.bumpN (fun s => s.bumpPort (s.src src).port 12) (k - x.nextSlot) s).putSlots src { x with nextSlot := k }

/-- FRAME_SLOT_EXPIRE: windows that have ended with no Frame Start are counted; those of SLEEP and DEEP_SLEEP are not (16
R422). -/
def frameSlotExpire (src : Nat) (s : State) : State :=
  let e := s.src src
  if !(e.enable && (e.kind = 0 || e.kind = 1) && e.period != 0 && s.accepting) then s
  else
    let k := s.slotNow src
    if k ≤ 0 then s else s.expireTo src k.toNat

/-- After a wake, the first frame accepted belongs to the first slot whose window opens after it (16 R422). -/
def State.skipSlots (s : State) : State :=
  s.sources.foldl (fun s src =>
    if (s.src src).period = 0 || (s.src src).kind = 2 then s
    else s.putSlots src { s.slots src with nextSlot := max (s.slots src).nextSlot ((s.slotNow src + 1).toNat) }) s

/-! ## Packets -/

/-- Header errors (R71): a corrected header is counted on the port; its frame counts it where it is known. -/
def State.eccCorr (s : State) (port : Nat) (src : Option Nat) : State :=
  let s1 := s.bumpPort port 2
  match src with
  | some i => { s1 with flights := s1.flights.map (fun f =>
      if f.source == i && f.isOpen && !f.host then { f with eccCorr := f.eccCorr + 1 } else f) }
  | none => s1

/-- The open frame that a packet's header counts in: a Frame Start of exposure 0 belongs to none that is open. -/
def headerOf (start : Bool) (m : Option (Nat × Nat)) : Option Nat :=
  match m with
  | some (src, x) => if start && x == 0 then none else some src
  | none => none

/-- An uncorrectable header: counted for every open frame of the port; the rest of the HS burst is discarded. -/
def State.eccUncorr (s : State) (port : Nat) : State :=
  let s1 := s.bumpPort port 3
  { s1.putIng port { s1.ing' port with discard := true } with
    flights := s1.flights.map (fun f =>
      if f.isOpen && !f.host && (s1.src f.source).port == port then { f with eccUncorr := f.eccUncorr + 1 } else f) }

/-- What every packet of a port does first: HS traffic is seen, and its header is checked. `none` when the packet goes no
further. -/
def State.header (s : State) (port vc ecc : Nat) (start : Bool) : State × Option (Option (Nat × Nat)) :=
  if !s.receives port vc then (s, none)
  else
    let s1 := s.putIng port { s.ing' port with lastHs := some s.now }
    if (s1.ing' port).discard then (s1, none)
    else if ecc = 2 then (s1.eccUncorr port, none)
    else
      let m := s1.srcOn port vc
      (if ecc = 1 then s1.eccCorr port (headerOf start m) else s1, some m)

/-- Accept the Frame Start of exposure 0 as frame fr of a source. -/
def State.acceptStart (s : State) (src fr expect fn corr : Nat) : State :=
  let e := s.src src
  let s1 := match s.openOf src with
    | some f => s.closeFrame f false
    | none => s
  let late := e.fsWindow != 0 && decide (expect + e.fsWindow * 1000 < s1.now)
  let s2 := s1.openFrame src fr false (e.plateAt (fr % (e.plateCount + 1))) expect fn late ((s1.now - expect) / 1000) corr
  let s3 := if late then s2.bumpPort e.port 5 else s2
  if e.kind = 1 then
    { s3 with front := { s3.front with inl := s3.front.inl ++
      [{ frame := fr, lines := [], away := [], fetching := [], held := [], bad := [], stripe := 0, seg := 0, tapped := 0
         segW := if s3.boot.profile = 1 then 32 else 64, closed := false }] } }
  else s3

/-- A Frame Start of exposure 0, its header corrected `corr` times. While frames are not accepted it still closes an open frame
of an earlier slot (Table 3.5). A second one in a slot is an extra frame, and any further one a packet of it (R85). -/
def State.start0 (s : State) (src fn corr : Nat) : State :=
  let e := s.src src
  let x := s.slots src
  let discard (s : State) : State :=
    (s.bumpPort e.port 11).putSlots src { s.slots src with dropping := some .silent }
  let closeOld (s : State) : State := match s.openOf src with
    | some f => s.closeFrame f false
    | none => s
  if !s.accepting then
    discard (if e.period = 0 || x.opened != some (s.slotNow src).toNat then closeOld s else s)
  else if e.period = 0 then
    (s.acceptStart src (x.nextFree % 2 ^ 32) s.now fn corr).putSlots src { x with nextFree := x.nextFree + 1, dropping := none }
  else
    let k := s.slotNow src
    if k < 0 then discard s
    else
      let k := k.toNat
      if x.opened = some k then
        if x.dropping = some .extra then s.bumpPort e.port 7
        else (s.bumpPort e.port 13).putSlots src { x with dropping := some .extra }
      else if k < x.nextSlot then discard s
      else
        let s1 := s.expireTo src k
        (s1.acceptStart src (k % 2 ^ 32) (s1.expectOf src k) fn corr).putSlots src
          { s1.slots src with nextSlot := k + 1, opened := some k, dropping := none }

/-- FRAME_START. -/
def frameStart (port vc fn ecc : Nat) (s : State) : State :=
  match s.header port vc ecc true with
  | (s1, some (some (src, 0))) => s1.start0 src fn (b2n (ecc == 1))
  | (s1, some (some (src, _))) =>
    if (s1.slots src).dropping = some .silent || !s1.accepting && (s1.openOf src).isNone then s1
    else if (s1.slots src).dropping = some .extra || (s1.openOf src).isNone then s1.bumpPort port 7
    else s1
  | (s1, _) => s1

/-- FRAME_END. -/
def frameEnd (port vc ecc : Nat) (s : State) : State :=
  match s.header port vc ecc false with
  | (s1, some (some (src, x))) =>
    match (s1.slots src).dropping with
    | some .silent => s1
    | some .extra => s1.bumpPort port 7
    | none =>
      match s1.openOf src with
      | none => s1
      | some f =>
        if f.ends.contains x then s1
        else
          let g := { f with ends := x :: f.ends }
          let s2 := s1.putFlight g
          if (List.range (s1.src src).exposures).all (fun i => g.ends.contains i) then s2.closeFrame g false else s2
  | (s1, _) => s1

/-- A line of exposure x of the open frame f, `bs` its bytes as received. An over-long line counts in LONG_LINES whether or not
it is admitted (notes/assumptions/55.md). -/
def State.takeLine (s : State) (port : Nat) (f : Flight) (x : Nat) (bs : List Byte) : State :=
  let src := f.source
  let e := s.src src
  let l := tget 0 f.arrived x
  let size := e.lineBytes
  let f1 := { f with arrived := addLine f.arrived x }
  let s0 := s.putFlight f1
  let s1 :=
    if e.height ≤ l then s0.bumpPort port 9
    else
      let s1 := if size < bs.length then s0.bumpPort port 8 else s0
      if s1.bufFree port < size then
        -- not admitted: dropped whole (R80)
        (s1.bumpPort port 6).modFlight src f.frame (fun g =>
          { g with linesDropped := g.linesDropped + 1, overrun := g.overrun + 1, flags := g.flags ||| fTruncated
                   lost := (x, l) :: g.lost })
      else
        let full := decide (size ≤ bs.length)
        let s2 := s1.modFlight src f.frame (fun g =>
          if full then { g with complete := addLine g.complete x } else { g with flags := g.flags ||| fTruncated })
        if e.kind = 1 then
          -- a short in-line line is missing (R83)
          if full then s2.inlineLine port f x l (bs.take size) else s2
        else
          s2.pushWrite port { id := 0, source := src, frame := f.frame, addr := e.lineAt f.plate x l, toHost := e.plateHost
                              data := bs.take size, issued := 0, accepted := 0, isLine := true, exposure := x, line := l, full
                              isRec := false }
  -- the header of line l of the last exposure brings back line l of the others
  let s2 := if e.kind = 1 && x + 1 == e.exposures then s1.inlFetch port src f.frame (l + 1) else s1
  if x = 0 && l = e.paramLine then s2.queueSets src f.frame else s2

/-- Embedded data of the open frame f (R73, R78, R80). -/
def State.takeEmb (s : State) (port : Nat) (f : Flight) (bs : List Byte) : State :=
  if s.bufFree port < bs.length then
    (s.bumpPort port 10).modFlight f.source f.frame (fun g => { g with overrun := g.overrun + 1 })
  else
    let room := 4032 - f.embBytes
    let s1 := if room < bs.length then s.bumpPort port 10 else s
    let keep := bs.take room
    (s1.modFlight f.source f.frame (fun g => { g with embBytes := g.embBytes + keep.length })).pushWrite port
      { id := 0, source := f.source, frame := f.frame, addr := f.plate + 0x40 + f.embBytes, toHost := (s.src f.source).plateHost
        data := keep, issued := 0, accepted := 0, isLine := false, exposure := 0, line := 0, full := false, isRec := false }

/-- LONG_PACKET. BYTES counts the payload of every packet but null and blanking ones (notes/assumptions/56.md). A packet whose
type is the source's DT_EMB is embedded data whatever value that field has (notes/assumptions/54.md). -/
def longPacket (port vc dt wc ecc : Nat) (data : List Byte) (crcOk : Bool) (s : State) : State :=
  match s.header port vc ecc false with
  | (s1, none) => s1
  | (s1, some m) =>
    if dt = 0x10 || dt = 0x11 then s1
    else
      let bs := slice data 0 wc
      let s2 := s1.putIng port { s1.ing' port with bytes := ((s1.ing' port).bytes + wc) % 2 ^ 64 }
      let hit := match m with
        | some (src, x) =>
          let e := s2.src src
          if dt = e.dt then some (src, x, true) else if e.dtEmb != 0 && dt = e.dtEmb then some (src, x, false) else none
        | none => none
      match hit with
      | none => s2.bumpPort port 7
      | some (src, x, isLine) =>
        match (s2.slots src).dropping, s2.openOf src with
        | some .silent, _ => s2
        | some .extra, _ => s2.bumpPort port 7
        | none, none => if s2.accepting then s2.bumpPort port 7 else s2
        | none, some f =>
          let s3 := if crcOk then s2 else s2.bumpPort port 1
          let f1 := if crcOk then f else { f with crcErrs := f.crcErrs + 1, flags := f.flags ||| fCrcErr }
          let s4 := s3.putFlight f1
          if isLine then s4.takeLine port f1 x bs else s4.takeEmb port f1 bs

/-- SHORT_PACKET_IGNORED: its header is checked like any other (R71, R72). -/
def shortPacket (port vc ecc : Nat) (s : State) : State := (s.header port vc ecc false).1

/-- FRAME_CLOSE_TIMEOUT: PERIOD ns after its Frame Start an open frame closes (Table 3.5). -/
def frameCloseTimeout (src : Nat) (s : State) : State :=
  let e := s.src src
  match s.openOf src with
  | some f => if e.period != 0 && decide (f.startAt + e.period ≤ s.now) then s.closeFrame f false else s
  | none => s

/-- HS_BURST_END: what an uncorrectable header had discarded ends (R71). -/
def hsBurstEnd (port : Nat) (s : State) : State :=
  if s.live && decide (port < 16) then s.putIng port { s.ing' port with discard := false } else s

/-- PHY_ERR: a SoT or sync error (Table 3.11). -/
def phyErr (port : Nat) (s : State) : State :=
  if s.live && s.portOn port && decide (port < 16) && s.leadOf port == port then s.bumpPort port 14 else s

/-- DESKEW: the initial or periodic deskew of a D-PHY port has been done (R67). -/
def deskew (port : Nat) (s : State) : State :=
  if s.live && decide (port < 16) && fld (s.portCfg port) 0 2 == 1 then s.putIng port { s.ing' port with deskew := true } else s

/-! ## Writes of the ingress writers (R81, R82) -/

/-- Change, or take out, a write of a port's writer. -/
def State.modWrite (s : State) (port id : Nat) (g : IngWrite → IngWrite) : State :=
  let p := s.ing' port
  s.putIng port { p with queue := p.queue.map (fun w => if w.id = id then g w else w) }
def State.dropWrite (s : State) (port id : Nat) : State :=
  let p := s.ing' port
  s.putIng port { p with queue := p.queue.filter (fun w => w.id != id) }

/-- A write has come to its end; with the last one of a frame its record follows. -/
def State.writeOver (s : State) (port : Nat) (w : IngWrite) : State :=
  ((s.dropWrite port w.id).modFlight w.source w.frame (fun f => { f with writes := f.writes - 1 })).recordIfReady w.source w.frame

/-- A write of an ingress writer has been accepted: the bytes of line or embedded data leave the line buffer. -/
def State.ingAccepted (s : State) (port id : Nat) (bs : List Byte) : State :=
  match (s.ing' port).queue.find? (fun w => w.id == id) with
  | none => s
  | some w =>
    if w.isRec then (s.dropWrite port id).frameRecDone w.source w.frame bs
    else
      let s1 := (s.bufGive port bs.length).modWrite port id (fun w => { w with accepted := w.accepted + bs.length })
      if w.data.length ≤ w.accepted + bs.length then s1.writeOver port w else s1

/-- The rest of a line is dropped, by a page fault (R82) or a link that is down (12 R322): a dropped line, and a frame marked
TRUNCATED. Of embedded data only EMB_OVERFLOW counts (notes/assumptions/53.md). A record that cannot be written does not hold
the frame back (notes/assumptions/60.md). -/
def State.ingDrop (s : State) (port : Nat) (w : IngWrite) : State :=
  if w.isRec then (s.dropWrite port w.id).modFlight w.source w.frame (fun f => { f with recWritten := true, metAt := s.now })
  else
    let s1 := if w.isLine then s.bumpPort port 6 else s.bumpPort port 10
    let s2 := if w.isLine then s1.modFlight w.source w.frame (fun f =>
        { f with linesDropped := f.linesDropped + 1, flags := f.flags ||| fTruncated, lost := (w.exposure, w.line) :: f.lost
                 complete := if w.full then f.complete.map (fun e => if e.1 = w.exposure then (e.1, e.2 - 1) else e) else f.complete })
      else s1
    let s3 := s2.bufGive port (w.data.length - w.issued)
    if w.issued ≤ w.accepted then s3.writeOver port w
    else s3.modWrite port w.id (fun x => { x with data := x.data.take w.issued, issued := w.issued })

/-- A page fault of an ingress writer (R82). -/
def State.ingFault (s : State) (port : Nat) (w : IngWrite) : State :=
  (s.ingDrop port w).pageFault
    { requester := port, slot := 0, epoch := 0, write := true, kind := 1, addr := (w.addr + w.issued) / 256 * 256 }

/-- PORT_STATUS. -/
def State.portStatus (s : State) (n : Nat) : Word :=
  let p := s.ing' n
  wd (b2n (match p.lastHs with
      | some t => decide (s.now ≤ t + 1_000_000)
      | none => false)
    + 2 * b2n p.deskew + 4 * b2n (s.bufFree n == 0))

/-! ## The commands -/

/-- FRAME_START (03 R85). -/
def execFrameStart (t port vc fn ecc : Nat) (s : State) : Host.Outcome State Fault Refusal :=
  .next (frameStart port vc fn ecc (s.advance t))
/-- FRAME_END (03 R88). -/
def execFrameEnd (t port vc _fn ecc : Nat) (s : State) : Host.Outcome State Fault Refusal :=
  .next (frameEnd port vc ecc (s.advance t))
/-- LONG_PACKET (03 R80). -/
def execLongPacket (t port vc dt wc ecc : Nat) (data : List Byte) (crcOk : Bool) (s : State) :
    Host.Outcome State Fault Refusal :=
  .next (longPacket port vc dt wc ecc data crcOk (s.advance t))
/-- SHORT_PACKET_IGNORED (03 R72). -/
def execShortPacketIgnored (t port vc _dt ecc : Nat) (s : State) : Host.Outcome State Fault Refusal :=
  .next (shortPacket port vc ecc (s.advance t))
/-- FRAME_CLOSE_TIMEOUT (03 R88). -/
def execFrameCloseTimeout (t src : Nat) (s : State) : Host.Outcome State Fault Refusal :=
  .next (frameCloseTimeout src (s.advance t))
/-- FRAME_SLOT_EXPIRE (03 R85). -/
def execFrameSlotExpire (t src : Nat) (s : State) : Host.Outcome State Fault Refusal := .next (frameSlotExpire src (s.advance t))
/-- HS_BURST_END (03 R71). -/
def execHsBurstEnd (t port : Nat) (s : State) : Host.Outcome State Fault Refusal := .next (hsBurstEnd port (s.advance t))
/-- PHY_ERR (03 Table 3.11). -/
def execPhyErr (t port : Nat) (s : State) : Host.Outcome State Fault Refusal := .next (phyErr port (s.advance t))
/-- DESKEW (03 R67). -/
def execDeskew (t port : Nat) (s : State) : Host.Outcome State Fault Refusal := .next (deskew port (s.advance t))

end Sys2Proof.Machine
end

