-- ==== Sys2Proof/Machine/Ephemeris.lean ====
section
/-! DEFINITION. The Ephemeris (spec/10_stage_pipeline_and_partitions.md R265 to R268, R275): T0, the release of stripes into the
release queue, and the stall bits. The end of a frame is in Machine/Final.lean. -/

namespace Sys2Proof.Machine

/-- STATE becomes RUNNING: T0, the Chronograph's view of it, and the FSYNC schedules (R265, 03 R99). -/
def State.startTimetable (s : State) : State :=
  { s with eph := { s.eph with t0 := some s.now, t0Ns := s.ns } }.fsStart

/-- The sources of a stripe: the fold group of a lead, or the source. -/
def State.group (s : State) (src : Nat) : List Nat := s.members (s.foldLead src)

/-- The input of stripe j of a frame is in its plate: the last line of the last exposure has been written, or the frame has
closed (R267). A line that was dropped is never written, so the stripe then waits for the close. -/
def State.stripeIn (s : State) (f : Flight) (j : Nat) : Bool :=
  let e := s.src f.source
  let last := min ((j + 1) * e.stripeLines) e.height
  !f.isOpen ||
    (decide (last ≤ tget 0 f.arrived (e.exposures - 1)) && !f.lost.contains (e.exposures - 1, last - 1) &&
      (f.host || (s.ing' e.port).queue.all (fun w =>
        !(w.source == f.source && w.frame == f.frame && w.isLine && w.exposure + 1 == e.exposures && w.line + 1 == last))))



/-- Insert in order. -/
def relInsert (r : Rel) : List Rel → List Rel
  | [] => [r]
  | x :: q => if Rel.before r x then r :: x :: q else x :: relInsert r q

/-- A release is made: it enters the queue; it counts in RELEASES, and in LATE_RELEASES when rel has passed. -/
def State.makeRelease (s : State) (r : Rel) : State :=
  let s1 := { s with eph := { s.eph with queue := relInsert r s.eph.queue } }.bump64 0x40_0080 1
  if r.rel < s.now then s1.bumpEph 0 else s1

/-- An entry of the release queue has become free: the oldest release that waits is made. -/
def State.unstall (s : State) : State :=
  match s.eph.stalled with
  | [] => s
  | r :: q => if s.eph.queue.length < 1024 then ({ s with eph := { s.eph with stalled := q } }).makeRelease r else s

/-- STRIPE_RELEASE: stripe j of a frame of a source, or of the fold group it belongs to, is released at the later of rel(j)
and the moment its input is in the plate; the INLINE source is not released. -/
def stripeRelease (src fr j : Nat) (s : State) : State :=
  let ms := s.group src
  let lead := s.foldLead src
  match s.flight lead fr with
  | none => s
  | some f =>
    let e := s.src lead
    let rel := s.relAt lead f.expectAt j
    let may (m : Nat) : Bool :=
      match s.flight m fr with
      | some g => g.released == j && !g.stopped && s.stripeIn g j && (match s.eph.cutoff with
          | some c => decide (g.startAt ≤ c)
          | none => true)
      | none => false
    if e.kind = 1 || s.eph.t0.isNone || !s.live || e.stripes ≤ j || s.now < rel || !(ms.all may) then s
    else
      let r : Rel := { rel, dl0 := rel + s.dlOff e.chain 0, source := lead, frame := fr, stripe := j, lines := e.stripeHeight j }
      let s1 := { s with flights := s.flights.map (fun (g : Flight) =>
        if ms.contains g.source && g.frame == fr then { g with released := j + 1 } else g) }
      if s1.eph.queue.length < 1024 then s1.makeRelease r
      else ({ s1 with eph := { s1.eph with stalled := s1.eph.stalled ++ [r] } }).bumpEph 1

/-- A context of a partition waits on a semaphore or claim. -/
def State.partWaits (s : State) (p : Nat) : Bool :=
  s.cores.any (fun e => s.corePart e.1 == some p && e.2.ctxs.any (fun c => c.2.blocked))

/-- STALL_TIMEOUT: no semaphore of the partition has advanced for STALL_US while a context of it waited (R275). -/
def stallTimeout (p : Nat) (s : State) : State :=
  let us := fld (s.rget 0x40_0020) 0 16
  match tfind s.eph.waitSince p with
  | some t =>
    if us = 0 || 64 ≤ p || !s.partWaits p || s.now < t + us * 1000 then s
    else ({ s with eph := { s.eph with stall := nset s.eph.stall p } }).noteEvt s.evtStatus
  | none => s

/-- STRIPE_RELEASE (10 R267). -/
def execStripeRelease (t src frame stripe : Nat) (s : State) : Host.Outcome State Fault Refusal :=
  .next (stripeRelease src frame stripe (s.advance t))
/-- STALL_TIMEOUT (10 R275). -/
def execStallTimeout (t p : Nat) (s : State) : Host.Outcome State Fault Refusal := .next (stallTimeout p (s.advance t))

end Sys2Proof.Machine
end

