-- ==== Sys2Proof/Machine/Dma.lean ====
section
/-! DEFINITION. DMA channels (spec/12_host_link_and_dma.md R323 to R344): descriptors, beats, completion records, host sources,
halts and channel control. Beats are granted in Machine/Arbitrate.lean. -/

namespace Sys2Proof.Machine

/-! ## A channel and its registers (Tables 12.13, 12.15) -/

def chanReg (c off : Nat) : Nat := 0x10_1000 + 0x100 * c + off
def State.chan (s : State) (c : Nat) : Chan := tget Chan.init s.dma c
def State.putChan (s : State) (c : Nat) (x : Chan) : State := { s with dma := tput s.dma c x }
def State.chCfg (s : State) (c : Nat) : Word := s.rget (chanReg c 0)
def State.chKind (s : State) (c : Nat) : Nat := fld (s.chCfg c) 0 2
def State.chPrio (s : State) (c : Nat) : Nat := fld (s.chCfg c) 2 2
def State.chMsix (s : State) (c : Nat) : Nat := fld (s.chCfg c) 16 8
def State.chFirst (s : State) (c : Nat) : Nat := fld (s.rget (chanReg c 4)) 0 12
def State.chCount (s : State) (c : Nat) : Nat := fld (s.rget (chanReg c 4)) 12 13
def State.chCovers (s : State) (c src : Nat) : Bool :=
  decide (s.chFirst c ≤ src) && decide (src < s.chFirst c + s.chCount c)
def State.drLog (s : State) (c : Nat) : Nat := fld (s.rget (chanReg c 8)) 0 5
def State.crLog (s : State) (c : Nat) : Nat := fld (s.rget (chanReg c 8)) 8 5
def State.dring (s : State) (c : Nat) : Nat := s.rget64 (chanReg c 0x10)
def State.cring (s : State) (c : Nat) : Nat := s.rget64 (chanReg c 0x18)

/-- STATE's code (Table 12.11): OFF follows from KIND. -/
def ChState.code : ChState → Nat
  | .stopped => 1 | .running => 2 | .stopping => 3 | .halted => 4 | .aborting => 5
def State.chStatus (s : State) (c : Nat) : Word :=
  let x := s.chan c
  wd ((if s.chKind c = 0 then 0 else x.state.code) + (x.fetched.length + x.jobs.length) * 2 ^ 8 + x.ci * 2 ^ 16)

/-- Link rate in B/µs of a generation and width (Table 12.2). -/
def linkRate (gen width : Nat) : Nat :=
  (match gen with
    | 5 => 56000 | 4 => 28000 | 3 => 14000 | _ => 0) * width / 16

/-- The provisioned link rate (R314). -/
def State.provRate (s : State) : Nat := linkRate (fld (s.rget 0x10_0004) 0 3) (fld (s.rget 0x10_0004) 3 5)

/-- Max_Payload_Size and Max_Read_Request_Size in bytes. -/
def State.mps (s : State) : Nat := min 512 (128 * 2 ^ s.host.cfg.mps)
def State.mrrs (s : State) : Nat := min 512 (128 * 2 ^ s.host.cfg.mrrs)

/-- Channels may fetch: after step 14, not in a re-arm, and not past step 3 of a power-state entry (16 R420, R422). -/
def State.dmaFetches (s : State) : Bool :=
  (s.boot.phase == .running || s.boot.phase == .armedWait) && s.pwr.state == .run &&
    match s.pwr.trans with
    | some t => t.wake || decide (t.step < 3)
    | none => true

/-! ## Device addresses (Table 12.4) -/

/-- Path and point of arbitration of a device address: stacks, pool banks, vault ports (11 R288). A core-local address
takes the remote share of its core's vault port (17 R437). -/
def devPoint (a : Nat) : Nat × Nat :=
  if a < 0x8_0000_0000 then (a / 2 ^ 34, a / 2 ^ 34)
  else if a < 0x8_4000_0000 then (4, 100 + (a - 0x8_0000_0000) / 0x40_0000)
  else if a < localAt 0 then (3, 16 + 16 * ((a - 0x8_4000_0000) / 0x100_0000) + a / 256 % 16)
  else (4, 100 + (a - localAt 0) / 0x20_0000)

/-- A device range lies wholly within one target of Table 12.4. -/
def devRangeOk (a n : Nat) : Bool :=
  decide (a + n ≤ 0x8_0000_0000) || (decide (0x8_0000_0000 ≤ a) && decide (a + n ≤ 0x8_2400_0000))
    || (decide (0x8_4000_0000 ≤ a) && decide (a + n ≤ 0x8_4400_0000))

/-! ## Jobs: descriptors in progress -/

def Job.total (j : Job) : Nat := j.unit * j.copies.length

/-- Address of a position at the source or the destination. -/
def Job.addrAt (j : Job) (write : Bool) (pos : Nat) : Nat :=
  let c := j.copies.getD (pos / max 1 j.unit) (0, 0)
  (if write then c.2 else c.1) + pos % max 1 j.unit

/-- The side of a beat is the host. -/
def Job.hostSide (j : Job) (write : Bool) : Bool := write == j.toHost

/-- Bytes of the beat at a position: one request within a block of its side (R330). -/
def State.beatLen (s : State) (j : Job) (write : Bool) (pos : Nat) : Nat :=
  let a := j.addrAt write pos
  let rem := j.unit - pos % max 1 j.unit
  if j.hostSide write then min rem (min (512 - a % 512) (if write then s.mps else s.mrrs)) else min rem (256 - a % 256)

/-- Source bytes that have come without a gap from a position on. -/
def runFrom (got : List (Nat × List Byte)) : Nat → Nat → Nat
  | 0, pos => pos
  | fuel + 1, pos =>
    match got.find? (fun p => decide (p.1 ≤ pos) && decide (pos < p.1 + p.2.length)) with
    | some p => runFrom got fuel (p.1 + p.2.length)
    | none => pos

/-- Bytes [pos, pos + n) of what has come. -/
def gotBytes (got : List (Nat × List Byte)) (pos n : Nat) : List Byte :=
  (List.range n).map (fun i =>
    match got.find? (fun p => decide (p.1 ≤ pos + i) && decide (pos + i < p.1 + p.2.length)) with
    | some p => p.2.getD (pos + i - p.1) 0
    | none => 0)

/-- Where the destination's bytes end: at the failing beat, or at the whole length (R342 step 2). -/
def Job.limit (j : Job) : Nat :=
  match j.fail with
  | some (p, _) => p
  | none => j.total

/-- The write beat of a job: the next bytes of the destination, once the beat is complete. -/
def State.writeBeat (s : State) (j : Job) : Option (Nat × Nat) :=
  let n := min (s.beatLen j true j.sent) (j.limit - j.sent)
  if j.cancelled.isSome || n = 0 || runFrom j.got (j.got.length + 1) j.sent < j.sent + n then none else some (j.sent, n)

/-- The read beat of a job: the next bytes of the source, if the 8 KiB buffer has room. -/
def State.readBeat (s : State) (j : Job) : Option (Nat × Nat) :=
  let n := min (s.beatLen j false j.asked) (j.total - j.asked)
  if j.cancelled.isSome || j.fail.isSome || n = 0 || 8192 < j.asked + n - j.sent then none else some (j.asked, n)

/-- Path of a beat: 2 for the host link. -/
def Job.beatPath (j : Job) (write : Bool) (pos : Nat) : Nat :=
  if j.hostSide write then 2 else (devPoint (j.addrAt write pos)).1

/-- What a channel has ready on a path: a beat of a job, or an access of its own; where it stands in arbitration (Table 12.7),
its charge (11 Table 11.4) and its attributes (R321). -/
structure Beat where
  client : Client
  job : Nat
  write : Bool
  pos : Nat
  addr : Nat
  len : Nat
  cls : Nat
  dry : Nat
  charge : Nat
  noSnoop : Bool
  relaxed : Bool

/-- Class and run-dry time of a channel's data beats (Table 12.7). -/
def State.chanKey (s : State) (c : Nat) : Nat × Nat :=
  if s.chKind c = 2 then
    match (s.chan c).jobs.find? (fun j => decide (j.sent < j.total)) with
    | some j =>
      match j.frame with
      | some (src, fr) =>
        let e := s.src src
        let line := j.sent / max 1 j.unit / max 1 e.exposures
        let rel := match s.flight src fr with
          | some f => s.relAt src f.expectAt (line / max 1 e.stripeLines)
          | none => 0
        (if s.realTime e.partition then 1 else 2, min (rel - s.now) 1048575)
      | none => (2, 1048575)
    | none => (2, 0)
  else if s.chPrio c ≤ 1 then (2, 1048575)
  else (3, 1048576)

/-- Path, address and length of the next request of an access: one PCIe block and request size, or one granule. -/
def State.auxPiece (s : State) (a : Aux) : Nat × Nat × Nat :=
  let at0 := a.addr + a.issued
  let left := a.len - a.issued
  if a.host then (2, at0, min left (min (512 - at0 % 512) (if a.write then s.mps else s.mrrs)))
  else ((devPoint at0).1, at0, min left (256 - at0 % 256))

/-- Charge of the next request of an access. -/
def Aux.charge (a : Aux) (p : Nat × Nat × Nat) : Nat :=
  if a.host then hostCharge p.2.1 a.issued else memCharge p.1 p.2.1 p.2.2 a.write

/-- The oldest access of a channel that has something left to issue. -/
def State.chanAux (s : State) (c : Nat) : Option Aux :=
  s.mems.aux.find? (fun a => a.use.chan == some c && decide (a.issued < a.len))

/-- An access of a channel as a beat: class 2, run-dry time 0. -/
def State.auxBeat (s : State) (a : Aux) : Beat :=
  let p := s.auxPiece a
  { client := .aux a.id, job := 0, write := a.write, pos := a.issued, addr := p.2.1, len := p.2.2, cls := 2, dry := 0
    charge := a.charge p, noSnoop := a.noSnoop, relaxed := false }

/-- A beat of a job. -/
def State.jobBeat (s : State) (c : Nat) (j : Job) (write : Bool) (pos len : Nat) : Beat :=
  let a := j.addrAt write pos
  let path := j.beatPath write pos
  let key := s.chanKey c
  { client := .dma c, job := j.id, write, pos, addr := a, len, cls := key.1, dry := key.2
    charge := if path = 2 then hostCharge a (pos % max 1 j.unit) else memCharge path a len write
    noSnoop := bit (s.chCfg c) 5, relaxed := write && path == 2 && bit (s.chCfg c) 6 && s.host.cfg.relaxed }

/-- The data beat that a channel has ready on a path: bytes to write first. A descriptor's bytes move only after those of
earlier ones have been issued (R326). -/
def State.dataBeat (s : State) (c path : Nat) : Option Beat :=
  match (s.chan c).jobs.find? (fun j => decide (j.sent < j.limit) && j.cancelled.isNone) with
  | none => none
  | some j =>
    let w := match s.writeBeat j with
      | some (p, n) => if j.beatPath true p = path then some (s.jobBeat c j true p n) else none
      | none => none
    match w with
    | some b => some b
    | none =>
      match s.readBeat j with
      | some (p, n) => if j.beatPath false p = path then some (s.jobBeat c j false p n) else none
      | none => none

/-- The beat that a channel has ready on a path: its descriptor fetches and records first. On a link that is up, none while the
host cannot be reached. -/
def State.chanBeat (s : State) (c path : Nat) : Option Beat :=
  if s.chKind c = 0 || (path = 2 && s.host.linkUp && !s.hostUp) then none
  else
    match (s.chanAux c).filter (fun a => (s.auxPiece a).1 == path) with
    | some a => some (s.auxBeat a)
    | none => s.dataBeat c path

/-- A beat on the host link is in share while the channel's bucket holds its charge (R332). -/
def State.inShare (s : State) (c path charge : Nat) : Bool := path != 2 || decide (charge ≤ (s.chan c).bucket)

/-- The channels with a beat ready on a path. -/
def State.readyBeats (s : State) (path : Nat) : List (Nat × Beat) :=
  (List.range 32).filterMap (fun c => (s.chanBeat c path).map (fun b => (c, b)))

/-- Order of two beats of channels equally in share: priority, run-dry time, channel number (R331). -/
def State.beatBefore (s : State) (a b : Nat × Beat) : Bool :=
  if s.chPrio a.1 ≠ s.chPrio b.1 then decide (s.chPrio a.1 < s.chPrio b.1)
  else if a.2.dry ≠ b.2.dry then decide (a.2.dry < b.2.dry) else decide (a.1 < b.1)

/-- The channel that R331 chooses on a path: among those in share, or out of it with SURPLUS while none is in share. -/
def State.chosenBeat (s : State) (path : Nat) : Option (Nat × Beat) :=
  let ready := s.readyBeats path
  let inb := ready.filter (fun e => s.inShare e.1 path e.2.charge)
  let cand := if inb = [] then ready.filter (fun e => bit (s.chCfg e.1) 4) else inb
  cand.foldl (fun b e =>
    match b with
    | some d => if s.beatBefore e d then some e else some d
    | none => some e) none

/-- DMA_BEAT: on a path, the channel chosen by share, priority, run-dry time and number offers its next beat. -/
def dmaBeat (path : Nat) (s : State) : State :=
  match s.chosenBeat path with
  | none => { s with mems := { s.mems with offers := tdel s.mems.offers path } }
  | some e => { s with mems := { s.mems with offers := tput s.mems.offers path e.1 } }

/-! ## Jobs change -/

def State.modJob (s : State) (c id : Nat) (g : Job → Job) : State :=
  let x := s.chan c
  s.putChan c { x with jobs := x.jobs.map (fun j => if j.id = id then g j else j) }

/-- A beat fails: nothing further of the descriptor is read, and its address is latched (R342 steps 1 to 3). -/
def State.failJob (s : State) (c id pos cause addr : Nat) (device : Bool) : State :=
  match (s.chan c).jobs.find? (fun j => j.id == id) with
  | none => s
  | some j =>
    let first := match j.fail with
      | some (p, _) => decide (pos < p)
      | none => true
    if !first || j.cancelled.isSome then s
    else
      let s1 := s.modJob c id (fun j => { j with fail := some (pos, cause, addr, device) })
      let x := s1.chan c
      s1.putChan c { x with errAddr := addr, errInfo := cause + b2n device * 2 ^ 8 + j.index * 2 ^ 16 }

/-- Source bytes of a beat arrive; those after a failing beat are discarded. -/
def State.jobGot (s : State) (c id pos : Nat) (bs : List Byte) : State :=
  s.modJob c id (fun j => if pos + bs.length ≤ j.limit then { j with got := (pos, bs) :: j.got } else j)

/-! ## Host frames (R337 to R340) -/

/-- Lines of each exposure that n line copies cover: the copies go line by line, every exposure of a line in turn. -/
def hostLines (exposures n : Nat) : List (Nat × Nat) :=
  (List.range exposures).map (fun e => (e, (n + exposures - 1 - e) / max 1 exposures))

/-- The lines that have been accepted are in the plate. -/
def State.hostArrived (s : State) (src fr lines : Nat) : State :=
  let e := s.src src
  s.modFlight src fr (fun f => { f with arrived := hostLines e.exposures lines, complete := hostLines e.exposures lines })

/-- The SOURCE channel of a host frame writes its Frame Record: to HBM, or to host memory by the Page Map entry as it stands; an
entry that does not let it pass loses the record with a page-fault entry of requester 145 (notes/assumptions/61.md). -/
def State.hostRecord (s : State) (c src fr : Nat) : State :=
  match s.flight src fr with
  | none => s
  | some f =>
    let bs := s.recBytes f
    if !f.plateHost then s.addAux (.frameRecord c src fr) true false false f.plate bs.length bs
    else
      match s.hostPage f.plate true with
      | some p => s.addAux (.frameRecord c src fr) true true p.2 p.1 bs.length bs
      | none => (s.modFlight src fr (fun f => { f with recWritten := true, metAt := s.now })).pageFault
          { requester := 145, slot := 0, epoch := 0, write := true, kind := 1, addr := f.plate / 256 * 256 }

/-- Close a host frame: lines not copied are dropped lines, and its Frame Record follows (R340). -/
def State.closeHost (s : State) (src fr lines : Nat) (cancelled : Bool) : State :=
  let e := s.src src
  let all := e.height * e.exposures
  let s1 := (s.hostArrived src fr lines).modFlight src fr (fun f =>
    { f with isOpen := false, eofNs := s.ns, linesDropped := all - lines
             flags := f.flags ||| (if lines < all then fTruncated else 0) ||| (if cancelled then fCancelled else 0) })
  let s2 := match s1.flight src fr with
    | some f => if nbit f.flags 1 then
        s1.raise { cls := 0x53, action := 2, unit := unitIo, detail := src + min f.lateUs m32 * 2 ^ 32, frame := some (src, fr) }
      else s1
    | none => s1
  (List.range 32).foldl (fun s c => if s.chKind c = 2 && s.chCovers c src then s.hostRecord c src fr else s) s2

/-! ## Completion records (R328, R329, R342) -/

/-- STATUS and CAUSE of a job's record. -/
def Job.status (j : Job) : Nat × Nat :=
  match j.fail, j.cancelled with
  | some (_, c, _), _ => (if c = 0x20 then 3 else 2, c)
  | none, some c => (1, c)
  | none, none => if j.refused then (4, 0) else (0, 0)

/-- SOURCE_FRAME of a record: of a descriptor that names a source and became no frame the frame number is not stated, so it is a
free value (notes/assumptions/5.md). -/
def State.sourceFrame (s : State) (c src : Nat) (frame : Option (Nat × Nat)) : Nat × State :=
  match frame with
  | some (x, fr) => (x % 4096 + fr % 2 ^ 20 * 4096, s)
  | none =>
    if s.chKind c != 2 then (0, s)
    else
      let (v, s1) := s.freeN
      (src % 4096 + v % 2 ^ 20 * 4096, s1)

/-- Queue a record for the channel's completion ring; the vector where it is due follows its acceptance (R329). -/
def State.dmaRecord (s0 : State) (c status tag index cause done addr src : Nat) (frame : Option (Nat × Nat)) (irq : Bool) : State :=
  let (sf, s) := s0.sourceFrame c src frame
  let x := s.chan c
  let seq := (x.seq + 1) % 2 ^ 32
  let bs := bytesLE 1 c ++ bytesLE 1 status ++ bytesLE 2 tag ++ bytesLE 2 index ++ bytesLE 1 cause ++ bytesLE 1 0
    ++ bytesLE 8 done ++ bytesLE 8 addr ++ bytesLE 4 seq ++ bytesLE 4 sf
  (s.putChan c { x with seq, ci := (x.ci + 1) % 65536 }).addAux (.record c (if irq || status != 0 then s.chMsix c else 0xFF))
    true true (bit (s.chCfg c) 5) (s.cring c + seq % 2 ^ s.crLog c * 32) bs.length bs

/-- The record and the fault record of a job. -/
def State.jobRecord (s : State) (c : Nat) (j : Job) : State :=
  let (status, cause) := j.status
  let addr := match j.fail with
    | some (_, _, a, _) => a
    | none => 0
  let s1 := s.dmaRecord c status j.tag j.index (if status = 2 || status = 1 then cause else 0) j.accepted addr j.src j.frame j.irq
  match j.fail with
  | some (_, _, a, _) =>
    s1.raise { cls := if cause = 0x20 then 0x72 else 0x41, action := 2, unit := unitIo
               detail := c + cause * 2 ^ 8 + j.index % 65536 * 2 ^ 16 + a % 2 ^ 32 * 2 ^ 32
               origin := if cause = 0x20 then some 3 else none }
  | none => s1

/-- Nothing of a job is still to come. -/
def State.jobDone (s : State) (c : Nat) (j : Job) : Bool :=
  !s.mems.reqs.any (fun q => q.client == .dma c && q.epoch == j.id) &&
    (j.refused || (if j.cancelled.isSome then j.accepted == j.sent else j.accepted == j.limit))

/-- Records of what an abort cancels beyond the jobs: every descriptor up to PI. The TAG of one that has not been fetched is
not known, nor the source that it names, so they are free values (notes/assumptions/5.md). -/
def State.abortRest (s : State) (c : Nat) : Nat → State
  | 0 => s
  | n + 1 =>
    let x := s.chan c
    if x.ci = x.pi then s
    else
      let s1 := match x.fetched.find? (fun d => d.index == x.ci) with
        | some d => s.dmaRecord c 1 (leAt d.raw 2 2) x.ci x.abortCause 0 0 (leAt d.raw 4 2) none false
        | none =>
          let (v, s1) := s.freeN
          let (src, s2) := s1.freeN
          s2.dmaRecord c 1 (v % 65536) x.ci x.abortCause 0 0 src none false
      s1.abortRest c n

/-- What a channel does once no job is left: STOPPING and ABORTING end in STOPPED when the last record has been accepted. -/
def State.chanRest (s : State) (c : Nat) : State :=
  let x := s.chan c
  if x.jobs != [] || x.fetching then s
  else
    let rest (s : State) : State :=
      if s.auxOut (fun u => u.chan == some c) then s
      else
        let y := s.chan c
        s.putChan c { y with state := .stopped, fetched := [], ci := if x.state = .aborting then y.pi else y.ci }
    match x.state with
    | .stopping => rest s
    | .aborting => rest (if s.chKind c = 3 then s else s.abortRest c ((x.pi + 65536 - x.ci) % 65536))
    | _ => s

/-- Complete the jobs at the head of a channel that are done, in order; a failing one halts the channel. -/
def State.chanSettle (s : State) (c : Nat) : Nat → State
  | 0 => s
  | n + 1 =>
    match (s.chan c).jobs with
    | [] => s.chanRest c
    | j :: rest =>
      if !s.jobDone c j then s
      else
        let s1 := match j.frame with
          | some (src, fr) => match s.flight src fr with
            | some f => if f.isOpen then s.closeHost src fr (j.accepted / max 1 j.unit) j.cancelled.isSome else s
            | none => s
          | none => s
        let s2 := (s1.putChan c { s1.chan c with jobs := rest }).jobRecord c j
        if j.fail.isSome && (s2.chan c).state != .aborting then
          let x := s2.chan c
          s2.putChan c { x with state := .halted, jobs := [], fetched := [], fetchAt := x.ci, abortCause := 0 }
        else s2.chanSettle c n

/-- Complete what can be completed of a channel. -/
def State.settleChan (s : State) (c : Nat) : State := s.chanSettle c ((s.chan c).jobs.length + 1)

/-- `n` bytes of a job's destination have been accepted. -/
def State.jobAccepted (s : State) (c id n : Nat) : State :=
  let s1 := (s.modJob c id (fun j => { j with accepted := j.accepted + n })).bump64 (chanReg c 0x40) n
  let s2 := match (s1.chan c).jobs.find? (fun j => j.id == id) with
    | some j => match j.frame with
      | some (src, fr) => s1.hostArrived src fr (j.accepted / max 1 j.unit)
      | none => s1
    | none => s1
  s2.settleChan c

/-! ## Descriptors (R324 to R327, R336) -/

/-- CH_DOORBELL: PI, unless it is beyond the ring or has moved back; ignored while REARMING (02 R63). -/
def chDoorbell (c pi : Nat) (s : State) : State :=
  if 32 ≤ c || s.boot.phase == .rearming || s.chKind c = 0 || s.chKind c = 3 then s
  else
    let x := s.chan c
    let d := (pi + 65536 - x.ci) % 65536
    if 2 ^ s.drLog c - 1 < d || d < (x.pi + 65536 - x.ci) % 65536 then s.bumpChan c 0
    else s.putChan c { x with pi := pi % 65536 }

/-- A tag that no outstanding request holds (R321). -/
def State.freeTag (s : State) : Option Nat :=
  if 768 ≤ s.host.reads.length then none
  else
    ((List.range 1024).map (fun i => (s.host.nextTag + i) % 1024)).find? (fun t => !s.host.reads.any (fun r => r.tag == t))

/-- Send the read of a request to the host. -/
def State.sendRead (s : State) (tag addr len request : Nat) (noSnoop : Bool) : State :=
  { s.out (.hostRead tag addr len noSnoop) with
    host := { s.host with nextTag := (tag + 1) % 1024
                          reads := s.host.reads ++ [{ tag, addr, len, request, since := s.now }] } }

/-- Address of ring entry i. -/
def State.descAddr (s : State) (c i : Nat) : Nat := s.dring c + i % 2 ^ s.drLog c * 32

/-- A descriptor fetch that met a bus error stands in the ring order as one byte: its cause. -/
def badDesc (index cause : Nat) : Desc := { index, raw := bytesLE 1 cause }

/-- DESCRIPTOR_FETCH: up to 8 descriptors in one read, not across the end of the ring. The read is a beat of the channel
(R325, R333). -/
def descriptorFetch (c : Nat) (s : State) : State :=
  let x := s.chan c
  let held := x.fetched.length + x.jobs.length
  let left := (x.pi + 65536 - x.fetchAt) % 65536
  let a := s.descAddr c x.fetchAt
  let n := min (min (8 - held) left)
    (min (2 ^ s.drLog c - x.fetchAt % 2 ^ s.drLog c) (min ((512 - a % 512) / 32) (s.mrrs / 32)))
  if 32 ≤ c || x.state != .running || x.fetching || n = 0 || !(s.chKind c == 1 || s.chKind c == 2) || !s.dmaFetches then s
  else (s.putChan c { x with fetching := true }).addAux (.descs c x.fetchAt n) false true (bit (s.chCfg c) 5) a (32 * n) []

/-- The data of a descriptor fetch, or its failure. -/
def State.gotDescs (s : State) (c index count : Nat) (bad : Option Nat) (bs : List Byte) : State :=
  let x := s.chan c
  let y := { x with fetching := false }
  if x.state != .running then (s.putChan c y).settleChan c
  else
    match bad with
    | some cause => s.putChan c { y with fetched := y.fetched ++ [badDesc index cause], fetchAt := (index + 1) % 65536 }
    | none => s.putChan c { y with
        fetched := y.fetched ++ (List.range count).map (fun i => { index := (index + i) % 65536, raw := slice bs (32 * i) 32 })
        fetchAt := (index + count) % 65536 }

/-- A job without copies. -/
def Job.empty (id : Nat) (d : Desc) : Job :=
  { id, index := d.index, tag := leAt d.raw 2 2, irq := false, toHost := false, unit := 0, copies := [], asked := 0, got := []
    sent := 0, accepted := 0, fail := none, cancelled := none, refused := false, src := leAt d.raw 4 2, frame := none }

/-- Check 1 of R327 for an XFER descriptor (Table 12.5). -/
def xferOk (r : List Byte) : Bool :=
  let n := leAt r 4 4
  decide (leAt r 0 2 < 8) && zerosAt r 0x18 8 && decide (1 ≤ n) && decide (n ≤ 0x1000_0000) && devRangeOk (leAt r 0x10 8) n

/-- Check 1 of R327 for a SOURCE descriptor (Table 12.8). -/
def State.sourceOk (s : State) (c : Nat) (r : List Byte) : Bool :=
  let src := leAt r 4 2
  let e := s.src src
  let pitch := leAt r 0x10 4
  decide (leAt r 0 2 < 2) && decide (src < 4096) && s.chCovers c src && e.enable && e.kind == 2 && zerosAt r 7 1 && zerosAt r 0x14 12
    && decide (leAt r 6 1 ≤ e.plateCount)
    && (if e.plateHost then leAt r 8 8 == 0 && pitch == 0 else decide (e.lineBytes ≤ pitch))

/-- The device range of a descriptor: that of an XFER, or the plate of a SOURCE in copy mode. -/
def State.descRange (s : State) (c : Nat) (r : List Byte) : Nat × Nat :=
  if s.chKind c = 1 then (leAt r 0x10 8, leAt r 4 4)
  else
    let e := s.src (leAt r 4 2)
    if e.plateHost then (0, 0) else (e.plateAt (leAt r 6 1), e.plateSize)

/-- The job of an XFER descriptor. -/
def xferJob (id : Nat) (d : Desc) : Job :=
  let toHost := nbit (leAt d.raw 0 2) 0
  let h := leAt d.raw 8 8
  let a := leAt d.raw 0x10 8
  { Job.empty id d with irq := nbit (leAt d.raw 0 2) 1, toHost, unit := leAt d.raw 4 4, copies := [if toHost then (a, h) else (h, a)] }

/-- Add a job behind the others, its descriptor leaving the fetched ones. -/
def State.addJob (s : State) (c : Nat) (j : Job) : State :=
  let x := s.chan c
  (s.putChan c { x with fetched := x.fetched.drop 1, jobs := x.jobs ++ [j], nextJob := x.nextJob + 1 }).settleChan c

/-- No descriptor in progress has failed or been cancelled; and every one's bytes have been issued. -/
def Chan.sound (x : Chan) : Bool := x.jobs.all (fun j => j.fail.isNone && j.cancelled.isNone)
def Chan.clear (x : Chan) : Bool := x.sound && x.jobs.all (fun j => j.sent == j.total)

/-- DESCRIPTOR_RECEIVED: the next fetched descriptor is checked (R327): refused, halted on, started (XFER), or left to wait for
its frame slot (SOURCE). -/
def descriptorReceived (c : Nat) (s : State) : State :=
  let x := s.chan c
  match x.fetched with
  | [] => s
  | d :: _ =>
    if x.state != .running || !(if s.chKind c = 2 then x.sound else x.clear) || !s.dmaFetches then s
    else if d.raw.length = 1 then
      let j := Job.empty x.nextJob d
      let (v, s0) := s.freeN
      let (src, s1) := s0.freeN
      let s2 := s1.putChan c { x with fetched := x.fetched.drop 1, jobs := x.jobs ++ [{ j with tag := v % 65536, src }]
                                      nextJob := x.nextJob + 1 }
      (s2.failJob c j.id 0 (leAt d.raw 0 1) (s.descAddr c d.index) false).settleChan c
    else if !(if s.chKind c = 1 then xferOk d.raw else s.sourceOk c d.raw) then
      s.addJob c { Job.empty x.nextJob d with refused := true }
    else
      let r := s.descRange c d.raw
      match s.protectedIn r.1 r.2 with
      | some a =>
        let j := Job.empty x.nextJob d
        let s1 := s.putChan c { x with fetched := x.fetched.drop 1, jobs := x.jobs ++ [j], nextJob := x.nextJob + 1 }
        (s1.failJob c j.id 0 0x20 a true).settleChan c
      | none =>
        if s.chKind c = 2 || (nbit (leAt d.raw 0 2) 2 && x.jobs != []) then s
        else s.addJob c (xferJob x.nextJob d)

/-- SOURCE_ACCEPT: the frame of the waiting SOURCE descriptor starts (R337), is copied line by line (R338), or in place is
complete at once (R339). -/
def sourceAccept (c : Nat) (s : State) : State :=
  let x := s.chan c
  match x.fetched with
  | [] => s
  | d :: _ =>
    let r := d.raw
    let src := leAt r 4 2
    let e := s.src src
    let sl := s.slots src
    let range := s.descRange c r
    let due := e.period == 0 || decide (2 * s.expectOf src sl.nextSlot ≤ 2 * s.now + e.period)
    if x.state != .running || s.chKind c != 2 || !x.sound || r.length ≤ 1 || !s.sourceOk c r || (s.protectedIn range.1 range.2).isSome
        || !s.accepting || !due then s
    else
      let k := if e.period = 0 then sl.nextFree else (s.slotNow src).toNat
      let fr := k % 2 ^ 32
      let expect := if e.period = 0 then s.now else s.expectOf src k
      let late := e.fsWindow != 0 && decide (expect + e.fsWindow * 1000 < s.now)
      let s1 := if e.period = 0 then s.putSlots src { sl with nextFree := k + 1 }
        else (State.bumpN (fun s => s.bumpChan c 2) (k - sl.nextSlot) s).putSlots src { sl with nextSlot := k + 1, opened := some k }
      let plate := e.plateAt (leAt r 6 1)
      let s2 := s1.openFrame src fr true plate expect (leAt r 2 2) late ((s.now - expect) / 1000) 0
      let s3 := if late then s2.bumpChan c 1 else s2
      let j := { Job.empty x.nextJob d with irq := nbit (leAt r 0 2) 0, frame := some (src, fr) }
      if e.plateHost then (s3.closeHost src fr (e.height * e.exposures) false).addJob c j
      else
        s3.addJob c { j with
          unit := e.lineBytes
          copies := (List.range (e.height * e.exposures)).map (fun i =>
            let l := i / max 1 e.exposures
            let ex := i % max 1 e.exposures
            (leAt r 8 8 + (ex * e.height + l) * leAt r 0x10 4, e.lineAt plate ex l)) }

/-! ## Channel control (R343) -/

/-- Cancel what a channel has in progress and pending, with a CAUSE. -/
def State.abortChan (s : State) (c cause : Nat) : State :=
  let x := s.chan c
  let jobs := x.jobs.map (fun j => if j.fail.isNone && !j.refused then { j with cancelled := some cause } else j)
  (s.putChan c { x with state := .aborting, jobs, abortCause := cause }).settleChan c

/-- START: STOPPED becomes RUNNING, and descriptors from CI on are fetched. -/
def chStart (c : Nat) (s : State) : State :=
  let x := s.chan c
  if 32 ≤ c || s.chKind c = 0 || x.state != .stopped || !s.past14 || s.boot.phase == .rearming then s
  else s.putChan c { x with state := .running, fetchAt := x.ci, fetched := [] }

/-- STOP: the descriptors in progress complete, nothing further starts. -/
def chStop (c : Nat) (s : State) : State :=
  let x := s.chan c
  if 32 ≤ c || s.chKind c = 0 || x.state != .running then s else (s.putChan c { x with state := .stopping }).settleChan c

/-- ABORT. -/
def chAbort (c : Nat) (s : State) : State :=
  let x := s.chan c
  if 32 ≤ c || s.chKind c = 0 || !(x.state == .running || x.state == .stopping || x.state == .halted) then s else s.abortChan c 0

/-- RESTART: a HALTED channel goes on with the descriptor after the halted one. -/
def chRestart (c : Nat) (s : State) : State :=
  let x := s.chan c
  if 32 ≤ c || s.chKind c = 0 || x.state != .halted || s.boot.phase == .rearming then s
  else s.putChan c { x with state := .running, fetchAt := x.ci, fetched := [] }

/-- RESET_IDX. -/
def chResetIdx (c : Nat) (s : State) : State :=
  let x := s.chan c
  if 32 ≤ c || s.chKind c = 0 || x.state != .stopped then s else s.putChan c { x with ci := 0, pi := 0, seq := 0, fetchAt := 0 }

/-- No channel has a descriptor in progress. -/
def State.dmaRests (s : State) : Bool := s.dma.all (fun e => e.2.jobs.isEmpty)

/-- A re-arm request: every channel stops fetching. In DRAIN, XFER descriptors in progress complete, SOURCE descriptors not yet
accepted are cancelled, and NOTIFY channels go on reporting the frames that drain; in ABORT, and on a HALTED channel, everything
is cancelled with cause 2 (Table 12.12). -/
def State.dmaRearm (s : State) (abort : Bool) : State :=
  (List.range 32).foldl (fun s c =>
    let x := s.chan c
    match x.state with
    | .stopped | .aborting => s
    | st =>
      if abort || st == .halted then s.abortChan c 2
      else if s.chKind c = 3 then s
      else if s.chKind c = 2 then (s.putChan c { x with state := .aborting, abortCause := 2 }).settleChan c
      else (s.putChan c { x with state := .stopping }).settleChan c) s

/-- The end of a re-arm: every channel is STOPPED with CI, PI and SEQ reset, its bucket full (R332, 02 R63). -/
def State.dmaArm (s : State) : State :=
  { s with dma := (List.range 32).map (fun c => (c, { Chan.init with bucket := 16384 })) }

/-- A microsecond tick: SHARE × L ÷ 256 bytes, up to 16,384 (R332). -/
def State.dmaTick (s : State) : State :=
  { s with dma := s.dma.map (fun e =>
    (e.1, { e.2 with bucket := min 16384 (e.2.bucket + fld (s.chCfg e.1) 8 8 * s.provRate / 256) })) }

/-! ## The commands that stand alone -/

/-- DESCRIPTOR_FETCH (12 R325). -/
def execDescriptorFetch (t ch : Nat) (s : State) : Host.Outcome State Fault Refusal := .next (descriptorFetch ch (s.advance t))
/-- DESCRIPTOR_RECEIVED (12 R327). -/
def execDescriptorReceived (t ch : Nat) (s : State) : Host.Outcome State Fault Refusal :=
  .next (descriptorReceived ch (s.advance t))
/-- DMA_BEAT (12 R331). -/
def execDmaBeat (t dataPath : Nat) (s : State) : Host.Outcome State Fault Refusal := .next (dmaBeat dataPath (s.advance t))
/-- SOURCE_ACCEPT (12 R337). -/
def execSourceAccept (t ch : Nat) (s : State) : Host.Outcome State Fault Refusal := .next (sourceAccept ch (s.advance t))

end Sys2Proof.Machine
end

