-- ==== Sys2Proof/Machine/Taps.lean ====
section
/-! DEFINITION. Taps (spec/04_front_stage_and_taps.md R117 to R121, spec/09 R237): tap queues, lines in production, the tap header
and the end of a tap. -/

namespace Sys2Proof.Machine

/-- Capacity of a tap queue: 64 KiB for the front-stage instances (queues 0 and 1), 16 KiB for a core (2 + n). -/
def tapCap (q : Nat) : Nat := if q < 2 then 0x1_0000 else 0x4000

/-- Bytes that a queue holds; the two writes of a tap header take no room in it. -/
def State.tapUsed (s : State) (q : Nat) : Nat :=
  (tget [] s.front.tapQ q).foldl (fun a w => if w.part = 0 then a + w.data.length else a) 0

def State.tapWrites (s : State) (q : Nat) : List TapWrite := tget [] s.front.tapQ q
def State.putTapWrites (s : State) (q : Nat) (l : List TapWrite) : State :=
  { s with front := { s.front with tapQ := tput s.front.tapQ q l } }

/-- Add a write to a queue, under a number of its own. -/
def State.pushTap (s : State) (q : Nat) (w : TapWrite) : State :=
  let s1 := s.putTapWrites q (s.tapWrites q ++ [{ w with id := s.front.nextTap }])
  { s1 with front := { s1.front with nextTap := s.front.nextTap + 1 } }

/-- Change, or take out, a write of a queue. -/
def State.modTap (s : State) (q id : Nat) (g : TapWrite → TapWrite) : State :=
  s.putTapWrites q ((s.tapWrites q).map (fun w => if w.id = id then g w else w))
def State.dropTap (s : State) (q : Nat) (p : TapWrite → Bool) : State :=
  s.putTapWrites q ((s.tapWrites q).filter (fun w => !p w))

/-- A write belongs to a tap of a frame. -/
def TapWrite.of (w : TapWrite) (src t fr : Nat) : Bool := w.source == src && w.tap == t && w.frame == fr

/-- The run of a tap of a frame. -/
def State.tapFind (s : State) (src t fr : Nat) : Option TapRun :=
  s.front.taps.find? (fun r => r.source == src && r.tap == t && r.frame == fr)

def State.putTap (s : State) (r : TapRun) : State :=
  { s with front := { s.front with taps := r :: s.front.taps.filter (fun x =>
      !(x.source == r.source && x.tap == r.tap && x.frame == r.frame)) } }

/-- The shape of a tap's data. -/
structure TapShape where
  exposures : Nat
  width : Nat
  height : Nat
  chans : Nat
  total : Nat

/-- The run of a tap, begun at its first line. -/
def State.tapRun (s : State) (src t fr : Nat) (sh : TapShape) : TapRun :=
  match s.tapFind src t fr with
  | some r => r
  | none =>
    let d := s.tapDesc (s.src src).chain t
    { source := src, tap := t, frame := fr, buf := s.tapBuf src t fr, toHost := d.toHost, exposures := sh.exposures
      width := sh.width, height := sh.height, chans := sh.chans, pitch := d.linePitch, total := sh.total, lines := 0
      dropped := 0, produced := 0, openLines := [], finished := false }

/-- The 64 bytes of the tap header (Table 4.3). -/
def tapHeader (f : Option Flight) (r : TapRun) (seq : Nat) : List Byte :=
  let (ep, sof, fl) := match f with
    | some f => (f.epoch, f.sofNs, f.flags)
    | none => (0, 0, 0)
  let b := bytesLE 2 r.source ++ bytesLE 2 ep ++ bytesLE 4 r.frame ++ bytesLE 8 sof ++ bytesLE 1 r.tap ++ bytesLE 1 r.exposures
    ++ bytesLE 2 r.width ++ bytesLE 2 r.height ++ bytesLE 2 r.chans ++ bytesLE 4 r.pitch ++ bytesLE 4 r.lines
    ++ bytesLE 4 r.dropped ++ bytesLE 4 fl ++ bytesLE 8 0 ++ bytesLE 4 seq ++ bytesLE 8 0
  b ++ bytesLE 4 (crc32 b)

/-- A tap whose last line has been produced and whose writes have all been accepted: the header's fields and then, in one write
of 16 bytes, SEQ and HDR_CRC are given to the tap writer (R121). -/
def State.tapEnd (s : State) (q src t fr : Nat) : State :=
  match s.tapFind src t fr with
  | none => s
  | some r =>
    if !r.finished || s.front.tapQ.any (fun e => e.2.any (fun w => w.of src t fr)) then s
    else
      let c := (s.src src).chain
      let seq := (tget 0 s.front.tapSeq (8 * c + t) + 1) % 2 ^ 32
      let s1 := { s with front := { s.front with
        tapSeq := tput s.front.tapSeq (8 * c + t) seq
        taps := s.front.taps.filter (fun x => !(x.source == src && x.tap == t && x.frame == fr)) } }
      let h := tapHeader (s1.flight src fr) r seq
      let w : TapWrite := { id := 0, part := 1, source := src, tap := t, frame := fr, line := 0, addr := r.buf, toHost := r.toHost
                            data := h.take 0x30, left := 0, issued := 0, accepted := 0 }
      (s1.pushTap q w).pushTap q { w with part := 2, addr := r.buf + 0x30, data := h.drop 0x30 }

/-- A tap of a frame is over. -/
def State.tapOver (s : State) (src t fr : Nat) : State :=
  s.modFlight src fr (fun f => { f with tapsLeft := f.tapsLeft.filter (· != t), metAt := s.now })

/-- A write of a tap queue has been accepted: a line leaves its queue with its last byte; the final write of the header ends
the tap, and raises its vector. -/
def State.tapAccepted (s : State) (q id n : Nat) : State :=
  match (s.tapWrites q).find? (fun w => w.id == id) with
  | none => s
  | some w =>
    if w.accepted + n < w.data.length then s.modTap q id (fun w => { w with accepted := w.accepted + n })
    else
      let s1 := s.dropTap q (fun w => w.id == id)
      match w.part with
      | 0 => s1.tapEnd q w.source w.tap w.frame
      | 1 => s1
      | _ => (s1.tapOver w.source w.tap w.frame).raiseVec (s1.tapDesc (s1.src w.source).chain w.tap).msix

/-- What has not been issued of a tap write is dropped (R119, 12 R322): the rest of a line counts as a dropped line; a header is
dropped whole, and its tap ends without a vector (notes/assumptions/62.md). -/
def State.tapLost (s : State) (q : Nat) (w : TapWrite) : State :=
  if w.part ≠ 0 then (s.dropTap q (fun x => x.part != 0 && x.of w.source w.tap w.frame)).tapOver w.source w.tap w.frame
  else
    let s1 := if w.issued ≤ w.accepted then s.dropTap q (fun x => x.id == w.id)
      else s.modTap q w.id (fun x => { x with data := x.data.take w.issued, issued := w.issued })
    let s2 := s1.bumpFront 0
    let s3 := match s2.tapFind w.source w.tap w.frame with
      | some r => s2.putTap { r with lines := r.lines - 1, dropped := r.dropped + 1 }
      | none => s2
    s3.tapEnd q w.source w.tap w.frame

/-- A page fault of a tap writer. -/
def State.tapFault (s : State) (q : Nat) (w : TapWrite) : State :=
  (s.tapLost q w).pageFault { requester := if q < 2 then 144 else q - 2, slot := 0, epoch := 0, write := true, kind := 2
                              addr := (w.addr + w.issued) / 256 * 256 }

/-- Bytes of a line in production, at an offset within the line. A line enters the queue, whole, when its first byte is
produced and it fits; otherwise it is dropped and counted. The line is complete when all its bytes have come. -/
def State.tapBytes (s : State) (q src t fr : Nat) (sh : TapShape) (line len off : Nat) (bs : List Byte) : State :=
  if !s.tapOn src t fr || len = 0 then s
  else
    let r := s.tapRun src t fr sh
    let known := r.openLines.any (fun e => e.1 == line)
    let fits := decide (s.tapUsed q + len ≤ tapCap q)
    let s1 := if known then s
      else if fits then
        s.pushTap q { id := 0, part := 0, source := src, tap := t, frame := fr, line, addr := r.buf + 0x100 + line * r.pitch
                      toHost := r.toHost, data := List.replicate len 0, left := len, issued := 0, accepted := 0 }
      else s.bumpFront 0
    let mine (w : TapWrite) : Bool := w.part == 0 && w.of src t fr && w.line == line && w.left != 0
    let held := (s1.tapWrites q).any mine
    let s2 := s1.putTapWrites q ((s1.tapWrites q).map (fun w =>
      if mine w then { w with data := w.data.take off ++ bs ++ w.data.drop (off + bs.length), left := w.left - bs.length } else w))
    let left := (match r.openLines.find? (fun e => e.1 == line) with
      | some e => e.2
      | none => len) - bs.length
    let others := r.openLines.filter (fun e => e.1 != line)
    let r1 := if left = 0 then
        { r with openLines := others, produced := r.produced + 1, finished := decide (r.total ≤ r.produced + 1)
                 lines := r.lines + b2n held, dropped := r.dropped + b2n (!held) }
      else { r with openLines := others ++ [(line, left)] }
    (s2.putTap r1).tapEnd q src t fr

/-- A whole line. -/
def State.tapLine (s : State) (q src t fr : Nat) (sh : TapShape) (line : Nat) (bs : List Byte) : State :=
  s.tapBytes q src t fr sh line bs.length 0 bs

end Sys2Proof.Machine
end

