-- ==== Sys2Proof/Machine/Front.lean ====
section
/-! DEFINITION. The two front-stage instances (spec/04_front_stage_and_taps.md R103 to R116): the sample path of a line, the
shared instance with its stripes, and the in-line instance with its segments. -/

namespace Sys2Proof.Machine

/-! ## Unpacking (R108, 03 Table 3.2) -/

/-- Bits of a code, and samples per pixel. -/
def dtBits (dt : Nat) : Nat :=
  match dt with
  | 0x2B => 10 | 0x2C => 12 | 0x2D => 14 | 0x2E => 16 | 0x2F => 20 | _ => 8
def dtSamples (dt : Nat) : Nat :=
  match dt with
  | 0x1E => 2 | 0x24 => 3 | _ => 1

/-- The codes of one group, pixel by pixel; Y before U or V, and R, G, B. RAW20 is R108's; the others are the CSI-2 packings
(notes/assumptions/20.md). -/
def unpackGroup (dt : Nat) (g : List Byte) : List Nat :=
  let b (i : Nat) : Nat := leAt g i 1
  match dt with
  | 0x2B => (List.range 4).map (fun i => b i * 4 + nfld (b 4) (2 * i) 2)
  | 0x2C => [b 0 * 16 + b 2 % 16, b 1 * 16 + b 2 / 16]
  | 0x2D =>
    let low := b 4 + b 5 * 2 ^ 8 + b 6 * 2 ^ 16
    (List.range 4).map (fun i => b i * 64 + nfld low (6 * i) 6)
  | 0x2E => [b 0 * 256 + b 1]
  | 0x2F => [b 0 * 4096 + b 1 * 16 + b 4 % 16, b 2 * 4096 + b 3 * 16 + b 4 / 16]
  | 0x1E => [b 1, b 0, b 3, b 2]
  | 0x24 => [b 2, b 1, b 0]
  | _ => [b 0]

/-- The samples of a line: `width` pixels from its stored payload. -/
def unpackLine (dt width : Nat) (bs : List Byte) : List Nat :=
  match dtGroup dt with
  | none => []
  | some (g, n) => (List.range (width / g)).flatMap (fun i => unpackGroup dt (slice bs (i * n) n))

/-- The phase that selects a sample's black level. -/
def samplePhase (dt line col ch : Nat) : Nat :=
  match dt with
  | 0x24 => ch
  | 0x1E => if ch = 0 then 0 else 1 + col % 2
  | _ => 2 * (line % 2) + col % 2

/-! ## Tables (Table 4.6) -/

def State.linKnot (s : State) (i k : Nat) : Nat := fld (s.rget (0xC_8000 + 0x800 * i + 4 * k)) 0 25
def State.encKnot (s : State) (i k : Nat) : Int := sx 16 (fld (s.rget (0xD_8000 + 0x400 * i + 4 * (k / 2))) (16 * (k % 2)) 16)

/-! ## One line (R108 to R112) -/

/-- The set bound to a frame has been read (R125); its bytes. -/
def State.setKnown (s : State) (src fr : Nat) : Bool :=
  match s.flight src fr with
  | some f => f.set != []
  | none => true
def State.frameSet (s : State) (src fr : Nat) : List Byte :=
  match s.flight src fr with
  | some f => f.set
  | none => []

/-- The read of that set met an error (11 R297). -/
def State.setBad (s : State) (src fr : Nat) : Bool :=
  match s.flight src fr with
  | some f => f.setBad
  | none => false

/-- Linear values of a line of exposure x under a set. -/
def State.linLine (s : State) (src : Nat) (set : List Byte) (x : Nat) (bs : List Byte) : List Nat :=
  let e := s.src src
  let t := setWord set (0x40 + 4 * x) % 32
  (unpackLine e.dt e.width bs).map (fun c => linearise (s.linKnot t) (c * 2 ^ (20 - dtBits e.dt)))

/-- Merged values of a line from the linear values of every exposure; an exposure without values is zero (R114). -/
def State.mergeLine (s : State) (src : Nat) (set : List Byte) (line : Nat) (lins : List (List Nat)) : List Nat :=
  let e := s.src src
  let ns := dtSamples e.dt
  let par (x : Nat) : MergePar :=
    { gain := setWord set (0xA0 + 4 * x) % 2 ^ 24, knee := setWord set (0xB0 + 4 * x) % 2 ^ 24
      sat := setWord set (0xC0 + 4 * x) % 2 ^ 24, rcp := setWord set (0xD0 + 4 * x) }
  (List.range (e.width * ns)).map (fun i =>
    let p := samplePhase e.dt line (i / ns) (i % ns)
    mergeRun ((List.range lins.length).map (fun x =>
      (par x, (lins.getD x []).getD i 0 - setWord set (0x60 + 16 * x + 4 * p) % 2 ^ 24))))

/-- Bytes of an encoded sample: 2 in S12, 1 in S8 (ENC_FMT). -/
def encBytes (set : List Byte) : Nat := if nbit (setWord set 0x50) 8 then 1 else 2

/-- Encoded samples of a line. -/
def State.encodeLine (s : State) (set : List Byte) (vs : List Nat) : List Int :=
  let c := setWord set 0x50
  vs.map (encodeV (s.encKnot (c % 32)) (nbit c 8))

/-- Bytes of encoded samples. -/
def encPack (size : Nat) (xs : List Int) : List Byte := xs.flatMap (fun x => fmtEnc (size - 1) x)

/-- Taps T0, T1 and T2 of line l of a frame: its bytes and linear values by exposure, and its merged values (Table 4.2). -/
def State.frontTaps (s : State) (q src fr l : Nat) (raw : List (List Byte)) (lins : List (List Nat)) (merged : List Nat) : State :=
  let e := s.src src
  let w := e.width * dtSamples e.dt
  let sh : TapShape := { exposures := e.exposures, width := w, height := e.height, chans := 1, total := e.exposures * e.height }
  let words (vs : List Nat) : List Byte := vs.flatMap (fun v => bytesLE 4 v)
  let s1 := (List.range raw.length).foldl (fun s x =>
    (s.tapLine q src 0 fr sh (x * e.height + l) (raw.getD x [])).tapLine q src 1 fr sh (x * e.height + l) (words (lins.getD x []))) s
  s1.tapLine q src 2 fr { sh with exposures := 1, total := e.height } l (words merged)

/-! ## Publishing into the first link -/

/-- The tag of segment k of a stripe; the front stage sets no LATE of its own. -/
def State.frontTag (s : State) (lead fr j lines k : Nat) (last poisoned : Bool) : Tag :=
  { source := lead, fold := s.folded lead
    epoch := match s.flight lead fr with
      | some f => f.epoch
      | none => 0
    frame := fr, stripe := j, lines, last, poisoned, late := false, seg := k }

/-- Address of the slot that is published next. -/
def State.nextSlotAt (s : State) (l : Nat) : Nat :=
  let d := s.link l
  (if d.pool then poolAt d.owner else vaultAt d.owner) + d.base + (s.lnk l).published % max d.slots 1 * d.segBytes

/-- Take a credit, write one segment and publish it; a fenced link discards both (R258). -/
def State.putSegment (s : State) (l : Nat) (t : Tag) (pieces : List (Nat × List Byte)) : State :=
  if (s.lnk l).fenced then s
  else
    let a := s.nextSlotAt l
    (pieces.foldl (fun s p => s.wr (a + p.1) p.2) (s.takeWait l false 0 1)).publish l (some t)

/-- A segment can be published: a credit is there, or the link is fenced. -/
def State.segReady (s : State) (l : Nat) : Bool := s.canWait l false 0 1

/-! ## The shared instance (R106, R107, R115) -/

/-- MIPI_RX is clocked. -/
def State.frontRuns (s : State) : Bool := s.islandRuns 3 3

/-- Park the stripe in work when its stream has halted and a place is free (R107). -/
def State.parkBusy (s : State) : State :=
  match s.front.busy with
  | some f =>
    if (s.strm 144 f.slot).active && (s.strm 144 f.slot).halted && decide (s.front.parked.length < 4) then
      { s with front := { s.front with busy := none, parked := s.front.parked ++ [f] } }
    else s
  | none => s

/-- Put a stripe in work. -/
def State.putBusy (s : State) (f : Option FrontStripe) : State := { s with front := { s.front with busy := f } }

/-- Activate the stream of requester 144 that reads the lines of the stripe's present member (11 R284). What the slot saved at its
last halt stays (11 R309). -/
def State.openFrontStrm (s : State) (f : FrontStripe) : State :=
  let src := (s.group f.rel.source).getD f.member 0
  let e := s.src src
  match s.flight src f.rel.frame with
  | none => s
  | some g =>
    let old := s.strm 144 f.slot
    let epoch := (old.epoch + 1) % 256
    let total := e.lineBytes * e.exposures * f.rel.lines
    let x : Strm := { Strm.init with
      active := true, epoch, space := b2n e.plateHost, run := max 1 e.lineBytes
      base := e.lineAt g.plate 0 (f.rel.stripe * e.stripeLines), starts := [0, 0]
      strides := [((e.height * e.linePitch : Nat) : Int), ((e.linePitch : Nat) : Int)], counts := [e.exposures, f.rel.lines]
      qsize := max 1 total, total, deadline := f.rel.dl0, saved := old.saved, roff := old.roff
      stripe := some (s.frontTag f.rel.source f.rel.frame f.rel.stripe f.rel.lines 0 false false) }
    (s.putStrm 144 f.slot x.settle).putBusy (some { f with epoch })

/-- A slot of requester 144 that no stripe in the front stage holds. -/
def State.frontSlot (s : State) : Option Nat :=
  let held := (s.front.parked ++ s.front.resumed).map (fun f => f.slot)
  (List.range 5).find? (fun k => !(s.strm 144 k).active && !held.contains k)

/-- SHARED_STRIPE_START: a resumed stripe, else the first of the release queue. -/
def sharedStripeStart (s0 : State) : State :=
  let s := s0.parkBusy
  if !s.frontRuns || s.front.busy.isSome then s
  else
    match s.front.resumed with
    | f :: r => { s with front := { s.front with busy := some f, resumed := r } }
    | [] =>
      match s.eph.queue, s.frontSlot with
      | r :: q, some k =>
        let f : FrontStripe := { rel := r, slot := k, epoch := 0, published := 0, poisoned := false, member := 0, tapped := 0
                                 got := [] }
        let ms := s.group r.source
        let s1 := ({ s with eph := { s.eph with queue := q } }).unstall
        let s2 := { s1 with flights := s1.flights.map (fun (g : Flight) =>
          if ms.contains g.source && g.frame == r.frame then { g with taken := r.stripe + 1, metAt := s1.now } else g) }
        (s2.putBusy (some f)).openFrontStrm f
      | _, _ => s

/-- Bytes of a member's lines as its stream delivered them, zeros for what a cancel took away (11 R305). -/
def FrontStripe.bytes (f : FrontStripe) (m pos n : Nat) : List Byte :=
  (List.range n).map (fun i =>
    match f.got.find? (fun p => p.1.1 == m && decide (p.1.2 ≤ pos + i) && decide (pos + i < p.1.2 + p.2.length)) with
    | some p => p.2.getD (pos + i - p.1.2) 0
    | none => 0)

/-- Raw lines of exposure 0 on, of line y of a member. -/
def State.rawLines (s : State) (f : FrontStripe) (m y : Nat) : List (List Byte) :=
  let e := s.src ((s.group f.rel.source).getD m 0)
  (List.range e.exposures).map (fun x => f.bytes m ((y * e.exposures + x) * e.lineBytes) e.lineBytes)

/-- The activation that reads the stripe's present member goes on; a cancelled one supplies zeros for the rest. -/
def State.frontLive (s : State) (f : FrontStripe) : Bool :=
  let x := s.strm 144 f.slot
  x.active && x.epoch == f.epoch && !x.cancelling

/-- Taps of line y of the present member. -/
def State.sharedTap (s : State) (f : FrontStripe) (y : Nat) : State :=
  let src := (s.group f.rel.source).getD f.member 0
  let set := s.frameSet src f.rel.frame
  let line := f.rel.stripe * (s.src src).stripeLines + y
  let raw := s.rawLines f f.member y
  let lins := raw.zipIdx.map (fun p => s.linLine src set p.2 p.1)
  s.frontTaps 0 src f.rel.frame line raw lins (s.mergeLine src set line lins)

/-- Taps of the lines of the stripe in work that have come and are not yet tapped (R117). -/
def State.sharedTaps (s : State) : State :=
  match s.front.busy with
  | none => s
  | some f =>
    let ms := s.group f.rel.source
    let src := ms.getD f.member 0
    let e := s.src src
    let come := if s.frontLive f then (s.strm 144 f.slot).delivered / max 1 (e.lineBytes * e.exposures) else f.rel.lines
    let n := min come f.rel.lines
    if ms.length ≤ f.member || n ≤ f.tapped || !s.setKnown src f.rel.frame then s
    else ((List.range (n - f.tapped)).foldl (fun s i => s.sharedTap f (f.tapped + i)) s).putBusy (some { f with tapped := n })

/-- Bytes at a position of a slot of requester 144 reach the stripe that the slot serves. -/
def State.frontGot (s : State) (slot pos : Nat) (bs : List Byte) : State :=
  let put (f : FrontStripe) : FrontStripe := if f.slot = slot then { f with got := ((f.member, pos), bs) :: f.got } else f
  { s with front := { s.front with
    busy := s.front.busy.map put
    parked := s.front.parked.map put
    resumed := s.front.resumed.map put } }

/-- The stripe that a slot of requester 144 serves is poisoned (11 R297). -/
def State.frontPoison (s : State) (slot : Nat) : State :=
  let put (f : FrontStripe) : FrontStripe := if f.slot = slot then { f with poisoned := true } else f
  let s1 := { s with front := { s.front with
    busy := s.front.busy.map put
    parked := s.front.parked.map put
    resumed := s.front.resumed.map put } }
  match (s.strm 144 slot).stripe with
  | some t => s1.markTag t fPoisoned
  | none => s1

/-- When the present member has been read, keep its lines and go on with the next member. A cancelled activation keeps its slot
until it ends, so that the next member waits for that. -/
def State.frontAdvance (s0 : State) : State :=
  let s := s0.sharedTaps
  match s.front.busy with
  | none => s
  | some f =>
    let ms := s.group f.rel.source
    let x := s.strm 144 f.slot
    let lastM := f.member + 1 == ms.length
    let src := ms.getD f.member 0
    if ms.length ≤ f.member || (s.frontLive f && x.delivered != x.total) || f.tapped < f.rel.lines
        || (x.active && x.epoch == f.epoch && x.cancelling && !lastM) then s
    else
      let e := s.src src
      let data := f.bytes f.member 0 (e.lineBytes * e.exposures * f.rel.lines)
      let f1 := { f with member := f.member + 1, tapped := 0, got := ((f.member, 0), data) :: f.got.filter (fun p => p.1.1 != f.member) }
      let s1 := if s.frontLive f then (s.putStrm 144 f.slot { x with released := x.total }).endIfDone 144 f.slot else s
      let s2 := s1.putBusy (some f1)
      if f1.member < ms.length then s2.openFrontStrm f1 else s2

/-- Encoded bytes of line y of a stripe: the members from left to right, with the guard columns between them, whose values
are open. -/
def State.sharedLine (s : State) (f : FrontStripe) (y : Nat) : List Byte :=
  let ms := s.group f.rel.source
  let line := f.rel.stripe * (s.src f.rel.source).stripeLines + y
  (List.range ms.length).flatMap (fun m =>
    let src := ms.getD m 0
    let set := s.frameSet src f.rel.frame
    let lins := (s.rawLines f m y).zipIdx.map (fun p => s.linLine src set p.2 p.1)
    let size := encBytes set
    let px := dtSamples (s.src src).dt * size
    let guard := if m + 1 < ms.length then Config.foldGuard f.rel.source * px else 0
    encPack size (s.encodeLine set (s.mergeLine src set line lins))
      ++ (List.range guard).map (fun i => Config.freeByte (s.freeCount + (y * ms.length + m) * 2 ^ 16 + i)))

/-- A line of the stripe stands in the plate as zeros (14 R368). -/
def State.stripeZeroed (s : State) (src fr j : Nat) : Bool :=
  match s.flight src fr with
  | some f => f.zeroed.contains j
  | none => false

/-- Publish segments of a stripe from `f.published` on, as far as credits allow. -/
def State.sharedPublish (s : State) (l : Nat) (f : FrontStripe) (bs : List Byte) (k : Nat) : Nat → State × FrontStripe
  | 0 => (s, f)
  | n + 1 =>
    if k ≤ f.published || !s.segReady l then (s, f)
    else
      let seg := max 1 (s.link l).segBytes
      let t := s.frontTag f.rel.source f.rel.frame f.rel.stripe f.rel.lines f.published (f.published + 1 == k)
        (f.poisoned || (s.group f.rel.source).any (fun m => s.setBad m f.rel.frame || s.stripeZeroed m f.rel.frame f.rel.stripe))
      let s1 := s.putSegment l t [(0, (bs.drop (f.published * seg)).take seg)]
      s1.sharedPublish l { f with published := f.published + 1 } bs k n

/-- SHARED_STRIPE_DONE: a stripe whose lines have been read is encoded as consecutive lines, cut into segments and published;
with its last segment it is complete (notes/assumptions/25.md). -/
def sharedStripeDone (s0 : State) : State :=
  let s := s0.frontAdvance
  match s.front.busy with
  | none => s
  | some f =>
    let ms := s.group f.rel.source
    if !s.frontRuns || f.member < ms.length || !ms.all (fun m => s.setKnown m f.rel.frame) then s
    else
      let l := s.chainFirst (s.src f.rel.source).chain
      let bs := (List.range f.rel.lines).flatMap (s.sharedLine f)
      let k := max 1 (ceilDiv bs.length (max 1 (s.link l).segBytes))
      let s2 := s.useFree (f.rel.lines * ms.length * 2 ^ 16)
      let (s3, f1) := s2.sharedPublish l f bs k k
      let s4 := if k ≤ f1.published then (s3.bump64 0xC_0080 1).putBusy none else s3.putBusy (some f1)
      s4.wakeAll

/-! ## The in-line instance (R105, R113, R116) -/

/-- The in-line source. -/
def State.inlineSrc (s : State) : Option Nat := s.sources.find? (fun i => s.isInline i)

/-- Line l of exposure x is there, or is known to be missing (03 R83): it is not on its way back from the stagger region, and a
later line has come or the frame has closed. -/
def State.inlKnown (s : State) (src : Nat) (i : InlineS) (x l : Nat) : Bool :=
  i.lines.any (fun e => e.1 == (x, l)) || (!i.away.contains (x, l) && (i.closed ||
    match s.flight src i.frame with
    | some f => decide (l + 2 ≤ tget 0 f.arrived x)
    | none => true))

/-- Line l is known for every exposure. -/
def State.inlLine (s : State) (src : Nat) (i : InlineS) (l : Nat) : Bool :=
  (List.range (s.src src).exposures).all (fun x => s.inlKnown src i x l)

/-- A line of the in-line source in the sample path: raw bytes and linear values of every exposure, merged values. A missing
line has no linear values, so that it merges as zeros (R114). -/
def State.inlWork (s : State) (src : Nat) (i : InlineS) (line : Nat) : List (Option (List Byte)) × List (List Nat) × List Nat :=
  let set := s.frameSet src i.frame
  let raw := (List.range (s.src src).exposures).map (fun x => (i.lines.find? (fun e => e.1 == (x, line))).map (·.2))
  let lins := raw.zipIdx.map (fun p => match p.1 with
    | some bs => s.linLine src set p.2 bs
    | none => [])
  (raw, lins, s.mergeLine src set line lins)

/-- Taps of a line of the in-line source: zeros for a missing one. -/
def State.inlTap (s : State) (src : Nat) (i : InlineS) (line : Nat) : State :=
  let e := s.src src
  let w := s.inlWork src i line
  s.frontTaps 1 src i.frame line (w.1.map (fun r => r.getD (List.replicate e.lineBytes 0)))
    (w.2.1.map (fun l => if l = [] then List.replicate (e.width * dtSamples e.dt) 0 else l)) w.2.2

/-- Taps of the lines of the in-line source that are there and not yet tapped. -/
def State.inlTaps (s : State) : State :=
  match s.inlineSrc, s.front.inl with
  | some src, i :: _ =>
    let todo := (List.range ((s.src src).height - i.tapped)).map (· + i.tapped)
    let due := if s.setKnown src i.frame then todo.takeWhile (fun l => s.inlLine src i l) else []
    (due.foldl (fun s l => s.inlTap src i l) s).modInl i.frame (fun i => { i with tapped := i.tapped + due.length })
  | _, _ => s

/-- Every tap line that is due is produced (R117): when the line's data and its parameter set are there. -/
def State.produceTaps (s : State) : State := s.sharedTaps.inlTaps

/-- INLINE_SEGMENT_OFFER: the next segment of the in-line source, once its lines have come and a credit is there. A segment
holds its pixel columns one after the other, S lines each, so that a tensor of SPACE 2 can address it (notes/assumptions/26.md). -/
def inlineSegmentOffer (s0 : State) : State :=
  let s := s0.inlTaps
  match s.inlineSrc, s.front.inl with
  | some src, i :: rest =>
    let e := s.src src
    let l := s.chainFirst e.chain
    let j := i.stripe
    let y0 := j * e.stripeLines
    let h := e.stripeHeight j
    if !s.frontRuns || !(List.range h).all (fun y => s.inlLine src i (y0 + y)) || !s.setKnown src i.frame || !s.segReady l then s
    else
      let set := s.frameSet src i.frame
      let ns := dtSamples e.dt
      let size := encBytes set
      let enc := (List.range h).map (fun y => s.encodeLine set (s.inlWork src i (y0 + y)).2.2)
      let n := ceilDiv e.width i.segW
      let c0 := i.seg * i.segW
      let cols := min i.segW (e.width - c0)
      let pieces := (List.range cols).map (fun c =>
        (c * e.stripeLines * ns * size, enc.flatMap (fun xs => encPack size ((xs.drop ((c0 + c) * ns)).take ns))))
      let lastSeg := i.seg + 1 == n
      let bad := s.setBad src i.frame || i.bad.any (fun y => decide (y0 ≤ y) && decide (y < y0 + h))
      let s1 := (s.putSegment l (s.frontTag src i.frame j h i.seg lastSeg bad) pieces).bump64 0xC_0088 1
      let s2 := if lastSeg then s1.modFlight src i.frame (fun f => { f with taken := j + 1, metAt := s.now }) else s1
      let i1 := if lastSeg then
          { i with stripe := j + 1, seg := 0, lines := i.lines.filter (fun q => decide (y0 + h ≤ q.1.2)) }
        else { i with seg := i.seg + 1 }
      let inl := if e.stripes ≤ i1.stripe then rest else i1 :: rest
      (({ s2 with front := { s2.front with inl } }).inlDrain e.port src).wakeAll
  | _, _ => s

/-- FE_STATUS (Table 4.7). -/
def State.feStatus (s : State) : Word :=
  wd (b2n (!s.front.inl.isEmpty) + 2 * s.front.parked.length + 16 * b2n s.front.busy.isSome)

/-- SHARED_STRIPE_START (04 R106). -/
def execSharedStripeStart (t : Nat) (s : State) : Host.Outcome State Fault Refusal := .next (sharedStripeStart (s.advance t))
/-- SHARED_STRIPE_DONE (04 R106). -/
def execSharedStripeDone (t : Nat) (s : State) : Host.Outcome State Fault Refusal := .next (sharedStripeDone (s.advance t))
/-- INLINE_SEGMENT_OFFER (04 R116). -/
def execInlineSegmentOffer (t : Nat) (s : State) : Host.Outcome State Fault Refusal :=
  .next (inlineSegmentOffer (s.advance t))

end Sys2Proof.Machine
end

