-- ==== Sys2Proof/Machine/Transmit.lean ====
section
/-! DEFINITION. Transmit ports (spec/09_drain_chains_finish_and_transmit.md R240 to R248): the line queue, slots, fill, packing,
packets and what a port reports. -/

namespace Sys2Proof.Machine

/-! ## TXS entries (Table 9.9) -/

def txsWord (port k w : Nat) : Nat := 0xE_0200 + 0x1000 * port + 0x20 * k + 4 * w

structure Txs where
  source : Nat
  vc : Nat
  dt : Nat
  embPos : Nat
  en : Bool
  outW : Nat
  outH : Nat
  lineNs : Nat
  delayNs : Nat
  fill : List Nat

def State.txs (s : State) (port k : Nat) : Txs :=
  let w (i : Nat) : Word := s.rget (txsWord port k i)
  { source := fld (w 0) 0 12, vc := fld (w 0) 12 4, dt := fld (w 0) 16 6, embPos := fld (w 0) 22 2, en := bit (w 0) 24
    outW := fld (w 1) 0 16, outH := fld (w 1) 16 16, lineNs := (w 2).toNat, delayNs := (w 3).toNat
    fill := [fld (w 4) 0 16, fld (w 4) 16 16, fld (w 5) 0 16] }

/-- Bits of a packed sample, and channels used (Table 9.6). -/
def txBits (dt : Nat) : Nat :=
  match dt with
  | 0x2B | 0x1F => 10 | 0x2C => 12 | 0x2D => 14 | 0x2E => 16 | _ => 8
def txChans (dt : Nat) : Nat := if dt = 0x24 || dt = 0x1E || dt = 0x1F then 3 else 1

/-- t(s) of slot s, counted from slot −1 as i = s + 1 (R242); a slot before T_SOF is due at once. -/
def Txs.slotAt (x : Txs) (sof i : Nat) : Nat := sof + x.delayNs + i * x.lineNs - x.lineNs

def State.txStrm (s : State) (port k : Nat) : TxStream := tget TxStream.init (s.port port).strms k
def State.putTxStrm (s : State) (port k : Nat) (x : TxStream) : State :=
  let p := s.port port
  s.putPort port { p with strms := tput p.strms k x }

/-- The frame is the one the stream is sending. -/
def TxStream.sends (x : TxStream) (fr : Nat) : Bool :=
  match x.cur with
  | some (f, _, _) => f == fr
  | none => false

/-- The slot of a line of the frame being sent has gone by. -/
def TxStream.past (x : TxStream) (fr line : Nat) : Bool :=
  match x.cur with
  | some (f, _, i) => f == fr && decide (line + 1 < i)
  | none => false

/-- The port has its PHY on, and MIPI_TX is clocked. -/
def State.txRuns (s : State) (port : Nat) : Bool :=
  let phy := fld (s.rget (0xE_0000 + 0x1000 * port)) 0 2
  s.live && decide (port < 4) && (phy == 1 || phy == 2) && s.islandRuns 4 4 && !(s.port port).stopped

/-! ## Packing (R241) -/

/-- Saturate to 0 to 2^b − 1. -/
def txSat (b : Nat) (x : Int) : Nat := (clampI 0 (((2 ^ b : Nat) : Int) - 1) x).toNat

/-- Groups of `n` elements. -/
def groupsOf {α : Type} (n : Nat) (xs : List α) : List (List α) :=
  (List.range (xs.length / max n 1)).map (fun i => (xs.drop (i * max n 1)).take (max n 1))

/-- Four 10-bit codes in five bytes: the high bytes, then the low bits (notes/assumptions/20.md). -/
def pack10 (g : List Nat) : List Byte :=
  let v (i : Nat) : Nat := g.getD i 0
  ((List.range 4).map (fun i => BitVec.ofNat 8 (v i / 4)))
    ++ bytesLE 1 (v 0 % 4 + v 1 % 4 * 4 + v 2 % 4 * 16 + v 3 % 4 * 64)

/-- Codes of the single-channel types. -/
def packRaw (dt : Nat) (xs : List Nat) : List Byte :=
  match dt with
  | 0x2B => (groupsOf 4 xs).flatMap pack10
  | 0x2C => (groupsOf 2 xs).flatMap (fun g =>
      let v (i : Nat) : Nat := g.getD i 0
      [BitVec.ofNat 8 (v 0 / 16), BitVec.ofNat 8 (v 1 / 16), BitVec.ofNat 8 (v 0 % 16 + v 1 % 16 * 16)])
  | 0x2D => (groupsOf 4 xs).flatMap (fun g =>
      let v (i : Nat) : Nat := g.getD i 0
      (List.range 4).map (fun i => BitVec.ofNat 8 (v i / 64))
        ++ bytesLE 3 (v 0 % 64 + v 1 % 64 * 2 ^ 6 + v 2 % 64 * 2 ^ 12 + v 3 % 64 * 2 ^ 18))
  | 0x2E => xs.flatMap (fun v => [BitVec.ofNat 8 (v / 256), BitVec.ofNat 8 v])
  | _ => xs.map (BitVec.ofNat 8)

/-- U0 Y0 V0 Y1 of pixel pairs; U and V are rhe of the pair's mean. -/
def yuvCodes (px : List (List Nat)) : List Nat :=
  (groupsOf 2 px).flatMap (fun g =>
    let p (i c : Nat) : Nat := (g.getD i []).getD c 0
    let mean (c : Nat) : Nat := (rheDiv ((p 0 c + p 1 c : Nat) : Int) 2).toNat
    [mean 1, p 0 0, mean 2, p 1 0])

/-- The payload of a line of saturated pixels (Table 9.6). -/
def txPack (dt : Nat) (px : List (List Nat)) : List Byte :=
  if dt = 0x24 then px.flatMap (fun p => [BitVec.ofNat 8 (p.getD 2 0), BitVec.ofNat 8 (p.getD 1 0), BitVec.ofNat 8 (p.getD 0 0)])
  else if dt = 0x1E then (yuvCodes px).map (BitVec.ofNat 8)
  else if dt = 0x1F then (groupsOf 4 (yuvCodes px)).flatMap pack10
  else packRaw dt (px.map (fun p => p.getD 0 0))

/-! ## Packets (R242, R245) -/

/-- What a packet carries as it starts: virtual channel, data type and payload; a Frame Start and a Frame End carry f mod
65,536. -/
def State.txPayload (s : State) (port : Nat) (p : TxPkt) : Nat × Nat × List Byte :=
  let x := s.txs port p.strm
  match p.kind with
  | .frameStart => (x.vc, 0, bytesLE 2 p.frame)
  | .frameEnd => (x.vc, 1, bytesLE 2 p.frame)
  | .embedded => (x.vc, 0x12, match s.flight x.source p.frame with
      | some f => s.recBytes f
      | none => List.replicate 64 0)
  | .line d => (x.vc, x.dt, d)

/-- The parity of a number. -/
def parityOf (n : Nat) : Nat := ((List.range 24).filter (fun i => nbit n i)).length % 2

/-- The header ECC of D-PHY over data identifier and word count, and the CRC of a payload, as CSI-2 has them: six parities of 24
bits; x^16 + x^12 + x^5 + 1 from 0xFFFF, least significant bit first (notes/assumptions/20.md). -/
def csiEcc (header : Nat) : Nat :=
  [0xF12CB7, 0xF2555B, 0x749A6D, 0xB8E38E, 0xDF03F0, 0xEFFC00].zipIdx.foldl (fun a p => a + parityOf (header &&& p.1) * 2 ^ p.2) 0
def csiCrc (bs : List Byte) : Nat :=
  bs.foldl (fun c b => (List.range 8).foldl (fun c _ => if c % 2 = 1 then c / 2 ^^^ 0x8408 else c / 2) (c ^^^ b.toNat)) 0xFFFF

/-- TX_CFG of a port, and its rate in Mbps or Msym/s (Table 9.8). -/
def State.txCfg (s : State) (port : Nat) : Word := s.rget (0xE_0000 + 0x1000 * port)
def State.txRate (s : State) (port : Nat) : Nat := 25 * fld (s.txCfg port) 8 8 - 5 * fld (s.txCfg port) 19 3

/-- A packet goes out; a Frame Start after the periodic deskew of its frame. Short packets have types below 0x10. -/
def State.txOut (s : State) (port vc dt : Nat) (bs : List Byte) : State :=
  let cfg := s.txCfg port
  let wc := if dt < 0x10 then ofBytesLE bs else bs.length
  let ecc := if fld cfg 0 2 = 1 then some (csiEcc (vc % 4 * 64 + dt + wc % 65536 * 256)) else none
  let s1 := if dt = 0 && bit cfg 18 then s.out (.txDeskew port true) else s
  s1.out (.txPacket port vc dt bs ecc (if dt < 0x10 then none else some (csiCrc bs)) (bit cfg 16))

/-- Start the next waiting packet of a port that sends nothing. -/
def State.txNext (s : State) (port : Nat) : State :=
  let p := s.port port
  match p.sending, p.waiting with
  | none, k :: r =>
    let (vc, dt, bs) := s.txPayload port k
    (s.putPort port { p with sending := some k, waiting := r }).txOut port vc dt bs
  | _, _ => s

/-- Packets take their places behind those that wait. -/
def State.txSend (s : State) (port : Nat) (ks : List TxPkt) : State :=
  let p := s.port port
  (s.putPort port { p with waiting := p.waiting ++ ks }).txNext port

/-! ## The line queue (R243) -/

/-- The first column and the columns that a source has in a row of an activation's output; the whole row without a fold. -/
def memberCols (src row : Nat) : List (Nat × Nat) → Nat → Nat × Nat
  | [], _ => (0, row)
  | (m, w) :: r, c => if m = src then (c, w) else if r = [] then (0, row) else memberCols src row r (c + w)

/-- Bytes of a pixel of an activation's output. -/
def Strm.pixBytes (x : Strm) : Nat := max 1 (fmtSize x.fmt) * max 1 x.chans

/-- Width of a segment of the in-line source's output: R116's, in proportion to the output's width. -/
def State.txSegW (s : State) (x : Txs) : Nat :=
  if s.isInline x.source then
    max 1 ((if s.boot.profile = 1 then 32 else 64) * x.outW / max 1 (s.src x.source).width)
  else max 1 x.outW

/-- Rows of a run of bytes: (row, byte in the row, bytes). -/
def rowCut (w : Nat) : Nat → Nat → List Byte → List (Nat × Nat × List Byte)
  | 0, _, _ => []
  | fuel + 1, o, bs =>
    if bs = [] then []
    else
      let k := w - o % w
      (o / w, o % w, bs.take k) :: rowCut w fuel (o + k) (bs.drop k)

/-- Where `bs` of an activation, after `pos` bytes of it, lie in the lines of a stream: (line, byte in the line, bytes). -/
def State.txPlace (s : State) (x : Strm) (t : Txs) (g : Tag) (taken pos : Nat) (bs : List Byte) : List (Nat × Nat × List Byte) :=
  let px := x.pixBytes
  let e := s.src t.source
  let line0 := g.stripe * e.stripeLines * t.outH / max 1 e.height
  if s.isInline t.source then
    let row := max 1 (x.w * px)
    let rows := max 1 (x.total / row)
    (rowCut row bs.length pos bs).map (fun p => (line0 + p.1, (taken - pos) / rows + p.2.1, p.2.2))
  else
    let all := if x.members = [] then t.outW else x.members.foldl (fun a m => a + m.2) 0
    let row := max 1 (all * px)
    let (c0, cw) := memberCols t.source all x.members 0
    (rowCut row bs.length taken bs).filterMap (fun p =>
      let lo := max p.2.1 (c0 * px)
      let hi := min (p.2.1 + p.2.2.length) ((c0 + cw) * px)
      if lo < hi then some (line0 + p.1, lo - c0 * px, (p.2.2.drop (lo - p.2.1)).take (hi - lo)) else none)

/-- The streams of a port that carry one of the sources of a tag. -/
def State.txOn (s : State) (port : Nat) (g : Tag) : List Nat :=
  (List.range 16).filter (fun k => (s.txs port k).en && (s.tagSources g).contains (s.txs port k).source)

/-- One piece reaches a stream's queue: kept if its line's slot has still to come, otherwise discarded; its segment counts in
LATE_SEGMENTS when its last byte comes late (R243). -/
def State.txPiece (s : State) (port k : Nat) (x : Strm) (g : Tag) (p : Nat × Nat × List Byte) : State :=
  let t := s.txs port k
  match s.flight t.source g.frame with
  | none => s
  | some f =>
    let (line, off, bs) := p
    let size := s.txSegW t * x.pixBytes
    let rowEnd := t.outW * x.pixBytes
    if t.outH ≤ line || rowEnd ≤ off then s
    else if t.slotAt f.startAt (line + 1) < s.now || (s.txStrm port k).past g.frame line then
      let ends := decide (off / size < (off + bs.length) / size) || decide (rowEnd ≤ off + bs.length)
      if ends then s.bumpTx port 3 else s
    else if !f.endsLeft.contains (16 * port + k) then s
    else
      let q := s.port port
      let bytes := q.bytes + bs.length
      s.putPort port { q with queue := q.queue ++ [{ strm := k, frame := g.frame, line, off, data := bs, fmt := x.fmt, chans := x.chans }]
                              bytes, peak := max q.peak bytes }

/-- Output of an activation, `bs` after `pos` accepted bytes, is taken by the line queue of its port. -/
def State.txTake (s : State) (x : Strm) (pos : Nat) (bs : List Byte) : State :=
  match x.stripe with
  | none => s
  | some g =>
    (s.txOn x.unit g).foldl (fun s k =>
      let y := s.txStrm x.unit k
      let key := (g.frame, g.stripe)
      let taken := match y.taken.find? (fun e => e.1 == key) with
        | some e => e.2
        | none => 0
      let s1 := (s.txPlace x (s.txs x.unit k) g taken pos bs).foldl (fun s p => s.txPiece x.unit k x g p) s
      s1.putTxStrm x.unit k { s1.txStrm x.unit k with
        taken := (key, taken + bs.length) :: y.taken.filter (fun e => e.1 != key) }) s

/-- Bytes that a write of an activation may add to the line queue: its length for every stream that takes it. -/
def State.txNeed (s : State) (x : Strm) (len : Nat) : Nat :=
  match x.stripe with
  | some g => len * (s.txOn x.unit g).length
  | none => 0

/-- Bytes on their way to the line queue of a port. -/
def State.txComing (s : State) (port : Nat) : Nat :=
  s.mems.reqs.foldl (fun a q =>
    if q.path = 5 && q.addr / 2 ^ 18 = port then
      a + match q.client with
        | .strm r k => s.txNeed (s.strm r k) q.len
        | _ => 0
    else a) 0

/-- The line queue has room for a write beside what it holds and what is on its way (R243). -/
def State.txRoom (s : State) (x : Strm) (len : Nat) : Bool :=
  decide ((s.port x.unit).bytes + s.txComing x.unit + s.txNeed x len ≤ 0x4_0000)

/-! ## Slots (R242 to R244) -/

/-- The bytes queued of a line of a stream's frame. -/
def State.txLineSegs (s : State) (port k fr line : Nat) : List TxSeg :=
  (s.port port).queue.filter (fun q => q.strm == k && q.frame == fr && q.line == line)

/-- Byte i of a line, from the pieces that cover it. -/
def txByteAt (segs : List TxSeg) (i : Nat) : Byte :=
  match segs.find? (fun q => decide (q.off ≤ i) && decide (i < q.off + q.data.length)) with
  | some q => q.data.getD (i - q.off) 0
  | none => 0

/-- Bytes of [lo, hi) that the pieces hold; the pieces of a line never overlap. -/
def txHeld (segs : List TxSeg) (lo hi : Nat) : Nat :=
  segs.foldl (fun a q => a + (min hi (q.off + q.data.length) - max lo q.off)) 0

/-- The samples of a line, the segments filled, and the number of free values used: a channel that the output does not have
is a free value. -/
def State.txLine (s : State) (port k fr line : Nat) : List (List Int) × Nat :=
  let t := s.txs port k
  let segs := s.txLineSegs port k fr line
  let (fmt, chans) := match segs with
    | q :: _ => (q.fmt, max 1 q.chans)
    | [] => (0, 1)
  let size := max 1 (fmtSize fmt)
  let w := s.txSegW t
  let n := ceilDiv t.outW w
  let full (j : Nat) : Bool := txHeld segs (j * w * size * chans) (min t.outW ((j + 1) * w) * size * chans)
    == (min t.outW ((j + 1) * w) - j * w) * size * chans
  let ok := (List.range n).map full
  let px := (List.range t.outW).map (fun c =>
    (List.range (txChans t.dt)).map (fun ch =>
      if ok.getD (c / w) false then
        if ch < chans then
          fmtDec fmt (ofBytesLE ((List.range size).map (fun b => txByteAt segs ((c * chans + ch) * size + b))))
        else ((Config.freeNat (s.freeCount + ch) % 2 ^ txBits t.dt : Nat) : Int)
      else ((t.fill.getD ch 0 : Nat) : Int)))
  (px, (ok.filter (fun b => !b)).length)

/-- Slot l of the frame being sent: the line is taken from the queue, filled where it is not complete, and packed. -/
def State.txLineSlot (s : State) (port k fr l : Nat) : State :=
  let t := s.txs port k
  let (px, fills) := s.txLine port k fr l
  let b := txBits t.dt
  let vals := px.map (fun p => p.map (txSat b))
  let changed := px.foldl (fun a p => a + (p.filter (fun v => decide (((txSat b v : Nat) : Int) ≠ v))).length) 0
  let q := s.port port
  let gone := (s.txLineSegs port k fr l).foldl (fun a g => a + g.data.length) 0
  let s1 := s.putPort port { q with queue := q.queue.filter (fun g => !(g.strm == k && g.frame == fr && g.line == l))
                                    bytes := q.bytes - gone }
  let s2 := State.bumpN (fun s => s.bumpTx port 2) fills s1
  let s3 := if fills = 0 then s2 else (s2.bumpTx port 1).markFrame t.source fr fDeadline
  let s4 := State.bumpN (fun s => s.bumpTx port 4) changed s3
  let y := s4.txStrm port k
  ((s4.putTxStrm port k { y with fills := y.fills + fills }).useFree 3).txSend port
    [{ strm := k, frame := fr, kind := .line (txPack t.dt vals) }]

/-- The Frame End of a frame will not be, or has been, sent on a stream. -/
def State.endLeft (s : State) (port k src fr : Nat) : State :=
  s.modFlight src fr (fun f => { f with endsLeft := f.endsLeft.filter (· != 16 * port + k), metAt := s.now })

/-- The next frame of a stream whose slot −1 has still to come. -/
def State.txWaits (s : State) (port k : Nat) : Option Flight :=
  s.flights.find? (fun f => f.source == (s.txs port k).source && f.endsLeft.contains (16 * port + k)
    && !(s.txStrm port k).sends f.frame)

/-- What the queue holds of a frame of a stream leaves it. -/
def State.txDrop (s : State) (port k fr : Nat) : State :=
  let p := s.port port
  let mine (q : TxSeg) : Bool := q.strm == k && q.frame == fr
  s.putPort port { p with queue := p.queue.filter (fun q => !mine q)
                          bytes := p.bytes - (p.queue.filter mine).foldl (fun a q => a + q.data.length) 0 }

/-- Slot −1 of a frame: skipped while the stream still sends an earlier one, else its Frame Start is sent. -/
def State.txStart (s : State) (port k : Nat) (f : Flight) : State :=
  let y := s.txStrm port k
  if y.cur.isSome then ((s.txDrop port k f.frame).bumpTx port 5).endLeft port k f.source f.frame
  else
    let pk : TxPkt := { strm := k, frame := f.frame, kind := .frameStart }
    let emb := if (s.txs port k).embPos = 2 then [{ pk with kind := .embedded }] else []
    (s.putTxStrm port k { y with cur := some (f.frame, f.startAt, 1), fills := 0 }).txSend port (pk :: emb)

/-- Slot i − 1 of the frame being sent: a line, or after the last line the embedded line and the Frame End. -/
def State.txAdvance (s : State) (port k fr sof i : Nat) : State :=
  let t := s.txs port k
  let s1 := s.putTxStrm port k { s.txStrm port k with cur := some (fr, sof, i + 1) }
  if i ≤ t.outH then s1.txLineSlot port k fr (i - 1)
  else
    let emb : List TxPkt := if t.embPos = 1 || t.embPos = 2 then [{ strm := k, frame := fr, kind := .embedded }] else []
    s1.txSend port (emb ++ [{ strm := k, frame := fr, kind := .frameEnd }])

/-- TX_SLOT: the earliest slot of a stream that is due. -/
def txSlot (port k : Nat) (s : State) : State :=
  let t := s.txs port k
  if !(s.txRuns port && t.en && decide (k < 16) && s.past14) then s
  else
    let a := match (s.txStrm port k).cur with
      | some (fr, sof, i) => if i ≤ t.outH + 1 && t.slotAt sof i ≤ s.now then some (fr, sof, i) else none
      | none => none
    let b := match s.txWaits port k with
      | some f => if t.slotAt f.startAt 0 ≤ s.now then some f else none
      | none => none
    match a, b with
    | some (fr, sof, i), some f =>
      if t.slotAt sof i ≤ t.slotAt f.startAt 0 then s.txAdvance port k fr sof i else s.txStart port k f
    | some (fr, sof, i), none => s.txAdvance port k fr sof i
    | none, some f => s.txStart port k f
    | none, none => s

/-- A Frame End has been sent (R242, R244). -/
def State.txEnd (s : State) (port k fr : Nat) : State :=
  let src := (s.txs port k).source
  let y := s.txStrm port k
  let s1 := ((s.putTxStrm port k { y with cur := none, fills := 0, taken := y.taken.filter (fun e => e.1.1 != fr) }).bumpTx port 0).endLeft
    port k src fr
  if y.fills = 0 then s1
  else s1.raise { cls := 0x60, action := 2, unit := 0x3000 + port, detail := src + min y.fills m32 * 2 ^ 32, frame := some (src, fr) }

/-- TX_PACKET_SENT: the packet being sent has ended; the next that waits starts. -/
def txPacketSent (port : Nat) (s : State) : State :=
  let p := s.port port
  match p.sending with
  | none => s
  | some k =>
    let s1 := s.putPort port { p with sending := none }
    let s2 := match k.kind with
      | .line d => s1.bump64 (0xE_0180 + 0x1000 * port) d.length
      | .embedded => s1.bump64 (0xE_0180 + 0x1000 * port) 64
      | .frameEnd => if (s1.txStrm port k.strm).sends k.frame then s1.txEnd port k.strm k.frame else s1
      | .frameStart => s1
    s2.txNext port

/-- A port ends after its current line without sending the Frame End (R244, 02 R63, 16 R420). -/
def State.txStop (s : State) (port : Nat) : State :=
  let p := s.port port
  s.putPort port { p with queue := [], bytes := 0, waiting := [], strms := [], stopped := true }

/-- From step 14 the lanes of every port whose PHY is not 0 idle in LP-11, with the initial deskew of D-PHY above 1.5 Gbps, and it
sends again (R240, R246, 02 R482). -/
def State.txArm (s : State) : State :=
  (List.range 4).foldl (fun s n =>
    let phy := fld (s.txCfg n) 0 2
    let s1 := s.putPort n { s.port n with stopped := false, lanesOn := phy != 0 }
    if phy = 0 then s1
    else
      let s2 := s1.out (.txLanes n (bit (s.txCfg n) 17))
      if phy = 1 && decide (1500 < s.txRate n) then s2.out (.txDeskew n false) else s2) s

/-- TX_STATUS (Table 9.7). -/
def State.txStatus (s : State) (port : Nat) : Word :=
  let p := s.port port
  wd (b2n p.sending.isSome + 2 * b2n (p.strms.any (fun e => e.2.cur.isSome))
    + 4 * (match p.sending with
      | some k => k.strm % 16
      | none => 0))

/-- TX_SLOT (09 R242). -/
def execTxSlot (t port strm : Nat) (s : State) : Host.Outcome State Fault Refusal := .next (txSlot port strm (s.advance t))
/-- TX_PACKET_SENT (09 R242). -/
def execTxPacketSent (t port : Nat) (s : State) : Host.Outcome State Fault Refusal := .next (txPacketSent port (s.advance t))

end Sys2Proof.Machine
end

