-- ==== Sys2Proof/Machine/Arbitrate.lean ====
section
/-! DEFINITION. Arbitration, regulators, tags and completions (spec/11_streams_vaults_and_hbm.md R285 to R301): which request is
issued at a point, and what its completion or acceptance does for the stream, writer, DMA channel or other unit. -/

namespace Sys2Proof.Machine

/-! ## Requests that could issue -/

/-- A request with its key and charge (R288, R289, Table 11.4). -/
structure Cand where
  req : Req
  cls : Nat
  dry : Nat
  requester : Nat
  slot : Nat
  charge : Nat

/-- The request of a client on a path; device addresses on paths 0, 1, 3 and 4, PCIe addresses on 2, and on 5 the line queue of
port a / 2^18. -/
def mkReq (s : State) (cl : Client) (epoch pos : Nat) (write : Bool) (path a n reg : Nat) (noSnoop relaxed : Bool)
    (entry : Option Bool) : Req :=
  let t := if path ≤ 1 then hbmTags a n write else (b2n (path == 2 && !write), 0)
  { id := s.mems.nextId, client := cl, epoch, pos, write, path, addr := a, len := n, data := [], reg, readTags := t.1
    writeTags := t.2, noSnoop, relaxed, entry, since := s.now }

/-- The point of arbitration of a request: 0 and 1 the stacks, 2 the host link, 16 + 16d + b bank b of pool d, 100 + n vault port
n, 300 + p the line queue of port p. -/
def Req.point (q : Req) : Nat :=
  if q.path = 2 then 2 else if q.path = 5 then 300 + q.addr / 2 ^ 18 else (devPoint q.addr).2

/-- The regulator and the class of a stream (Tables 11.5, 11.6). -/
def State.strmReg (s : State) (r : Nat) : Nat := if r = 144 then 65 else (s.corePart r).getD 0
def State.strmClass (s : State) (r : Nat) (x : Strm) : Nat :=
  if r = 144 then
    match x.stripe with
    | some t => if s.realTime (s.src t.source).partition then 1 else 2
    | none => 2
  else if x.rate = 0 then 3
  else
    match s.partClass (s.strmReg r) with
    | 3 => 0
    | 2 => 1
    | _ => 2

/-- Run-dry time of a stream's next request (R289). -/
def State.strmDry (s : State) (r : Nat) (x : Strm) : Nat :=
  if r = 144 then min (x.deadline - s.now) 1048575
  else if x.rate = 0 then 1048576
  else if x.write then min ((x.qsize - (x.filled - x.accepted)) * 1000 / x.rate) 1048575
  else min ((x.issued - x.released) * 1000 / x.rate) 1048575

/-- Requests on the host link can be formed: it is up and enabled, or down, where they fail at once (12 R322). -/
def State.hostOffers (s : State) : Bool := s.hostUp || !s.host.linkUp

/-- The next granule of a stream. -/
def State.strmCand (s : State) (r k : Nat) : Option Cand :=
  let x := s.strm r k
  match x.next with
  | none => none
  | some (a, n) =>
    let mk (path dev len charge : Nat) (ns : Bool) : Cand :=
      { req := mkReq s (.strm r k) x.epoch x.issued x.write path dev len (s.strmReg r) ns false none
        cls := s.strmClass r x, dry := s.strmDry r x, requester := r, slot := k, charge }
    match x.space with
    | 1 =>
      if !s.hostOffers then none
      else
        match x.cursor.entry (a / 4096) with
        | some e =>
          if entryOk e x.write then
            some (mk 2 (entryAddr e a) (min n (if x.write then s.mps else s.mrrs)) (hostCharge a (x.issued % max x.run 1)) (entryNs e))
          else none
        | none => none
    | 4 => if s.txRoom x n then some (mk 5 (x.unit * 2 ^ 18 + a) n 0 false) else none
    | sp =>
      let dev := spaceAddr sp x.unit a
      let path := (devPoint dev).1
      some (mk path dev n (memCharge path dev n x.write) false)

/-- A Page Map entry read of a cursor, if one is due and none is outstanding (R299, Table 11.4). -/
def State.entryCand (s : State) (cl : Client) (epoch : Nat) (c : Cursor) (reg cls requester slot : Nat) : Option Cand :=
  let out (page : Nat) : Bool := s.mems.reqs.any (fun q => q.client == cl && q.entry.isSome && q.pos == page)
  let mk (cur : Bool) (page : Nat) : Cand :=
    let a := s.pmEntry page
    { req := mkReq s cl epoch page false (a / 2 ^ 34) a 8 reg false false (some cur), cls, dry := 0, requester, slot, charge := 256 }
  let due (want : Bool) (page : Option Nat) : Option Nat :=
    match page with
    | some p => if want && !out p then some p else none
    | none => none
  match due c.wantCur c.curPage, due c.wantNxt c.nxtPage with
  | some p, _ => some (mk true p)
  | none, some p => some (mk false p)
  | none, none => none

/-- The entry read of a stream; a halted one re-reads its entries for a FLUSH. -/
def State.strmEntry (s : State) (r k : Nat) : Option Cand :=
  let x := s.strm r k
  if !x.active || x.space != 1 || x.cancelling then none
  else s.entryCand (.strm r k) x.epoch x.cursor (s.strmReg r) (s.strmClass r x) r k

/-- The page cursor of an ingress writer (200 + port) or a tap writer (its queue). -/
def State.wcur (s : State) (key : Nat) : Cursor := tget Cursor.start s.front.cursors key
def State.putWcur (s : State) (key : Nat) (c : Cursor) : State :=
  { s with front := { s.front with cursors := tput s.front.cursors key c } }

/-- The write an ingress writer works on: the oldest not yet issued whole. -/
def State.ingHead (s : State) (port : Nat) : Option IngWrite :=
  (s.ing' port).queue.find? (fun w => decide (w.issued < w.data.length))

/-- Run-dry time of an ingress writer: free bytes of the line buffer over the port's payload capacity. -/
def State.ingDry (s : State) (port : Nat) : Nat :=
  min (s.bufFree port * 56000 / max 1 (s.portCapacity7 port)) 1048575

/-- The next request of a writer's line: in host memory one PCIe block or request by the entry of its page, in HBM one granule. -/
def State.writerCand (s : State) (cl : Client) (id addr issued left reg cls dry requester : Nat) (toHost : Bool) (cur : Cursor) :
    Option Cand :=
  let a := addr + issued
  let n := if toHost then min left (512 - a % 512) else min left (256 - a % 256)
  let mk (path dev len charge : Nat) (ns : Bool) : Cand :=
    { req := mkReq s cl id issued true path dev len reg ns false none, cls, dry, requester, slot := 0, charge }
  if toHost then
    match cur.entry (a / 4096) with
    | some e =>
      if entryOk e true && s.hostOffers then some (mk 2 (entryAddr e a) (min n s.mps) (hostCharge a issued) (entryNs e)) else none
    | none => none
  else some (mk (a / 2 ^ 34) a n (memCharge (a / 2 ^ 34) a n true) false)

/-- The next granule of an ingress writer. -/
def State.ingCand (s : State) (port : Nat) : Option Cand :=
  match s.ingHead port with
  | none => none
  | some w => s.writerCand (.ingress port) w.id w.addr w.issued (w.data.length - w.issued) 64 0 (s.ingDry port) (146 + port) w.toHost
      (s.wcur (200 + port))

/-- The write a tap writer works on: the oldest that has been produced whole and not yet issued whole. -/
def State.tapHead (s : State) (q : Nat) : Option TapWrite :=
  (s.tapWrites q).find? (fun w => w.left == 0 && decide (w.issued < w.data.length))

/-- The next granule of a tap writer. -/
def State.tapCand (s : State) (q : Nat) : Option Cand :=
  match s.tapHead q with
  | none => none
  | some w => s.writerCand (.tap q) w.id w.addr w.issued (w.data.length - w.issued) 66 3 1048576 (200 + q) w.toHost (s.wcur q)

/-- The beat that a channel offers on a path (12 R331). -/
def State.dmaCand (s : State) (path c : Nat) : Option Cand :=
  match s.chanBeat c path with
  | none => none
  | some b => some { req := mkReq s b.client b.job b.pos b.write path b.addr b.len 67 b.noSnoop b.relaxed none
                     cls := b.cls, dry := b.dry, requester := 145, slot := c, charge := b.charge }

/-- The next request of an access of another unit, where it stands in arbitration. -/
def State.auxCand (s : State) (a : Aux) (reg cls dry requester slot : Nat) : Cand :=
  let p := s.auxPiece a
  { req := mkReq s (.aux a.id) 0 a.issued a.write p.1 p.2.1 p.2.2 reg a.noSnoop false none, cls, dry, requester, slot
    charge := a.charge p }

/-- The oldest access of a unit that has something left to issue. -/
def State.auxHead (s : State) (p : AuxUse → Bool) : Option Aux := s.mems.aux.find? (fun a => p a.use && decide (a.issued < a.len))

/-- A write of the access's use stands before it and has not been accepted. -/
def State.behindWrite (s : State) (a : Aux) (p : AuxUse → Bool) : Bool :=
  s.mems.aux.any (fun b => b.write && p b.use && decide (b.id < a.id))

/-- The stagger region's next request: class 0, regulator 65. A fetch waits until its line has been written
(notes/assumptions/63.md). -/
def State.staggerCand (s : State) : Option Cand :=
  match s.auxHead (fun u => u.isStagger) with
  | some a => if !a.write && s.behindWrite a (fun u => u == a.use) then none else some (s.auxCand a 65 0 0 144 5)
  | none => none

/-- The next parameter history read: class 2, regulator 65. -/
def State.historyCand (s : State) : Option Cand := (s.auxHead (fun u => u.isHistory)).map (fun a => s.auxCand a 65 2 0 144 6)

/-- The next BAR2 request of a path: requester 145, class 2, run-dry time 1,048,575, regulator 67 (12 R318). A read does not pass a
write sent before it on its path (notes/assumptions/12.md). -/
def State.bar2Cand (s : State) (path : Nat) : Option Cand :=
  match s.auxHead (fun u => u.bar2Path == some path) with
  | some a =>
    if !a.write && s.behindWrite a (fun u => u.bar2Path == some path) then none else some (s.auxCand a 67 2 1048575 145 (29 + path))
  | none => none

/-! ## Cursors of writers, and faults found before an issue (R82, 04 R119, R300) -/

/-- The first page other than p that a list of intervals reaches, in order. -/
def pageAfter (p : Nat) : List (Nat × Nat) → Option Nat
  | [] => none
  | (a, n) :: r =>
    if n = 0 then pageAfter p r
    else if a / 4096 ≠ p then some (a / 4096)
    else if (a + n - 1) / 4096 ≠ p then some (p + 1)
    else pageAfter p r

/-- Bring a writer's cursor in line with the page it works on, and with the next one that it and what waits behind it reach. -/
def State.settleWriter (s : State) (key a : Nat) (spans : List (Nat × Nat)) : State :=
  let p := a / 4096
  let q := pageAfter p spans
  let c := (s.wcur key).settle p q
  s.putWcur key (if c.nxtPage.isNone then { c with nxtPage := q, wantNxt := q.isSome } else c)

/-- An ingress writer before an issue: its cursor, and the fault of the page it would write. -/
def State.prepIng (s : State) (port : Nat) : State :=
  match s.ingHead port with
  | none => s
  | some w =>
    if !w.toHost then s
    else
      let a := w.addr + w.issued
      let rest := ((s.ing' port).queue.filter (fun x => x.toHost && decide (w.id ≤ x.id))).map (fun x =>
        (x.addr + x.issued, x.data.length - x.issued))
      let s1 := s.settleWriter (200 + port) a rest
      match (s1.wcur (200 + port)).entry (a / 4096) with
      | some e => if entryOk e true then s1 else s1.ingFault port w
      | none => s1

def State.prepTap (s : State) (q : Nat) : State :=
  match s.tapHead q with
  | none => s
  | some w =>
    if !w.toHost then s
    else
      let a := w.addr + w.issued
      let rest := ((s.tapWrites q).filter (fun x => x.toHost && decide (w.id ≤ x.id))).map (fun x =>
        (x.addr + x.issued, x.data.length - x.issued))
      let s1 := s.settleWriter q a rest
      match (s1.wcur q).entry (a / 4096) with
      | some e => if entryOk e true then s1 else s1.tapFault q w
      | none => s1

/-- The keys of the stream slots that have been used. -/
def State.strmKeys (s : State) : List (Nat × Nat) := s.mems.strms.map (fun e => (e.1 / 16, e.1 % 16))

/-- Settle every cursor and find the halts and drops that are due; a stripe whose read has halted is parked, and tap lines
whose data is there are produced. -/
def State.prepare (s : State) : State :=
  let s1 := s.strmKeys.foldl (fun s e => (s.putStrm e.1 e.2 (s.strm e.1 e.2).settle).checkHalt e.1 e.2) s
  let s2 := (s.ing.ports.map (·.1)).foldl (fun s p => s.prepIng p) s1
  ((s2.front.tapQ.map (·.1)).foldl (fun s q => s.prepTap q) s2).parkBusy.produceTaps

/-- The entry read of a writer's cursor; one that has nothing to write re-reads its entries for a FLUSH. -/
def State.writerEntry (s : State) (key : Nat) : Option Cand :=
  if 200 ≤ key then s.entryCand (.ingress (key - 200)) 0 (s.wcur key) 64 0 (key - 54) 0
  else s.entryCand (.tap key) 0 (s.wcur key) 66 3 (200 + key) 0

/-- Every request that could be offered at a point. -/
def State.candsAt (s : State) (point : Nat) : List Cand :=
  let st := s.strmKeys.flatMap (fun e => (s.strmCand e.1 e.2).toList ++ (s.strmEntry e.1 e.2).toList)
  let wr := s.ing.ports.flatMap (fun e => (s.ingCand e.1).toList) ++ s.front.tapQ.flatMap (fun e => (s.tapCand e.1).toList)
    ++ s.front.cursors.flatMap (fun e => (s.writerEntry e.1).toList)
  let ax := s.staggerCand.toList ++ s.historyCand.toList ++ (s.bar2Cand 3).toList ++ (s.bar2Cand 2).toList
  let dm := s.mems.offers.flatMap (fun e => (s.dmaCand e.1 e.2).toList)
  (st ++ wr ++ ax ++ dm).filter (fun c => c.req.point == point)

/-! ## Budgets and tags (R292, R295) -/

/-- Word w of REG_CFG[r][p]. -/
def State.regCfg (s : State) (r p w : Nat) : Nat := (s.rget (0x20_1000 + 0x40 * r + 0x10 * p + 4 * w)).toNat
def State.bucket (s : State) (r p : Nat) : Nat := tget 0 s.mems.buckets (3 * r + p)
def State.putBucket (s : State) (r p v : Nat) : State :=
  { s with mems := { s.mems with buckets := tput s.mems.buckets (3 * r + p) v } }

/-- A request is in budget; vault ports, die pools and line queues have none. -/
def State.inBudget (s : State) (c : Cand) : Bool := decide (2 < c.req.path) || decide (c.charge ≤ s.bucket c.req.reg c.req.path)

/-- Tags in use on a path, by all or by one regulator. -/
def State.tagsUsed (s : State) (path : Nat) (reg : Option Nat) : Nat × Nat :=
  s.mems.reqs.foldl (fun a q =>
    if q.path = path && (match reg with
      | some r => q.reg == r
      | none => true) then (a.1 + q.readTags, a.2 + q.writeTags) else a) (0, 0)

/-- The tags of a request are free, and its regulator may take them. -/
def State.tagsFree (s : State) (c : Cand) : Bool :=
  let q := c.req
  if 2 < q.path then true
  else
    let all := s.tagsUsed q.path none
    let own := s.tagsUsed q.path (some q.reg)
    let cfg := s.regCfg q.reg q.path 2
    (q.readTags == 0 || (decide (own.1 < nfld cfg 0 13) && (q.path == 2 || decide (all.1 + q.readTags ≤ 4096))))
      && (q.writeTags == 0 || (decide (own.2 < nfld cfg 16 12) && decide (all.2 + q.writeTags ≤ 2048)))
      && (q.path != 2 || q.write || !s.host.linkUp || s.freeTag.isSome)

/-- The point serves requests: a stack that is ready and not in self-refresh. -/
def State.pointUp (s : State) (point : Nat) : Bool :=
  s.live && (decide (1 < point) || (nbit s.mems.ready point && !s.refreshing point))

/-- Order of two keys (R288). -/
def keyBefore : List Nat → List Nat → Bool
  | a :: as, b :: bs => if a ≠ b then decide (a < b) else keyBefore as bs
  | _, _ => false

def State.candKey (s : State) (c : Cand) : List Nat := [b2n (!s.inBudget c), c.cls, c.dry, c.requester, c.slot]

/-- The request that is served: the smallest key among those whose tags are free. One out of budget is served only with SURPLUS
and while none in budget waits. -/
def State.winner (s : State) (cs : List Cand) : Option Cand :=
  let inb := cs.filter s.inBudget
  let pool := if inb = [] then cs.filter (fun c => nbit (s.regCfg c.req.reg c.req.path 3) 0) else inb
  (pool.filter s.tagsFree).foldl (fun b c =>
    match b with
    | some d => if keyBefore (s.candKey c) (s.candKey d) then some c else some d
    | none => some c) none

/-! ## Completions -/

/-- How a read ended for its reader. -/
inductive Ended where
  | good
  /-- an uncorrectable error of the memory, reported by ECC_UE -/
  | uncorrectable
  /-- the controller retired the tag -/
  | timeout
  /-- a bus error with its cause (12 Table 12.10) -/
  | bus (cause : Nat)
  /-- the vault belongs to a fenced core -/
  | fenced
  deriving DecidableEq, Repr

/-- A request is of a DMA channel, which reports its own bus errors (12 R342). -/
def State.chanReq (s : State) (q : Req) : Bool :=
  match q.client with
  | .dma _ => true
  | .aux id => s.mems.aux.any (fun a => a.id == id && a.use.chan.isSome)
  | _ => false

/-- The line or the Frame Record of which a writer's request is a part. -/
def State.ingOf (s : State) (p : Nat) (q : Req) : Option IngWrite := (s.ing' p).queue.find? (fun w => w.id == q.epoch)

/-- The frame that a request serves: of a stream, the frame of its stripe. -/
def State.clientFrame (s : State) (q : Req) : Option (Nat × Nat) :=
  match q.client with
  | .strm r k => tagFrame (s.strm r k).stripe
  | .ingress p => (s.ingOf p q).map (fun w => (w.source, w.frame))
  | .tap t => ((s.tapWrites t).find? (fun w => w.id == q.epoch)).map (fun w => (w.source, w.frame))
  | .dma c => ((s.chan c).jobs.find? (fun j => j.id == q.epoch)).bind (·.frame)
  | .aux id => (s.findAux id).bind (fun a => match a.use with
      | .stagger _ fr _ _ => s.inlineSrc.map (fun i => (i, fr))
      | .history i fr | .frameRecord _ i fr => some (i, fr)
      | .descs _ _ _ | .record _ _ | .bar2 _ _ => none)

/-- Mark the frame, or every frame of a fold group, that a request serves (Table 14.1). -/
def State.markClient (s : State) (q : Req) (m : Nat) : State :=
  match q.client, s.clientFrame q with
  | .strm r k, _ => match (s.strm r k).stripe with
    | some t => s.markTag t m
    | none => s
  | _, some (i, fr) => s.markFrame i fr m
  | _, none => s

/-- The fault of a read that failed; its detail is not defined for BUS_ERROR and TAG_TIMEOUT of a stream, so it is a free value
(notes/assumptions/5.md). A DMA channel reports its own bus errors. -/
def State.readFault (s : State) (q : Req) (e : Ended) : State :=
  let dma := s.chanReq q
  match e with
  | .good | .fenced => s
  | .uncorrectable => (s.markClient q fDetected).raise { cls := 0x11, action := 2, unit := memUnit q.addr
                                                         detail := memOffset q.addr, frame := s.clientFrame q }
  | .timeout =>
    let (v, s1) := (s.bumpMem 5).freeN
    s1.raise { cls := 0x42, action := 2, unit := 0x4000 + q.path, detail := v, frame := s.clientFrame q }
  | .bus _ =>
    if dma then s
    else
      let (v, s1) := s.freeN
      s1.raise { cls := 0x41, action := 2, unit := unitIo, detail := v, frame := s.clientFrame q }

/-- Bytes of a read stream that have arrived without a gap. -/
def deliveredTo (arr : List (Nat × Nat)) : Nat → Nat → Nat
  | 0, d => d
  | n + 1, d =>
    match arr.find? (fun p => p.1 == d && p.2 != 0) with
    | some p => deliveredTo arr n (d + p.2)
    | none => d

/-- Bytes of a stream arrive at a position of its traversal. -/
def State.strmArrive (s : State) (r k pos : Nat) (bs : List Byte) : State :=
  let x := s.strm r k
  let arr := (pos, bs.length) :: x.arrived
  let d := deliveredTo arr arr.length x.delivered
  let s1 := s.putStrm r k { x with arrived := arr.filter (fun p => decide (d < p.1 + p.2)), delivered := d }
  if r = 144 then (s1.frontGot k pos bs).frontAdvance else (s1.ringWrite r x pos bs).wake r

/-- A read that failed poisons the stripe its stream serves. -/
def State.strmPoison (s : State) (r k : Nat) : State :=
  if r = 144 then s.frontPoison k else s.poisonStripe r (s.strm r k).ctx (s.strm r k).stripe

/-- An entry read reaches its cursor. -/
def State.entryDone (s : State) (q : Req) (cur : Bool) (v : Nat) : State :=
  match q.client with
  | .strm r k =>
    let x := s.strm r k
    let held := if cur then x.cursor.curPage else x.cursor.nxtPage
    -- an entry read of an earlier activation, or for a page that the cursor has left, is dropped
    let mine := x.active && x.epoch == q.epoch && x.space == 1
    if mine && held == some q.pos then
      ((s.putStrm r k { x with cursor := x.cursor.take cur v }).checkHalt r k).parkBusy
    else if mine && cur == false && x.cursor.curPage == some q.pos && x.cursor.wantCur then
      ((s.putStrm r k { x with cursor := x.cursor.take true v }).checkHalt r k).parkBusy
    else s
  | .ingress p =>
    if (if cur then (s.wcur (200 + p)).curPage else (s.wcur (200 + p)).nxtPage) == some q.pos then
      (s.putWcur (200 + p) ((s.wcur (200 + p)).take cur v)).prepIng p else s
  | .tap t =>
    if (if cur then (s.wcur t).curPage else (s.wcur t).nxtPage) == some q.pos then
      (s.putWcur t ((s.wcur t).take cur v)).prepTap t else s
  | .dma _ | .aux _ => s

/-! ## The accesses of other units end -/

/-- A read of BAR2 as completions of at most Max_Payload_Size bytes, split on 64-byte boundaries (12 R318). -/
def State.bar2Reply (s : State) (off : Nat) (bs : List Byte) (ep : Bool) : Nat → State
  | 0 => s
  | n + 1 =>
    let k := if s.mps < bs.length then s.mps - (off + s.mps) % 64 else bs.length
    let s1 := (s.bump64 0x10_0188 (bs.take k).length).out (.readBytes 3 off (bs.take k) ep)
    if bs.length ≤ k then s1 else s1.bar2Reply (off + k) (bs.drop k) ep n

/-- Bytes of a BAR2 read as the host sees them: zeros for the bytes of a protected range (02 R56). -/
def State.bar2Mask (s : State) (a : Nat) (bs : List Byte) : List Byte :=
  bs.zipIdx.map (fun p => if (s.protectedIn (a + p.2) 1).isSome then 0 else p.1)

/-- The last byte of a read has come. -/
def State.auxRead (s : State) (a : Aux) : State :=
  let bs := gotBytes a.got 0 a.len
  match a.use with
  | .stagger _ fr x l =>
    let s1 := s.modInl fr (fun i => { i with lines := i.lines ++ [((x, l), bs)], away := i.away.filter (· != (x, l))
                                             fetching := i.fetching.filter (· != (x, l))
                                             bad := if a.bad.isSome then l :: i.bad else i.bad })
    match a.bad, s.inlineSrc with
    | some _, some src => s1.markFrame src fr fPoisoned
    | _, _ => s1
  | .history src fr =>
    let s1 := s.modFlight src fr (fun f => { f with set := bs, setBad := a.bad.isSome })
    if a.bad.isSome then s1.markFrame src fr fPoisoned else s1
  | .descs c i n => s.gotDescs c i n a.bad bs
  | .bar2 path off =>
    let shown := s.bar2Mask a.addr bs
    if path = 3 then s.bar2Reply off shown a.bad.isSome (bs.length / 64 + 1) else s.out (.readBytes path off shown a.bad.isSome)
  | .record _ _ | .frameRecord _ _ _ => s

/-- Bytes of a read arrive, zeros unless they are good. Of a BAR2 read only an uncorrectable error shows (14 R368). -/
def State.auxArrived (s : State) (id pos : Nat) (bs : List Byte) (e : Ended) : State :=
  match s.findAux id with
  | none => s
  | some a =>
    let bad := match e with
      | .good | .fenced => a.bad
      | .uncorrectable => some 0
      | .timeout => if a.use.isBar2 then a.bad else some 0
      | .bus cause => if a.use.isBar2 then a.bad else some cause
    let b := { a with got := (pos, bs) :: a.got, done := a.done + bs.length, bad }
    if b.done < b.len then s.modAux id (fun _ => b) else (s.dropAux (fun x => x.id == id)).auxRead b

/-- The last byte of a write has been accepted. -/
def State.auxWritten (s : State) (a : Aux) : State :=
  match a.use with
  | .stagger port _ _ _ => s.bufGive port a.len
  | .record c v => (s.raiseVec v).settleChan c
  | .frameRecord c src fr => (s.frameRecDone src fr a.data).settleChan c
  | .bar2 path _ => match s.protectedIn a.addr a.len with
    | some x => s.lockViolation x 0x3F (if path = 3 then 0 else 2)
    | none => s
  | .history _ _ | .descs _ _ _ => s

/-- `n` bytes of a write have been accepted. -/
def State.auxAccepted (s : State) (id n : Nat) : State :=
  match s.findAux id with
  | none => s
  | some a =>
    if a.done + n < a.len then s.modAux id (fun a => { a with done := a.done + n })
    else (s.dropAux (fun x => x.id == id)).auxWritten a

/-- Data of a read reaches its reader: zeros unless it was good (R297, 14 R368); a DMA channel halts on it. -/
def State.deliver (s : State) (q : Req) (bs : List Byte) (e : Ended) : State :=
  let data := if e = Ended.good then bs else List.replicate q.len 0
  let s1 := s.readFault q e
  match q.entry with
  | some cur =>
    let s2 := match q.client with
      | .strm r k => if e = Ended.good || !((s1.strm r k).active && (s1.strm r k).epoch == q.epoch) then s1 else s1.strmPoison r k
      | _ => s1
    s2.entryDone q cur (ofBytesLE data)
  | none =>
    match q.client with
    | .strm r k =>
      let x := s1.strm r k
      if !x.active || x.epoch != q.epoch || x.cancelling then s1
      else
        let s2 := if e = Ended.good then s1 else s1.strmPoison r k
        let s3 := match e with
          | .bus _ => s2.putStrm r k { s2.strm r k with status := 2 }
          | _ => s2
        s3.strmArrive r k q.pos data
    | .dma c =>
      (match e with
        | .good => s1.jobGot c q.epoch q.pos bs
        | .fenced => s1.jobGot c q.epoch q.pos data
        | .uncorrectable | .timeout => s1.failJob c q.epoch q.pos 0x10 q.addr true
        | .bus cause => s1.failJob c q.epoch q.pos cause q.addr (q.path != 2)).settleChan c
    | .aux id => s1.auxArrived id q.pos data e
    | .ingress _ | .tap _ => s1

/-- A request leaves the list of those in flight. -/
def State.dropReq (s : State) (id : Nat) : State :=
  { s with mems := { s.mems with reqs := s.mems.reqs.filter (fun q => q.id != id) } }

def State.findReq (s : State) (id : Nat) : Option Req := s.mems.reqs.find? (fun q => q.id == id)

/-- No request of a client on a path is older: reads return, and writes are accepted, in the order of the requests (R290). Page
Map entry reads are reads of their stack. -/
def State.oldest (s : State) (q : Req) : Bool :=
  !s.mems.reqs.any (fun p => p.client == q.client && p.path == q.path && p.write == q.write && decide (p.id < q.id))

/-- No posted write is older: one without Relaxed Ordering passes none (R286). -/
def State.oldestPosted (s : State) (q : Req) : Bool :=
  q.relaxed || !s.mems.reqs.any (fun p => p.write && p.path == 2 && decide (p.id < q.id))

/-- READ_COMPLETION: a read of device memory completes. -/
def readCompletion (id : Nat) (st : ReadStatus) (s : State) : State :=
  match s.findReq id with
  | none => s
  | some q =>
    if q.write || q.path = 2 || q.entry.isSome || (decide (q.path ≤ 1) && !s.oldest q) then s
    else
      let ended := match st with
        | .bad => Ended.bus 0x10
        | .ue => .uncorrectable
        | _ => if s.vaultLost q.addr then .fenced else if s.poisonedIn q.addr q.len then .uncorrectable else .good
      let s1 := if st = .ce && decide (1 < q.path) then s.raiseEcc 0x10 q.addr else s
      (s1.dropReq id).deliver q (s.rd q.addr q.len) ended

/-- PAGE_MAP_ENTRY_READ: an entry arrives; one that fails reads as 0, so V = 0. -/
def pageMapEntryRead (id : Nat) (st : ReadStatus) (s : State) : State :=
  match s.findReq id with
  | none => s
  | some q =>
    if q.entry.isNone || !s.oldest q then s
    else
      (s.dropReq id).deliver q (s.rd q.addr q.len) (match st with
        | .bad => Ended.bus 0x10
        | .ue => Ended.uncorrectable
        | _ => Ended.good)

/-- TAG_TIMEOUT: a read tag of HBM that has not retired 10 µs after issue is retired, with zero data (R297). -/
def tagTimeout (id : Nat) (s : State) : State :=
  match s.findReq id with
  | none => s
  | some q => if q.write || 1 < q.path || nbit s.clk.held q.path || s.now < q.since + 10_000 then s else (s.dropReq id).deliver q [] .timeout

/-! ## Issue -/

/-- The bytes that a write carries. -/
def State.reqData (s : State) (q : Req) : List Byte :=
  if !q.write then []
  else
    match q.client with
    | .strm r k => s.ringRead r (s.strm r k) q.pos q.len
    | .ingress p => match (s.ing' p).queue.find? (fun w => w.id == q.epoch) with
      | some w => slice (if w.isRec then (match s.flight w.source w.frame with
          | some f => s.recBytes f
          | none => w.data) else w.data) q.pos q.len
      | none => []
    | .tap t => match (s.tapWrites t).find? (fun w => w.id == q.epoch) with
      | some w => slice w.data q.pos q.len
      | none => []
    | .dma c => match (s.chan c).jobs.find? (fun j => j.id == q.epoch) with
      | some j => gotBytes j.got q.pos q.len
      | none => []
    | .aux id => match s.findAux id with
      | some a => slice a.data q.pos q.len
      | none => []

/-- The host-link charge of a request is taken from the bucket of its channel (12 R332). -/
def State.chanCharge (s : State) (c charge : Nat) (path : Nat) : State :=
  let x := s.chan c
  let bucket := if path = 2 && charge ≤ x.bucket then x.bucket - charge else x.bucket
  { s.putChan c { x with bucket } with mems := { s.mems with offers := tdel s.mems.offers path } }

/-- What an issue advances at its client. -/
def State.clientIssued (s : State) (q : Req) (charge : Nat) : State :=
  if q.entry.isSome then s
  else
    match q.client with
    | .strm r k => s.putStrm r k ({ s.strm r k with issued := (s.strm r k).issued + q.len }).settle
    | .ingress p => s.modWrite p q.epoch (fun w => { w with issued := w.issued + q.len })
    | .tap t => s.modTap t q.epoch (fun w => { w with issued := w.issued + q.len })
    | .dma c => (s.modJob c q.epoch (fun j =>
        if q.write then { j with sent := j.sent + q.len, got := j.got.filter (fun p => decide (j.sent + q.len < p.1 + p.2.length)) }
        else { j with asked := j.asked + q.len })).chanCharge c charge q.path
    | .aux id =>
      let s1 := s.modAux id (fun a => { a with issued := a.issued + q.len })
      match (s.findAux id).bind (fun a => a.use.chan) with
      | some c => s1.chanCharge c charge q.path
      | none => s1

/-- A stream's bytes have been accepted. -/
def State.strmAccepted (s : State) (r k : Nat) (q : Req) : State :=
  let x := s.strm r k
  if !x.active || x.epoch != q.epoch then s
  else
    let y := { x with accepted := x.accepted + q.len }
    (((s.putStrm r k y).noteOut r y false).endIfDone r k).wake r

/-- A write to the host issued while the link is down: it is discarded and counted; a stream's stripe is poisoned and a line of a
writer is dropped, under class BUS_ERROR (12 R322). A record of a channel is lost. -/
def State.writeDown (s : State) (q : Req) : State :=
  let s1 := s.bumpHost 3
  match q.client with
  | .strm r k =>
    let s2 := (s1.readFault q (.bus 6)).strmPoison r k
    (s2.putStrm r k { s2.strm r k with status := 2 }).strmAccepted r k q
  | .ingress p => match (s1.ing' p).queue.find? (fun w => w.id == q.epoch) with
    | some w => (s1.readFault q (.bus 6)).ingDrop p { w with issued := q.pos }
    | none => s1
  | .tap t => match (s1.tapWrites t).find? (fun w => w.id == q.epoch) with
    | some w => (s1.readFault q (.bus 6)).tapLost t { w with issued := q.pos }
    | none => s1
  | .dma _ => s1
  | .aux id => s1.auxAccepted id q.len

/-! ## Errors in the buffers that hold the bytes of a write (14 R368) -/

/-- The unit whose buffer, with check bits of its own, the bytes of a write come from: a line buffer by its port, a channel's data
buffer, a tap queue; of a stream, the vault port and the links that its bytes pass. What the device writes of its own making (records)
and what BAR2 brings has none (notes/assumptions/174.md). -/
def State.bufUnit (s : State) (q : Req) : Option Nat :=
  if !q.write || q.entry.isSome then none
  else
    match q.client with
    | .strm r _ => some (0x1004 + dieOf r)
    | .ingress p => match s.ingOf p q with
      | some w => if w.isRec then none else some (0x2000 + p)
      | none => none
    | .tap _ => some unitIo
    | .dma c => some (0x5000 + c)
    | .aux id => match (s.findAux id).map Aux.use with
      | some (AuxUse.stagger p _ _ _) => some (0x2000 + p)
      | _ => none

/-- The first word in error of a stream's ring that a write of the stream takes. -/
def State.ringUe (s : State) (q : Req) : Option Nat :=
  match q.client with
  | .strm r k =>
    let x := s.strm r k
    let at' (i : Nat) : Nat := vaultAt r + x.qbase + (q.pos + i) % max x.qsize 1
    if s.poison = [] || !q.write || q.entry.isSome then none
    else ((List.range q.len).find? (fun i => s.poisonedIn (at' i) 1)).map (fun i => at' i / 8 * 8)
  | _ => none

/-- The error with which the bytes of a write leave their buffer: whether it is uncorrectable, the unit, and the word where it is
one of memory. -/
def State.bufErr (s : State) (q : Req) (ecc : Option Bool) : Option (Bool × Nat × Option Nat) :=
  match s.ringUe q, s.bufUnit q, ecc with
  | some a, _, _ => some (true, memUnit a, some (memOffset a))
  | none, some u, some ue => some (ue, u, none)
  | none, _, _ => none

/-- Its record. The spec gives a buffer's word no address, so the detail is then a free value (notes/assumptions/174.md). -/
def State.bufFault (s : State) (q : Req) (ue : Bool) (unit : Nat) (word : Option Nat) : State :=
  let (v, s1) := match word with
    | some a => (a, s)
    | none => s.freeN
  if ue then (s1.markClient q fDetected).raise { cls := 0x11, action := 2, unit, detail := v % 2 ^ 64, frame := s.clientFrame q }
  else s1.raise { cls := 0x10, action := 1, unit, detail := v % 2 ^ 64 }

/-- Zeros are written in place of bytes in error: the stripe is POISONED (14 R368), that of a line when it is released. -/
def State.zeroMarks (s : State) (q : Req) : State :=
  match q.client with
  | .strm r k => s.strmPoison r k
  | .ingress p => match s.ingOf p q with
    | some w => (s.markClient q fPoisoned).modFlight w.source w.frame (fun f =>
        if w.isLine then { f with zeroed := w.line / max 1 (s.src w.source).stripeLines :: f.zeroed } else f)
    | none => s
  | .aux id => match (s.findAux id).map Aux.use with
    | some (AuxUse.stagger _ fr _ l) => (s.markClient q fPoisoned).modInl fr (fun i => { i with bad := l :: i.bad })
    | _ => s
  | .tap _ | .dma _ => s.markClient q fPoisoned

/-- A data beat of a channel fails at issue: it takes no tag and no charge (12 Table 12.12). -/
def State.beatFails (s : State) (ch : Nat) (q : Req) (cause : Nat) (device : Bool) : State :=
  (State.failJob { s with mems := { s.mems with offers := tdel s.mems.offers q.path } } ch q.epoch q.pos cause q.addr device).settleChan ch

/-- Charge, count and issue a request; `zeros` stand in place of bytes in error. On a host link that is down, a read fails at once
and a write is discarded (12 R322); a data beat of a channel fails either way (12 Table 12.12). -/
def State.issueReq (s : State) (c : Cand) (zeros : Bool := false) : State :=
  let q := { c.req with data := if zeros then List.replicate c.req.len 0 else s.reqData c.req }
  let p := q.path
  let s1 := if p ≤ 2 then
      (if s.inBudget c then s.putBucket q.reg p (s.bucket q.reg p - c.charge) else s).bump64 (0x20_4000 + 0x20 * q.reg + 8 * p) c.charge
    else s
  let s2 := if q.write && p ≤ 1 then State.bumpN (fun s => s.bumpMem 6) q.readTags s1 else s1
  let down := p == 2 && !s.host.linkUp
  match down, q.client with
  | true, .dma ch => s2.beatFails ch q 6 false
  | _, _ =>
    let s3 := s2.clientIssued q c.charge
    let s4 := { s3 with mems := { s3.mems with nextId := s3.mems.nextId + 1 } }
    if down then (if q.write then s4.writeDown q else s4.deliver q [] (.bus 6))
    else
      let s5 := { s4 with mems := { s4.mems with reqs := s4.mems.reqs ++ [q] } }
      if p = 2 && !q.write then
        match s5.freeTag with
        | some t => s5.sendRead t q.addr q.len q.id q.noSnoop
        | none => s5
      else s5

/-- Issue a request whose bytes leave their buffer in error: corrected ones as they are, zeros for others, but a beat of a channel
fails with cause 0x10 (12 R342). -/
def State.issueErr (s : State) (c : Cand) (ue : Bool) (unit : Nat) (word : Option Nat) : State :=
  let s1 := s.bufFault c.req ue unit word
  if !ue then s1.issueReq c
  else
    match c.req.client with
    | .dma ch => s1.beatFails ch c.req 0x10 true
    | _ => (s1.zeroMarks c.req).issueReq c true

/-- ARBITRATION_GRANT: at a point, the request with the smallest key is issued (R288). `ecc` tells of an error in the buffer that
its bytes come from: correctable, or with `true` uncorrectable (14 R368). -/
def arbitrationGrant (point : Nat) (ecc : Option Bool) (s0 : State) : State :=
  let s := s0.prepare
  if !s.pointUp point then s
  else
    match s.winner (s.candsAt point) with
    | some c => match s.bufErr c.req ecc with
      | none => (s.issueReq c).prepare
      | some (ue, unit, word) => (s.issueErr c ue unit word).prepare
    | none => s

/-! ## Acceptance (R286) -/

/-- The bytes of an accepted write reach their destination; a fenced vault discards them (14 R382 step 5), and a protected range
those of BAR2 (02 R56): its blocks are granules. -/
def State.storeReq (s : State) (q : Req) : State :=
  if q.data = [] then s
  else if q.path = 2 then s.hostWrite q.addr q.data q.noSnoop q.relaxed
  else if q.path = 5 then
    match q.client with
    | .strm r k => s.txTake (s.strm r k) q.pos q.data
    | _ => s
  else if s.vaultLost q.addr || (s.hostOwn q && (s.protectedIn q.addr q.data.length).isSome) then s
  else s.wr q.addr q.data

/-- WRITE_ACCEPT: the destination accepts a write, and its tags retire. Messages that waited for a posted write follow it. -/
def writeAccept (id : Nat) (s : State) : State :=
  match s.findReq id with
  | none => s
  | some q =>
    if !q.write || !s.oldest q || (q.path == 2 && !s.oldestPosted q) then s
    else
      let s1 := (s.storeReq q).dropReq id
      let s2 := if q.path = 2 then s1.flushMsgs else s1
      match q.client with
      | .strm r k => s2.strmAccepted r k q
      | .ingress p => s2.ingAccepted p q.epoch q.data
      | .tap t => s2.tapAccepted t q.epoch q.len
      | .dma c => s2.jobAccepted c q.epoch q.len
      | .aux id => s2.auxAccepted id q.len

/-! ## Start, tick and registers -/

/-- Step 14: every bucket starts at BURST (R292). -/
def State.regArm (s : State) : State :=
  { s with mems := { s.mems with buckets := (List.range 204).map (fun i => (i, s.regCfg (i / 3) (i % 3) 1)) } }

/-- A microsecond tick: RATE bytes, up to BURST. -/
def State.regTick (s : State) : State :=
  { s with mems := { s.mems with buckets := s.mems.buckets.map (fun e =>
    (e.1, min (s.regCfg (e.1 / 3) (e.1 % 3) 1) (e.2 + s.regCfg (e.1 / 3) (e.1 % 3) 0))) } }

/-- TAGS_INUSE[p]. -/
def State.tagsInUse (s : State) (p : Nat) : Word := let t := s.tagsUsed p none; wd (t.1 % 8192 + t.2 % 4096 * 2 ^ 16)

/-- ARBITRATION_GRANT (11 R288). -/
def execArbitrationGrant (t point : Nat) (ecc : Option Bool) (s : State) : Host.Outcome State Fault Refusal :=
  .next (arbitrationGrant point ecc (s.advance t))
/-- READ_COMPLETION (11 R285). -/
def execReadCompletion (t id : Nat) (status : ReadStatus) (s : State) : Host.Outcome State Fault Refusal :=
  .next (readCompletion id status (s.advance t))
/-- WRITE_ACCEPT (11 R286). -/
def execWriteAccept (t id : Nat) (s : State) : Host.Outcome State Fault Refusal := .next (writeAccept id (s.advance t))
/-- PAGE_MAP_ENTRY_READ (11 R299). -/
def execPageMapEntryRead (t id : Nat) (status : ReadStatus) (s : State) : Host.Outcome State Fault Refusal :=
  .next (pageMapEntryRead id status (s.advance t))
/-- STREAM_CANCEL_DONE (11 R304). -/
def execStreamCancelDone (t requester slot : Nat) (s : State) : Host.Outcome State Fault Refusal :=
  .next (streamCancelDone requester slot (s.advance t))
/-- TAG_TIMEOUT (11 R297). -/
def execTagTimeout (t id : Nat) (s : State) : Host.Outcome State Fault Refusal := .next (tagTimeout id (s.advance t))

end Sys2Proof.Machine
end

