-- ==== Sys2Proof/Machine/TileFail.lean ====
section
/-! DEFINITION. Failed tiles (spec/14 R370, R371): whether a tile is replayed, and what happens when it is not; B8 blocks and the
pairing unit (spec/13 R347, R348); what ends with an instruction (spec/13 R347, spec/11 R286). -/

namespace Sys2Proof.Machine

/-! ## Tiles -/

/-- Output group of the walk, and first accumulator row and rows of the tile (07 R191). -/
def Walk.group (w : Walk) : Nat := w.pass * w.op.gpp + w.slot
def Walk.row0 (w : Walk) : Nat := w.op.accBase + (w.unit % max 1 w.op.banks * w.op.gpp + w.slot) * w.op.tileM
def Walk.rows (w : Walk) : Nat := w.op.rows w.b

/-- Lanes of the tile that are in use. -/
def Walk.lanes (w : Walk) : Nat := if w.op.diag then 64 else min 64 (w.op.n - 64 * w.group)

/-- Core cycles of a position in the diagonal mapping (08 R212). -/
def Op.diagCycles (o : Op) (g ks p : Nat) (first : Bool) : Nat :=
  let b := if o.tin.fmt = 1 then 2 else 1
  max o.cyclesPer (ceilDiv (b * (o.newLines g ks p first).length * o.segLen) 32)

/-- Core cycles of a tile (05 R142, 08 R212). -/
def State.tileCycles (s : State) (n : Nat) (w : Walk) : Nat :=
  let o := w.op
  let l := loadCycles o.wfmt
  sumN o.s (fun ks =>
    if kstepNull s n o w.group ks then 0
    else if o.diag then max l (sumN w.rows (fun m => o.diagCycles w.group ks (w.b * o.tileM + m) (m == 0)))
    else max l (w.rows * o.cyclesPer)) + l

/-- The replay fits its limit (R370 condition 5): T_rep at 1.05 G/s against the next stage's deadline, or the frame's. -/
def State.replayFits (s : State) (n : Nat) (w : Walk) : Bool :=
  match w.op.stripe with
  | none => true
  | some t =>
    if !s.realTime ((s.corePart n).getD 0) then true
    else
      match s.flight t.source t.frame, s.ctxStage (4 * n + w.op.ctx) with
      | some f, some (c, st) =>
        let fin := s.now + ceilDiv (s.tileCycles n w * 1000) 1050
        if st + 1 < s.chainStages c then decide (fin ≤ s.dlAt t.source f.expectAt t.stripe (st + 1))
        else
          let off := (s.src t.source).deadlineOffset
          off == 0 || decide (fin ≤ f.expectAt + off)
      | _, _ => true

/-- No RESIDUE or ECC_UE record of the core within FENCE_WINDOW ms (R370 condition 4). -/
def State.windowClear (s : State) (n : Nat) : Bool :=
  match tfind s.flt.lastErr n with
  | some t => decide (t + fld (s.rget 0x6_0018) 0 16 * 1_000_000 < s.now)
  | none => true

/-- Some input of the operation is a stream. -/
def Op.streamIn (o : Op) : Bool :=
  let one (t : Tens) := t.pl.space == 3 || (t.fmt == 4 && t.scale.space == 3)
  one o.tin || (match o.aux with
    | some a => one a
    | none => false)

/-- The walk of a context passes over a tile of its present unit. -/
def State.skipTile (s : State) (n : Nat) (w : Walk) : State :=
  let k := s.core n
  match tfind k.walks w.op.ctx with
  | some v =>
    if v.b = w.b && v.pass = w.pass && v.op.index = w.op.index then
      s.putCore n { k with walks := tput k.walks w.op.ctx { v with skip := w.slot :: v.skip } }
    else s
  | none => s

/-- The drain job of a tile. -/
def Walk.job (w : Walk) (zero : Bool) : DrainJob :=
  { op := w.op, b := w.b, gr := w.group, row0 := w.row0, rows := w.rows, next := w.drained, zero, tile := true, blocks := 0
    skew := false, lfsr := 0, got := [] }

/-- The report of a failed tile, RESIDUE or ECC_UE: a record of the core's own (R370 condition 4). `detail` is the address for
ECC_UE. -/
def State.tileReport (s : State) (n : Nat) (w : Walk) (cls detail action : Nat) (replayed : Bool) : State :=
  s.raise { cls, action, unit := n, detail := if cls = 0x11 then memOffset detail else detail, frame := tagFrame w.op.stripe
            replayed }

/-- Number of set bits among the first 64. -/
def popcount64 (x : Nat) : Nat := (List.range 64).foldl (fun a i => a + b2n (nbit x i)) 0

/-- Two walks stand at one tile. -/
def Walk.sameTile (a b : Walk) : Bool :=
  a.op.ctx == b.op.ctx && a.op.index == b.op.index && a.b == b.b && a.pass == b.pass && a.slot == b.slot

/-- Count the lanes of a tile that saturated or selected a saturated shifted entry, once per tile (05 R136, 13 R349). -/
def State.countSats (s : State) (n : Nat) (w : Walk) : State :=
  if w.counted then s
  else
    State.bumpN (fun s => s.bumpMatch n 1) (popcount64 (tget 0 w.gsats w.slot))
      (State.bumpN (fun s => s.bumpCore n 0) (popcount64 (tget 0 w.sats w.slot)) s)

/-- The drain job of a tile stands ahead of an instruction without tiles that the same context has issued behind it and that has
not begun (07 R177). -/
def insertTile (j : DrainJob) : List DrainJob → List DrainJob
  | [] => [j]
  | x :: r => if !x.tile && x.op.ctx = j.op.ctx && x.next = 0 then j :: x :: r else x :: insertTile j r

def State.addTile (s : State) (n : Nat) (j : DrainJob) : State :=
  let k := s.core n
  s.putCore n { k with drain := insertTile j k.drain }

/-- The residue sums start anew. -/
def CoreS.newInterval (k : CoreS) : CoreS := { k with pres := [], ares := [], excl := 0, openAt := none }

/-- A replay takes the array (R370): the registers of every walk are loaded anew after it. -/
def State.startReplay (s : State) (n : Nat) (w : Walk) : State :=
  let k := s.core n
  s.putCore n { k.newInterval with
    replay := some w, ahead := none, walks := k.walks.map (fun e => (e.1, { e.2 with loaded := false, loadLeft := 0 })) }

/-- A tile has failed (R370, R371): it is replayed, or the drain writes 0 for it, or the core is fenced. -/
def State.tileFails (s : State) (n : Nat) (w : Walk) (cls detail : Nat) : State :=
  let det := if cls = 0x11 then memOffset detail else detail
  let k0 := s.core n
  let s := s.putCore n { k0 with closed := k0.closed.filter (fun x => !x.walk.sameTile w) }
  if w.replay || !s.windowClear n then
    (s.countSats n w).fenceCore n { cls, action := 3, unit := n, detail := det, frame := tagFrame w.op.stripe }
  else if bit (s.rget 0x6_0010) 17 && !w.op.streamIn && s.replayFits n w then
    s.startReplay n { Walk.start w.op with
      b := w.b, pass := w.pass, slot := w.slot, drained := w.drained, skew := w.skew, counted := w.counted, replay := true
      cause := some (cls, detail) }
  else
    let s1 := (s.countSats n w).tileReport n w cls detail 2 false
    let s2 := match w.op.stripe with
      | some t => (s1.markTag t fDetected).poisonStripe n w.op.ctx (some t)
      | none => s1
    ((s2.putCore n (s2.core n).newInterval).addTile n (w.job true)).skipTile n w

/-! ## The pairing unit (13 R347, R348) -/

/-- The streams of a B8 tensor issue nothing further (R347 step 1). -/
def State.stopTens (s : State) (n : Nat) (t : Tens) : State :=
  let one (s : State) (p : Place) : State :=
    if p.space = 3 && s.strmLive n p then s.putStrm n p.slot { s.strm n p.slot with stopped := true } else s
  one (one s t.pl) t.scale

/-- A mismatch: SCALE_SKEW with the numbers of both streams (R347 steps 2 and 3). -/
def State.skew (s : State) (n : Nat) (o : Op) (b : Block) : State :=
  let s1 := s.rput (coreReg n 0x330) (wd (b.seq + b.sseq * 65536))
  let s2 := s1.rput (coreReg n 0x334) (wd (o.index % 65536 + o.ctx * 65536 + 2 ^ 18))
  let s3 := s2.bumpMatch n 3
  let s4 := match o.stripe with
    | some t => s3.markTag t fSkew
    | none => s3
  s4.raise { cls := 0x33, action := 2, unit := n, frame := tagFrame o.stripe
             detail := b.seq + b.sseq * 2 ^ 16 + o.index % 65536 * 2 ^ 32 + o.ctx * 2 ^ 48 }

/-- The blocks `qs` of tensor t, in order: mantissas and exponents, zero from a mismatch on; `none` while a stream has not
delivered them. `k` counts the blocks taken so far; a mismatch that has been reported before is not reported again (`quiet`). -/
def State.takeBlocks (s : State) (n : Nat) (o : Op) (t : Tens) (quiet : Bool) : List Nat → Nat → Bool →
    Option (State × Nat × Bool × List (List Int × Nat))
  | [], k, sk => some (s, k, sk, [])
  | q :: r, k, sk =>
    if sk then
      match State.takeBlocks s n o t quiet r k sk with
      | some (s1, k1, sk1, l) => some (s1, k1, sk1, (List.replicate 16 0, 0) :: l)
      | none => none
    else if !s.blockReady n t then none
    else
      let b := s.block n t q k
      if b.ok then
        match State.takeBlocks (s.blockTaken n t k) n o t quiet r (k + 1) false with
        | some (s1, k1, sk1, l) => some (s1, k1, sk1, (b.mant, b.e) :: l)
        | none => none
      else
        match State.takeBlocks (if quiet then s else (s.skew n o b).stopTens n t) n o t quiet r k true with
        | some (s1, k1, sk1, l) => some (s1, k1, sk1, (List.replicate 16 0, 0) :: l)
        | none => none

/-- An uncorrectable error under the blocks that are taken next (14 R368). -/
def State.blocksUe (s : State) (n : Nat) (t : Tens) (qs : List Nat) (k : Nat) : Option Nat :=
  if s.poison = [] then none
  else ((List.range qs.length).zip qs).foldl (fun r e => r.or (s.blockUe n t e.2 k e.1)) none

/-- Lexicographic order of (unit, K-step, position). -/
def posLt (a b : Nat × Nat × Nat) : Bool :=
  decide (a.1 < b.1) || (a.1 == b.1 && (decide (a.2.1 < b.2.1) || (a.2.1 == b.2.1 && decide (a.2.2 < b.2.2))))

/-- The place of the walk's position in the order in which blocks are taken, and whether it lies behind the mismatch. -/
def Walk.here (w : Walk) : Nat × Nat × Nat := (w.unit, w.ks, w.m)
def Walk.pastSkew (w : Walk) : Bool := match w.skew with
  | some p => posLt p w.here
  | none => false

/-- A mismatch at the walk's position is kept. -/
def Walk.noteSkew (w : Walk) (sk : Bool) : Walk := if sk && w.skew.isNone then { w with skew := some w.here } else w

/-- Alignment to EBX (R348): mantissas and the left shift of their rows. -/
def alignBlock (ebx : Nat) (b : List Int × Nat) : List Int × Nat :=
  if b.2 < ebx then (b.1.map (fun m => rheShift m (ebx - b.2)), 0) else (b.1, b.2 - ebx)

/-! ## The end of an instruction's inputs -/

/-- End the read stream of a place: after a mismatch as an abnormal end with STATUS 0, otherwise with all of it released. -/
def State.endInput (s : State) (n : Nat) (p : Place) (skew : Bool) : State :=
  if p.space = 3 && (s.strm n p.slot).active && !(s.strm n p.slot).cancelling then
    if skew then s.endStrm n p.slot true 0 0
    else (s.putStrm n p.slot { s.strm n p.slot with released := (s.strm n p.slot).total }).endIfDone n p.slot
  else s

/-- The walk is over: B8 inputs end; the padding of a last bundle is released with it. -/
def State.endInputs (s : State) (n : Nat) (o : Op) (skew : Bool) : State :=
  let one (s : State) (t : Tens) := if t.fmt = 4 then (s.endInput n t.pl skew).endInput n t.scale skew else s
  let s1 := one s o.tin
  match o.aux with
  | some a => one s1 a
  | none => s1

end Sys2Proof.Machine
end

