-- ==== Sys2Proof/Machine/Array.lean ====
section
/-! DEFINITION. The array: CORE_CYCLE (spec/05 R133 to R143, R147, R149, spec/07 R191, spec/08 R205 to R221, spec/13 R348 to
R353). A core cycle is one handshake: a cycle of a K-step's load, a cycle that only feeds segments, or a presentation that
updates one accumulator row. -/

namespace Sys2Proof.Machine

/-! ## Codes and codebooks (06 R158, R160 to R163) -/

/-- Code of cell (i, j) of a code block: 4, 3 or 2 bits, or a signed byte. -/
def codeOf (wfmt : Nat) (cs : List Byte) (i j : Nat) : Int :=
  if wfmt = 3 then sx 8 (leAt cs (64 * i + j) 1)
  else
    let b := if wfmt = 0 then 4 else if wfmt = 1 then 3 else 2
    let o := (64 * i + j) * b
    ((leAt cs (o / 8) 2 >>> (o % 8)) % 2 ^ b : Nat)

/-- Centroid k, residue k, NULL, FMT of row i of the codebook registers (32 words of 32 bytes). -/
def centroid (cb : List Byte) (i k : Nat) : Int := sx 12 (leAt cb (32 * i + 12 * k / 8) 2 >>> (12 * k % 8))
def cbRes (cb : List Byte) (i k : Nat) : Nat := (leAt cb (32 * i + 24 + 3 * k / 8) 2 >>> (3 * k % 8)) % 8
def cbNull (cb : List Byte) (i : Nat) : Bool := leAt cb (32 * i + 30) 1 % 2 == 1

/-- Check a codebook word that is not idle (R163); the number of the lowest check that fails. -/
def cbCheck (wfmt : Nat) (w : List Byte) : Option Nat :=
  let null := leAt w 30 1 % 2 == 1
  let fmt := leAt w 30 1 / 2 % 4
  let used := if wfmt = 0 then 16 else if wfmt = 1 then 8 else 4
  if !null && fmt != wfmt then some 1
  else if !null && wfmt != 3 && (List.range used).any (fun k => cbRes w 0 k == 7) then some 2
  else if leAt w 30 1 / 8 != 0 || leAt w 31 1 != 0 then some 3
  else none

/-- Codebook word of row 0 of a K-step. -/
def Op.cbWord (o : Op) (g ks : Nat) : Nat := o.cb + g * (8 + 32 * o.s) + 8 + 32 * ks

/-- Rows of a K-step within the reduction length. -/
def Op.usedRows (o : Op) (ks : Nat) : Nat := min 32 (o.k - 32 * ks)

/-- Opcodes that read code blocks from memory. -/
def Op.readsCodes (o : Op) : Bool := o.opcode != 4 && o.opcode != 5 && o.opcode != 0x21

/-- The K-step a walk stands at, counted through the walk. -/
def Walk.step (w : Walk) : Nat := (w.unit * w.op.s + w.ks) * w.op.gpp + w.slot

/-- What a K-step load finds. -/
inductive LoadResult where
  | ok (codes cbs : List Byte) (took : List (Nat × List Byte)) (s : State)
  | wait
  | bad (word check : Nat)
  | ue (addr : Nat)

/-- The lowest word of a K-step that fails R163, with the check it fails. -/
def State.badWord (s : State) (n : Nat) (w : Walk) : Option (Nat × Nat) :=
  let wi := w.op.cbWord w.group w.ks
  ((List.range (w.op.usedRows w.ks)).find? (fun i => (cbCheck w.op.wfmt (s.rd (cbAt n (wi + i)) 32)).isSome)).map (fun i =>
    (wi + i, (cbCheck w.op.wfmt (s.rd (cbAt n (wi + i)) 32)).getD 0))

/-- Load codes and codebooks of the K-step the walk stands at (05 R142, 06 R162, R163, 13 R352). Code blocks that BWD_WGT takes from
a stream stay with the walk until the K-step has run. -/
def State.loadK (s : State) (n : Nat) (w : Walk) : LoadResult :=
  let o := w.op
  let g := w.group
  if o.opcode = 0x21 then
    match tfind w.took w.step with
    | some cs => .ok cs (s.core n).cbs w.took s
    | none =>
      let l := o.wgtCodes w.ks g
      if !s.gatherReady n o.tin l then .wait
      else
        match (if o.streamIn && w.skip.contains w.slot then none else s.srcUe n o.tin l) with
        | some a => .ue a
        | none =>
          let (xs, s1) := s.gather n o.tin l
          let cs := xs.map (fun x => BitVec.ofInt 8 x)
          .ok cs (s.core n).cbs (if o.tin.pl.space = 3 then tput w.took w.step cs else w.took) s1
  else
    let cb := s.rd (cbAt n (o.cbWord g w.ks)) 1024
    let ca := vaultAt n + o.codesAt + (g * o.s + w.ks) * codeBlock o.wfmt
    match (s.firstUe (cbAt n (o.cbWord g w.ks)) 1024).or (if o.readsCodes then s.firstUe ca (codeBlock o.wfmt) else none) with
    | some a => .ue a
    | none =>
      match s.badWord n w with
      | some (i, c) => .bad i c
      | none => .ok (if o.readsCodes then s.rd ca (codeBlock o.wfmt) else List.replicate 1024 0) cb w.took s

/-! ## Products (05 R133, R134, 08 R208, R209, R220, 13 R348, R349) -/

/-- What a cell contributes: its product, the product's residue, and whether it selected a saturated shifted entry. -/
structure Cell where
  p : Int
  r : Nat
  sat : Bool

def Cell.zero : Cell := { p := 0, r := 0, sat := false }

/-- A shifted table entry, saturated to S28. -/
def shifted (e : Int) (d : Nat) : Int × Bool :=
  let x := e * ((2 ^ d : Nat) : Int)
  let y := sat 28 x
  (y, x != y)

/-- A direct weight against an activation with shift d (Table 5.3, R134). -/
def cellDirect (a w : Int) (d : Nat) : Cell :=
  let hi := w / 16
  let lo := w % 16
  let (eh, sh) := shifted (a * (if hi < 0 then -hi else hi)) d
  let (el, sl) := shifted (a * lo) d
  { p := (if hi < 0 then -eh else eh) * 16 + el, r := mod7 (((mod7 a * mod7 w * 2 ^ d : Nat) : Int)), sat := sh || sl }

/-- A centroid against an activation with shift d. -/
def cellCb (a c : Int) (rc d : Nat) : Cell :=
  let (e, sh) := shifted (a * c) d
  { p := e, r := mod7 (((mod7 a * rc * 2 ^ d : Nat) : Int)), sat := sh }

/-- Cell (i, j) of the standard mapping. -/
def Walk.cell (w : Walk) (k : CoreS) (i j : Nat) (a : Int) (d : Nat) : Cell :=
  let o := w.op
  if o.opcode = 0x21 then cellDirect a (codeOf 3 k.codes i j) d
  else if cbNull k.cbs i then Cell.zero
  else if o.opcode = 4 then
    let el := 32 * w.ks + i
    let oc := 64 * w.group + j
    let (n, ri) := if o.xIn then (el / 2, el % 2) else (el, 0)
    let (f, co) := if o.xOut then (oc / 2, oc % 2) else (oc, 0)
    let (sg, m) := xformWeight (o.subop == 1) n ri f co
    if sg = 0 then Cell.zero
    else { p := sg * a * centroid k.cbs i m, r := mod7 (sg * ((mod7 a * cbRes k.cbs i m : Nat) : Int)), sat := false }
  else if o.wfmt = 3 then cellDirect a (codeOf 3 k.codes i j) d
  else
    let c := (codeOf o.wfmt k.codes i j).toNat
    cellCb a (centroid k.cbs i c) (cbRes k.cbs i c) d

/-- The nibble that presentation t of an activation selects with, and its cycle weight (Table 8.2). -/
def presentation (four : Bool) (t : Nat) (a : Int) : Int × Nat :=
  if four then
    match t with
    | 0 => (a / 4096, 12)
    | 1 => (a / 256 % 16, 8)
    | 2 => (a / 16 % 16, 4)
    | _ => (a % 16, 0)
  else if t = 0 then (a / 16, 4) else (a % 16, 0)

/-- Cell (i, j) of the diagonal mapping in presentation t; the product is scaled by the cycle's weight. -/
def Walk.diagCell (w : Walk) (k : CoreS) (t i : Nat) (a : Int) : Cell :=
  let o := w.op
  if cbNull k.cbs i then Cell.zero
  else
    let (wt, rc) := if o.wfmt = 3 then let x := codeOf 3 k.codes i 0; (x, mod7 x)
      else let c := (codeOf o.wfmt k.codes i 0).toNat; (centroid k.cbs i c, cbRes k.cbs i c)
    let (v, sh) := presentation (o.cyclesPer == 4) t a
    { p := wt * v * ((2 ^ sh : Nat) : Int), r := mod7 (((rc : Nat) : Int) * v * ((2 ^ sh : Nat) : Int)), sat := false }

/-- Sum of the cells of a column. -/
def sumCells (l : List Cell) : Cell :=
  l.foldl (fun a c => { p := a.p + c.p, r := (a.r + c.r) % 7, sat := a.sat || c.sat }) Cell.zero

/-! ## Activation lines (06 R157, 08 R206, 13 R348, R352) -/

/-- First line of a position of the K-step the walk stands at: K-steps alternate between two slots (07 R191). -/
def Walk.line (w : Walk) (m : Nat) : Nat :=
  w.op.abufBase + ((w.unit * w.op.s + w.ks) % 2 * w.op.tileM + m) * w.op.fa

/-- Row activations of a position, read from the activation buffer. -/
def State.lineRows (s : State) (n : Nat) (w : Walk) (m : Nat) : List Int :=
  let sz := w.op.fa
  (List.range 32).map (fun i => fmtDec (if sz = 2 then 1 else 0) (s.rdLE (abufAt n (w.line m) + sz * i) sz))

/-- Store the activations of a position. -/
def State.putLine (s : State) (n : Nat) (w : Walk) (m : Nat) (xs : List Int) : State :=
  s.wr (abufAt n (w.line m)) ((xs.map (fmtEnc (if w.op.fa = 2 then 1 else 0))).flatten)

/-- The lines of a position hold a word that reads as uncorrectable. -/
def State.poisonLine (s : State) (n : Nat) (w : Walk) : State :=
  let a := abufAt n (w.line w.m)
  { s with poison := if s.poison.contains a then s.poison else a :: s.poison }

/-- Look up segments held. -/
def segFind (l : List ((Nat × Nat × Nat) × List Int)) (k : Nat × Nat × Nat) : List Int :=
  match l.find? (fun e => e.1 == k) with
  | some e => e.2
  | none => []

/-- What a gather finds. -/
inductive GatherResult where
  | ok (s : State) (w : Walk)
  | wait

/-- Blocks that the position the walk stands at takes from its B8 operand, if it has one. -/
def Walk.blocksHere (w : Walk) : Option (Tens × List Nat) :=
  let o := w.op
  let p := w.b * o.tileM + w.m
  if o.opcode = 0x20 then some (o.tin, o.bwdBlocks p w.ks)
  else if o.opcode = 0x21 then o.aux.map (fun a => (a, if wgtLoads p w.m then o.wgtBlocks w.ks p else []))
  else none

/-- Sources of the position the walk stands at that it does not hold yet: a line of the standard mapping, or new segments. -/
def Walk.sourcesHere (w : Walk) : List Src :=
  let o := w.op
  let p := w.b * o.tileM + w.m
  if o.diag then ((o.newLines w.group w.ks p (w.m == 0)).map (o.segSrc (o.diagPos p).2.1)).flatten
  else o.stdLine p w.ks

/-- An uncorrectable error under what the position reads from its operands (14 R368). -/
def State.gatherUe (s : State) (n : Nat) (w : Walk) : Option Nat :=
  if s.poison = [] || (!w.op.diag && decide (w.m < w.fed)) then none
  else
    match w.blocksHere with
    | some (t, qs) => if w.pastSkew then none else s.blocksUe n t qs w.blocks
    | none => s.srcUe n w.op.tin w.sourcesHere

/-- Bring the activations of position m of the standard mapping into the activation buffer. -/
def State.gatherStd (s : State) (n : Nat) (w : Walk) : GatherResult :=
  let o := w.op
  let p := w.b * o.tileM + w.m
  if w.m < w.fed then .ok s w
  else
    match w.blocksHere with
    | some (t, qs) =>
      match s.takeBlocks n o t w.skew.isSome qs w.blocks w.pastSkew with
      | none => .wait
      | some (s1, k, sk, l) =>
        let al := l.map (alignBlock (o.opx 0 % 64))
        let w1 := { w.noteSkew sk with fed := w.m + 1, blocks := k }
        if o.opcode = 0x20 then
          let xs := (al.map (·.1)).flatten
          let ds := (al.map (fun b => List.replicate 16 ((b.2 : Nat) : Int))).flatten
          .ok (s1.putLine n w w.m (xs ++ List.replicate (32 - xs.length) 0)) { w1 with segs := ((1, 0, w.m), ds) :: w.segs }
        else
          let held := if wgtLoads p w.m then
              ((List.range al.length).zip al).map (fun e => ((0, 0, e.1), ((e.2.2 : Nat) : Int) :: e.2.1))
                ++ w.segs.filter (fun e => e.1.1 != 0)
            else w.segs
          let row (i : Nat) : List Int := segFind held (0, 0, i)
          let xs := (List.range 32).map (fun i => (row i).getD (1 + p % 16) 0)
          let ds := (List.range 32).map (fun i => (row i).getD 0 0)
          .ok (s1.putLine n w w.m xs) { w1 with segs := ((1, 0, w.m), ds) :: held }
    | none =>
      let l := w.sourcesHere
      if !s.gatherReady n o.tin l then .wait
      else
        let (xs, s1) := s.gather n o.tin l
        .ok (s1.putLine n w w.m xs) { w with fed := w.m + 1 }

/-- Write samples of segments to the activation-buffer lines of the K-step, from the first line on and round (R212; the order of
the lines is the model's, notes/assumptions/46.md). -/
def State.putSegs (s : State) (n : Nat) (w : Walk) (xs : List Int) : State :=
  let per := 32 / w.op.fa
  let fmt := if w.op.fa = 2 then 1 else 0
  let lines := w.op.tileM * w.op.fa
  (List.range (ceilDiv xs.length per)).foldl (fun s i =>
    s.wr (abufAt n (w.line 0 + i % lines)) ((((xs.drop (per * i)).take per).map (fmtEnc fmt)).flatten)) s

/-- Bring in the segments that the position of the diagonal mapping does not hold (08 R212): through the activation buffer. -/
def State.gatherDiag (s : State) (n : Nat) (w : Walk) : GatherResult :=
  let o := w.op
  let p := w.b * o.tileM + w.m
  let (e, r, y) := o.diagPos p
  let new := o.newLines w.group w.ks p (w.m == 0)
  if !s.gatherReady n o.tin w.sourcesHere then .wait
  else
    let (s1, got) := new.foldl (fun (a : State × List ((Nat × Nat × Nat) × List Int)) key =>
      let (xs, s2) := a.1.gather n o.tin (o.segSrc r key)
      (s2, a.2 ++ [(key, xs)])) (s, [])
    let now := o.diagLines w.group w.ks e y
    .ok (s1.putSegs n w (got.map (·.2)).flatten)
      { w with segs := (w.segs.filter (fun g => now.contains g.1 && !new.contains g.1)) ++ got }

/-! ## The update of one accumulator row (05 R134 to R136, R143, R147) -/

/-- The K-step is the first that runs of its tile: every one before it is skipped. -/
def State.firstRun (s : State) (n : Nat) (w : Walk) : Bool := (List.range w.ks).all (fun k => kstepNull s n w.op w.group k)

/-- Value a lane starts from: its bias, or for BWD_WGT 0 or the element of T_OUT (05 R135, 13 R353). -/
def State.startVal (s : State) (n : Nat) (w : Walk) (m j : Nat) : Int :=
  let o := w.op
  if o.opcode = 0x21 then
    if nbit (o.opx 0) 6 && 64 * w.group + j < o.n then s.elem n o.tout 0 0 (((w.b * o.tileM + m : Nat) : Int)) (64 * w.group + j)
    else 0
  else sx 32 (s.rdLE (cbAt n (o.cb + w.group * (8 + 32 * o.s)) + 4 * j) 4)

/-- Set bits of lanes that satisfy a test. -/
def laneMask (l : List (Nat × Bool)) : Nat := l.foldl (fun m e => if e.2 then nset m e.1 else m) 0

/-- What an upset does to a lane in an update: it inverts a bit of the new value, or, where parity is not checked, a wrong select
gives the lane a free value that both residue sums follow (R149, notes/assumptions/5.md). -/
inductive LaneUpset where
  | flip (bit : Nat)
  | free (v : Int)

/-- Add the column sums to the accumulator row of position m, with the residue sums and saturation marks; `up` is the lane that an
upset meets. -/
def State.update (s : State) (n : Nat) (w : Walk) (start : Bool) (cols : List (Nat × Cell)) (up : Option (Nat × LaneUpset)) :
    State × Walk :=
  let k := s.core n
  let row := w.row0 + w.m
  let upd := cols.map (fun (e : Nat × Cell) =>
    let old := if start then s.startVal n w w.m e.1 else sx 32 (s.rdLE (accAt n row e.1) 4)
    let cell : Cell := match up with
      | some (l, .free v) => if l = e.1 then { p := v - old, r := mod7 (v - old), sat := false } else e.2
      | _ => e.2
    let exact := old + cell.p
    let new := sat32 exact
    let put := match up with
      | some (l, .flip b) => if l = e.1 then sx 32 ((toU 32 new) ^^^ 2 ^ (b % 32)) else new
      | _ => new
    (e.1, cell, old, put, decide (new ≠ exact)))
  let s1 := upd.foldl (fun s u => s.wr (accAt n row u.1) (bytesLE 4 (toU 32 u.2.2.2.1))) s
  let sum (l : List Nat) (j v : Nat) : List Nat :=
    let l := if l = [] then List.replicate 64 0 else l
    lset l j ((l.getD j 0 + v) % 7)
  let pres := upd.foldl (fun l u => sum l u.1 u.2.1.r) k.pres
  let ares := upd.foldl (fun l u => sum l u.1 (mod7 (u.2.2.2.1 - u.2.2.1))) k.ares
  let hit := laneMask (upd.map (fun u => (u.1, u.2.2.2.2)))
  let ghit := laneMask (upd.map (fun u => (u.1, u.2.1.sat)))
  let k1 := s1.core n
  (s1.putCore n { k1 with
    pres, ares, excl := k1.excl ||| hit ||| ghit
    openAt := match k1.openAt with
      | some t => some t
      | none => some s.now },
   { w with
     sats := if hit = 0 then w.sats else tput w.sats w.slot (tget 0 w.sats w.slot ||| hit)
     gsats := if ghit = 0 then w.gsats else tput w.gsats w.slot (tget 0 w.gsats w.slot ||| ghit) })

/-- An uncorrectable error under the biases or start values that position m of a tile starts from. -/
def State.startUe (s : State) (n : Nat) (w : Walk) (m : Nat) : Option Nat :=
  let o := w.op
  if o.opcode = 0x21 then
    if nbit (o.opx 0) 6 then
      s.placeUe n o.tout.pl (o.tout.off 0 0 (((w.b * o.tileM + m : Nat) : Int)) (64 * w.group)) 0 (4 * w.lanes)
    else none
  else s.firstUe (cbAt n (o.cb + w.group * (8 + 32 * o.s))) 256

/-- An uncorrectable error under what the update of a position reads: its activation lines, those of null and idle rows as well
(R137, 06 R157), and what a first update starts from. -/
def State.updateUe (s : State) (n : Nat) (w : Walk) (start : Bool) : Option Nat :=
  if s.poison = [] then none
  else
    (if w.op.diag then none else s.firstUe (abufAt n (w.line w.m)) (32 * w.op.fa)).or (if start then s.startUe n w w.m else none)

/-- Columns of the standard mapping at position m. -/
def State.stdCols (s : State) (n : Nat) (w : Walk) : List (Nat × Cell) :=
  let k := s.core n
  let xs := s.lineRows n w w.m
  let ds := segFind w.segs (1, 0, w.m)
  (List.range w.lanes).map (fun j =>
    (j, sumCells ((List.range (w.op.usedRows w.ks)).map (fun i => w.cell k i j (xs.getD i 0) (ds.getD i 0).toNat))))

/-- Columns of presentation t of the diagonal mapping at position m. -/
def State.diagCols (s : State) (n : Nat) (w : Walk) (t : Nat) : List (Nat × Cell) :=
  let o := w.op
  let k := s.core n
  let (e, r, y) := o.diagPos (w.b * o.tileM + w.m)
  (List.range (min 64 (o.tout.w - 64 * r))).map (fun j =>
    (j, sumCells ((List.range (o.usedRows w.ks)).map (fun i =>
      let el := 32 * w.ks + i
      let (ty, tx) := o.diagTap el
      let seg := segFind w.segs (o.diagChan w.group el, e, y * o.strideY + ty)
      w.diagCell k t i (seg.getD (j * o.strideX + tx) 0)))))

/-! ## The walk (07 R191) -/

/-- All K-steps of the tile are skipped: it holds its biases. -/
def State.allNull (s : State) (n : Nat) (w : Walk) : Bool := (List.range w.op.s).all (fun k => kstepNull s n w.op w.group k)

/-- The tile's present slot belongs to a tile that has failed. -/
def Walk.dead (w : Walk) : Bool := w.skip.contains w.slot

/-- A tile's last K-step has completed: its residue interval closes (05 R148), and its saturated lanes are counted. -/
def State.closeTile (s : State) (n : Nat) (w : Walk) : State :=
  let s1 := if s.allNull n w then
      (List.range w.rows).foldl (fun s m =>
        (List.range w.lanes).foldl (fun s j => s.wr (accAt n (w.row0 + m) j) (bytesLE 4 (toU 32 (s.startVal n w m j)))) s) s
    else s
  let s2 := s1.countSats n w
  let k := s2.core n
  s2.putCore n { k.newInterval with
    closed := k.closed ++ [{ walk := { w with counted := true }, tileEnd := true, pres := k.pres, ares := k.ares, excl := k.excl }] }

/-- The place after the present K-step of the present tile; the second part says that a unit has ended. -/
def Walk.nextPlace (w : Walk) : Option Walk × Bool :=
  let o := w.op
  let w1 := { w with m := 0, sub := 0, idle := 0, loadLeft := 0, loaded := false }
  if w.replay then (some { w1 with ks := w.ks + 1, fed := 0, segs := [] }, false)
  else if w.slot + 1 < (o.passGroups w.pass).length then (some { w1 with slot := w.slot + 1 }, false)
  else if w.ks + 1 < o.s then (some { w1 with slot := 0, ks := w.ks + 1, fed := 0, segs := [] }, false)
  else
    let w2 := { w1 with slot := 0, ks := 0, fed := 0, segs := [], skip := [], sats := [], gsats := [] }
    if w.pass + 1 < o.passes then (some { w2 with pass := w.pass + 1 }, true)
    else if w.b + 1 < o.blocks then (some { w2 with pass := 0, b := w.b + 1 }, true)
    else (none, true)

/-- The K-step is skipped: all its rows are null, by words that can be read. -/
def State.nullHere (s : State) (n : Nat) (w : Walk) : Bool :=
  kstepNull s n w.op w.group w.ks && (s.firstUe (cbAt n (w.op.cbWord w.group w.ks)) 1024).isNone

/-- The walk passes over the K-step it stands at: it is skipped, or the tile is finished. Tiles that read streams are still
fed. -/
def State.passesOver (s : State) (n : Nat) (w : Walk) : Bool := s.nullHere n w || (w.dead && !w.op.streamIn)

/-- The end of a unit: extra passes are counted at the end of a block (07 R192). -/
def State.unitEnd (s : State) (n : Nat) (w : Walk) : State :=
  let o := w.op
  let gReq := if o.ngrp = 0 then o.g else min o.ngrp o.g
  if w.pass + 1 = o.passes && !o.compat then
    s.bump64 (coreReg n 0x98) (ceilDiv o.g (max 1 o.gpp) - ceilDiv o.g (max 1 gReq))
  else s

/-- Rows that wait for comparison or for the drain (05 R145, R146). -/
def State.rowBusy (s : State) (n row : Nat) : Bool :=
  let k := s.core n
  k.closed.any (fun x => x.tileEnd && decide (x.walk.row0 ≤ row) && decide (row < x.walk.row0 + x.walk.rows))
    || (match k.replay with
        | some w => decide (w.row0 ≤ row) && decide (row < w.row0 + w.rows)
        | none => false)
    || k.drain.any (fun j => j.tile && decide (j.row0 + j.next ≤ row) && decide (row < j.row0 + j.rows))

/-- The last K-step of a tile without any K-step that runs: the tile waits until the drain has emptied its rows (05 R145). -/
def State.tileHeld (s : State) (n : Nat) (w : Walk) : Bool :=
  w.ks + 1 == w.op.s && !w.dead && s.allNull n w && !w.replay && (List.range w.rows).any (fun m => s.rowBusy n (w.row0 + m))

/-- Leave the K-step: the tile closes after its last one, and the walk moves to its next place. -/
def State.leave (s : State) (n : Nat) (w : Walk) : State × Option Walk × Bool :=
  let s1 := if w.ks + 1 = w.op.s && !w.dead then
      match (if s.allNull n w then s.startUe n w 0 else none) with
      | some a => s.tileFails n w 0x11 a
      | none => s.closeTile n w
    else s
  let (w1, e) := w.nextPlace
  (if e then s1.unitEnd n w else s1, w1, e)

/-- The detail of a codebook word's FORMAT fault (06 R163), and its context stops. -/
def State.badStop (s : State) (n : Nat) (w : Walk) (word check : Nat) : State :=
  s.stopCtx n w.op.ctx 0x32 (word % 2 ^ 14 + check * 2 ^ 16 + w.op.index % 65536 * 2 ^ 32)

/-- Where a walk comes to: a K-step that runs or must wait (and whether a unit has ended on the way), its end, or a stop. -/
inductive Arrival where
  | place (s : State) (w : Walk) (e : Bool)
  | over (s : State)
  | stop (s : State)

/-- From the place the walk has come to, pass over K-steps that do not run; skipped ones are checked and counted (R163,
NULL_SKIPS). -/
def State.arrive (s : State) (n : Nat) : Nat → Walk → Bool → Arrival
  | 0, w, e => .place s w e
  | fuel + 1, w, e =>
    if w.op.s ≤ w.ks || !s.passesOver n w || s.tileHeld n w then .place s w e
    else
      match (if w.dead then none else s.badWord n w) with
      | some (i, c) => .stop (s.badStop n w i c)
      | none =>
        let s1 := if w.dead then s else s.bump64 (coreReg n 0x88) 1
        match s1.leave n w with
        | (s2, some w1, e1) => if s2.coreFenced n then .stop s2 else State.arrive s2 n fuel w1 (e || e1)
        | (s2, none, _) => if s2.coreFenced n then .stop s2 else .over s2

/-- K-steps that a walk can pass over at most. -/
def Walk.fuel (w : Walk) : Nat := w.op.blocks * max 1 w.op.g * max 1 w.op.s + 1

/-- Put a walk back. -/
def State.putWalk (s : State) (n : Nat) (w : Walk) : State :=
  let k := s.core n
  if w.replay then s.putCore n { k with replay := some w, waiting := false }
  else s.putCore n { k with walks := tput k.walks w.op.ctx w, waiting := false }

/-- A core cycle has completed (01 R24, R26). -/
def State.paceCycle (s : State) (n : Nat) : State :=
  let p := s.pace
  let c := tget PaceCore.init p.cores n
  { s with pace := { p with cores := tput p.cores n { c with
    usCycles := c.usCycles + 1, waited := c.waited || c.probe, done := (c.done + 1) % 2 ^ 64, lastWork := s.now, probe := false } } }

/-- The walk of an instruction is over: its inputs end, and the instruction issued behind it begins (07 R189). -/
def State.walkOver (s : State) (n : Nat) (w : Walk) : State :=
  let c := w.op.ctx
  let s1 := s.endInputs n w.op w.skew.isSome
  let k := s1.core n
  let s2 := s1.putCore n { k with walks := tdel k.walks c, queued := tdel k.queued c }
  (match tfind k.queued c with
    | some o => s2.startOp n c o
    | none => s2).pick n

/-! ## Code and codebook registers (05 R142) -/

/-- The K-step a walk stands at. -/
def Walk.place (w : Walk) : KPlace := { ctx := w.op.ctx, index := w.op.index, b := w.b, pass := w.pass, ks := w.ks, slot := w.slot }

/-- Core cycles of the load of a K-step. -/
def Op.loadLen (o : Op) : Nat := loadCycles (if o.opcode = 0x21 then 3 else o.wfmt)

/-- The first K-step that runs from a place on. -/
def State.seek (s : State) (n : Nat) : Nat → Walk → Option Walk
  | 0, _ => none
  | fuel + 1, w =>
    if w.op.s ≤ w.ks then none
    else if s.passesOver n w then
      match w.nextPlace.1 with
      | some v => State.seek s n fuel v
      | none => none
    else some w

/-- The K-step that follows the one a walk runs: of the walk, or of the instruction issued behind it. -/
def State.following (s : State) (n : Nat) (w : Walk) : Option Walk :=
  match w.nextPlace.1.bind (fun v => s.seek n w.fuel v) with
  | some v => some v
  | none =>
    if w.replay then none
    else
      match tfind (s.core n).queued w.op.ctx with
      | some o => if o.opcode = 0x21 then none else s.seek n (Walk.start o).fuel (Walk.start o)
      | none => none

/-- The load of the following K-step into the shadow registers has run its cycles. Codes that a stream has not delivered are waited
for; a load that fails is made again, and reported, when its K-step's turn comes (notes/assumptions/45.md). -/
def State.prefetch (s : State) (n : Nat) (w : Walk) : State × Walk :=
  match s.following n w with
  | none => (s, { w with loadLeft := 0 })
  | some v =>
    match s.loadK n v with
    | .ok cs cb took s1 =>
      (s1.putCore n { s1.core n with codesNext := cs, cbsNext := cb, ahead := some v.place },
       { w with loadLeft := 0, took := if v.op.opcode = 0x21 then took else w.took })
    | .wait => (s, { w with loadLeft := 1 })
    | _ => (s, { w with loadLeft := 0 })

/-- One cycle of that load. -/
def State.shadowCycle (s : State) (n : Nat) (w : Walk) : State × Walk :=
  if w.loadLeft = 0 then (s, w)
  else if w.loadLeft = 1 then s.prefetch n w
  else (s, { w with loadLeft := w.loadLeft - 1 })

/-- The K-step begins with codes and codebooks in the live registers, and the load of the following one with it. -/
def State.beginK (s : State) (n : Nat) (w : Walk) (codes cbs : List Byte) : State × Walk :=
  let w1 := { w with loaded := true, loadLeft := w.op.loadLen }
  ((s.putCore n { s.core n with codes, cbs, ahead := none }).putWalk n w1, w1)

/-- The K-step has run its cycles: on to the next. -/
def State.kstepDone (s : State) (n : Nat) (w : Walk) : State :=
  let w := { w with took := tdel w.took w.step }
  let (s1, w1, e1) := s.leave n w
  if s1.coreFenced n then s1
  else
    match w1 with
    | none => s1.walkOver n w
    | some w1 =>
      match s1.arrive n w1.fuel w1 e1 with
      | .stop s2 => s2
      | .over s2 => s2.walkOver n w
      | .place s2 w2 e => if e then (s2.putWalk n w2).pick n else s2.putWalk n w2

/-- Position m has been presented in full. -/
def State.positionDone (s : State) (n : Nat) (w : Walk) : State :=
  let w1 := { w with m := w.m + 1, sub := 0 }
  if w1.m < w.rows then s.putWalk n w1
  else
    let used := w.rows * w.op.cyclesPer
    let l := w.op.loadLen
    if used < l then s.putWalk n { w1 with idle := l - used } else s.kstepDone n w1

/-- One cycle that presents a position and updates its row. A tile that has failed is only fed. -/
def State.present (s : State) (n : Nat) (w : Walk) (start : Bool) (cols : State → List (Nat × Cell)) (up : Option (Nat × LaneUpset))
    (next : State → Walk → State) : State :=
  if w.dead then (next s w).paceCycle n
  else
    match s.updateUe n w start with
    | some a => s.tileFails n w 0x11 a
    | none =>
      let (s1, w1) := s.update n w start (cols s) up
      (next s1 w1).paceCycle n

/-- One cycle of a K-step whose codes are in place. -/
def State.runCycle (s : State) (n : Nat) (w : Walk) (up : Option (Nat × LaneUpset)) : State :=
  let (s0, w) := s.shadowCycle n w
  let s := s0.putWalk n w
  let o := w.op
  if 0 < w.idle then
    let w1 := { w with idle := w.idle - 1 }
    if w1.idle = 0 && w.rows ≤ w.m then (s.kstepDone n w1).paceCycle n else (s.putWalk n w1).paceCycle n
  else if !w.dead && !w.replay && s.rowBusy n (w.row0 + w.m) then s.coreWaits n
  else
    let ue := if w.sub = 0 then s.gatherUe n w else none
    match (if w.dead then none else ue) with
    | some a => s.tileFails n w 0x11 a
    | none =>
      if o.diag then
        let present (s : State) (w : Walk) (t : Nat) : State :=
          s.present n w (s.firstRun n w && t == 0) (fun s => s.diagCols n w t) up (fun s w =>
            if t + 1 < o.cyclesPer then s.putWalk n { w with sub := t + 2 } else s.positionDone n w)
        if w.sub = 0 then
          match s.gatherDiag n w with
          | .wait => s.coreWaits n
          | .ok s1 w1 =>
            let extra := o.diagCycles w.group w.ks (w.b * o.tileM + w.m) (w.m == 0) - o.cyclesPer
            if extra = 0 then present s1 w1 0 else (s1.putWalk n { w1 with sub := 1, idle := extra - 1 }).paceCycle n
        else present s w (w.sub - 1)
      else
        let finish (s : State) (w : Walk) : State :=
          s.present n w (s.firstRun n w) (fun s => s.stdCols n w) up (fun s w => s.positionDone n w)
        if w.sub = 0 then
          match s.gatherStd n w with
          | .wait => s.coreWaits n
          | .ok s1 w1 =>
            -- what a failed tile's position has fetched in error stays in error for the other tiles of the pass
            let s2 := if ue.isSome then s1.poisonLine n w else s1
            if o.cyclesPer = 1 then finish s2 w1 else (s2.putWalk n { w1 with sub := 1 }).paceCycle n
        else finish s w

/-- One cycle of a walk. -/
def State.walkCycle (s : State) (n : Nat) (w : Walk) (up : Option (Nat × LaneUpset)) : State :=
  let o := w.op
  if w.replay && o.s ≤ w.ks then s.coreWaits n
  else if w.loaded then s.runCycle n w up
  else if !w.replay && o.dep && !w.begun && !s.ctxDrained n o.ctx o.outSlots then s.coreWaits n
  else
    match (if w.loadLeft = 0 && w.m = 0 && w.sub = 0 then s.arrive n w.fuel w false else .place s w false) with
    | .stop s1 => s1
    | .over s1 => s1.walkOver n w
    | .place s1 w1 e =>
      let s2 := s1.putWalk n w1
      let s3 := if e then s2.pick n else s2
      if w1.replay && o.s ≤ w1.ks then s3
      else if !w1.replay && (s3.core n).cur ≠ o.ctx then s3
      else if w1.m = 0 && w1.sub = 0 && s3.passesOver n w1 then s3.coreWaits n
      else if w1.loadLeft = 0 && (s3.core n).ahead = some w1.place then
        let (s4, w2) := s3.beginK n w1 (s3.core n).codesNext (s3.core n).cbsNext
        s4.runCycle n w2 up
      else
        let left := (if w1.loadLeft = 0 then o.loadLen else w1.loadLeft) - 1
        if left ≠ 0 then (s3.putWalk n { w1 with loadLeft := left }).paceCycle n
        else
          match s3.loadK n w1 with
          | .ok cs cb took s4 => (s4.beginK n { w1 with took } cs cb).1.paceCycle n
          | .wait => (s3.putWalk n { w1 with loadLeft := 1 }).coreWaits n
          | .bad i c => s3.badStop n w1 i c
          | .ue a =>
            if w1.dead then (s3.beginK n w1 [] []).1.paceCycle n
            else (s3.putWalk n { w1 with loadLeft := 0 }).tileFails n w1 0x11 a

/-- The walk that has the array: a replay excludes every other (R370). -/
def State.arrayWalk (s : State) (n : Nat) : Option Walk :=
  let k := s.core n
  match k.replay with
  | some w => some w
  | none => tfind k.walks k.cur

/-- RES_LAST (Table 5.10). -/
def State.resLast (s : State) (n lane ctx close : Nat) : Nat :=
  lane % 64 + ctx % 4 * 64 + close * 256 + 1024 + (s.rget (coreReg n 0x80)).toNat % 65536 * 65536

/-- The detail of a RESIDUE record (R150). -/
def Walk.detail (w : Walk) (last : Nat) : Nat :=
  last + w.op.index % 65536 * 2 ^ 32 + (w.b * w.op.tileM) % 65536 * 2 ^ 48

/-- A residue or parity failure (R150): counted, recorded in RES_LAST, and answered by R370. -/
def State.residueFails (s : State) (n : Nat) (w : Walk) (lane close : Nat) : State :=
  let v := s.resLast n lane w.op.ctx close
  ((s.bumpCore n (if close = 3 then 3 else 2)).rput (coreReg n 0x44) (wd v)).tileFails n w 0x20 (w.detail v)

/-- A tile of the walk is on the array and has not failed. -/
def Walk.inTile (w : Walk) : Bool := w.begun && !w.dead && decide (w.ks < w.op.s)

/-- A cell of a lane selects in the next cycle of the walk. -/
def Walk.selects (w : Walk) (lane : Nat) : Bool := w.loaded && w.idle == 0 && !w.dead && decide (lane < w.lanes)

/-- CORE_CYCLE: one handshake of the array of core n, or what an upset in it does. An error of a register that no cell in use selects
with is not seen. -/
def coreCycle (n : Nat) (u : Upset) (s : State) : State :=
  if !s.coreRuns n then s
  else
    let run (s : State) (up : Option (Nat × LaneUpset)) : State := match s.arrayWalk n with
      | some w => s.walkCycle n w up
      | none => s.coreWaits n
    match u with
    | .lockstep => s.lockstep n
    | .ecc true a =>
      match s.arrayWalk n with
      | some w => if w.inTile then s.tileFails n w 0x11 a else s.walkCycle n w none
      | none => s
    | .ecc false a => run (s.raiseEcc 0x10 a) none
    | .parity lane =>
      match s.arrayWalk n with
      | some w =>
        if !w.selects lane || (!w.replay && s.rowBusy n (w.row0 + w.m)) then s.walkCycle n w none
        else if bit (s.rget (coreReg n 0x40)) 1 then s.residueFails n w lane 3
        else
          let (v, s1) := s.freeW
          s1.walkCycle n w (some (lane, .free (sx 32 v.toNat)))
      | none => s.coreWaits n
    | .flip lane b => run s (some (lane, .flip b))
    | .none => run s none

/-- CORE_CYCLE (05 R134). -/
def execCoreCycle (t core : Nat) (upset : Upset) (s : State) : Host.Outcome State Fault Refusal :=
  .next (coreCycle core upset (s.advance t))

end Sys2Proof.Machine
end

