-- ==== Sys2Proof/Machine/HostLink.lean ====
section
/-! DEFINITION. The host link (spec/12_host_link_and_dma.md R310 to R322): link state, configuration requests, BAR2 accesses,
and the completions of outbound reads. -/

namespace Sys2Proof.Machine

/-! ## Outbound reads (R321, R322) -/

/-- An outbound read ends, with its bytes or with the cause of a bus error (Table 12.10). -/
def State.endRead (s : State) (r : HostRead) (bad : Option Nat) (bs : List Byte) : State :=
  let s1 := { s with host := { s.host with reads := s.host.reads.filter (fun x => x.tag != r.tag) } }
  match s1.findReq r.request with
  | none => s1
  | some q => (s1.dropReq r.request).deliver q bs (match bad with
      | some c => Ended.bus c
      | none => Ended.good)

/-- The cause of a completion; data of another length than asked for is malformed. -/
def cplCause (r : HostRead) (st : CplStatus) (n : Nat) : Option Nat :=
  match st with
  | .ok => if n = r.len then none else some 5
  | .ur => some 1
  | .ca => some 2
  | .poisoned => some 3
  | .malformed => some 5

/-- PCIE_COMPLETION: the completion of an outstanding read arrives; one that answers no request changes nothing. -/
def pcieCompletion (tag : Nat) (st : CplStatus) (data : List Byte) (s : State) : State :=
  match s.host.reads.find? (fun r => r.tag == tag) with
  | none => s
  | some r => if s.host.linkUp then (s.bump64 0x10_0180 data.length).endRead r (cplCause r st data.length) data else s

/-- The lower bound of a Completion Timeout range, in ns: 50 µs at reset (R322); the other ranges are those of the PCI
Express specification (notes/assumptions/12.md). -/
def ctoNs (range : Nat) : Nat :=
  match range with
  | 0 | 1 => 50_000
  | 2 => 1_000_000
  | 5 => 16_000_000
  | 6 => 65_000_000
  | 9 => 260_000_000
  | 10 => 1_000_000_000
  | 13 => 4_000_000_000
  | 14 => 17_000_000_000
  | _ => 50_000

/-- COMPLETION_TIMEOUT. -/
def completionTimeout (tag : Nat) (s : State) : State :=
  match s.host.reads.find? (fun r => r.tag == tag) with
  | none => s
  | some r =>
    if s.host.cfg.ctoDisable || s.now < r.since + ctoNs s.host.cfg.ctoRange then s else (s.bumpHost 5).endRead r (some 4) []

/-! ## The link (R312 to R314) -/

/-- The PCIe PLL runs and its island is clocked: the link can train (02 Table 2.2 step 3, 15 R404). -/
def State.linkMayTrain (s : State) : Bool := s.boot.sensed && s.islandRuns 2 2

def linkWidthOk (w : Nat) : Bool := w == 1 || w == 2 || w == 4 || w == 8 || w == 16

/-- LINK_UP: the data link layer comes up at a generation and width. -/
def linkUp (gen width : Nat) (s : State) : State :=
  if !s.linkMayTrain || s.host.linkUp || gen = 0 || 5 < gen || !linkWidthOk width then s
  else ({ s with host := { s.host with linkUp := true, gen, width } }).noteEvt s.evtStatus

/-- Reads of BAR2 that have not been answered are not answered any more, and messages that waited are lost. -/
def State.dropInbound (s : State) : State :=
  let s1 := s.dropAux (fun a => a.use.bar2Path == some 3 && !a.write)
  { s1 with host := { s1.host with msgs := [] } }

/-- The link goes down: the configuration space returns to its reset values, and every outstanding read is a bus error. -/
def State.linkDown (s : State) : State :=
  if !s.host.linkUp then s
  else
    let s1 := ({ s with host := { s.host with linkUp := false, gen := 0, width := 0, cfg := CfgSpace.init } }).dropInbound
    s.host.reads.foldl (fun s r => s.endRead r (some 6) []) (s1.bumpHost 4)

/-- HOT_RESET: the configuration space returns to its reset values; everything outside it keeps running. -/
def hotReset (s : State) : State :=
  if s.host.linkUp then ({ s with host := { s.host with cfg := CfgSpace.init } }).dropInbound else s

/-- D3HOT: into D3hot, or back to D0. -/
def d3hot (enter : Bool) (s : State) : State :=
  if s.host.linkUp && !s.boot.rrs then ({ s with host := { s.host with cfg := { s.host.cfg with d3 := enter } } }).flushMsix else s

/-! ## Configuration requests (R311, 02 R40) -/

/-- A DWORD of the configuration header: that of a PCI function with the values of Table 12.1; what the table does not give is a
free value (notes/assumptions/12.md). -/
def State.cfgRead (s : State) (off : Nat) : Nat × State :=
  let c := s.host.cfg
  match off with
  | 0x00 => (Config.pciVendor.toNat + 0x9440 * 2 ^ 16, s)
  | 0x04 => (2 * b2n c.memEn + 4 * b2n c.busMaster + 2 ^ 20, s)
  | 0x08 => (0x0480_0001, s)
  | 0x0C => (0, s)
  | 0x10 => (c.bar0 % 2 ^ 32 + 4, s)
  | 0x14 => (c.bar0 / 2 ^ 32, s)
  | 0x18 => (c.bar2 % 2 ^ 32 + 12, s)
  | 0x1C => (c.bar2 / 2 ^ 32, s)
  | 0x20 | 0x24 | 0x30 | 0x3C => (0, s)
  | 0x2C => ((s.fuse 49).toNat, s)
  | _ => let (w, s1) := s.freeW; (w.toNat, s1)

/-- IDs of the capabilities of Table 12.1, by the PCI Express specification (notes/assumptions/12.md): Power Management, PCI
Express, MSI-X; and extended: AER, Device Serial Number, Secondary PCI Express, Data Link Feature, Physical Layer 16.0 GT/s,
Lane Margining, Physical Layer 32.0 GT/s. -/
def capIds (extended : Bool) : List Nat := if extended then [0x01, 0x03, 0x19, 0x25, 0x26, 0x27, 0x2A] else [0x01, 0x10, 0x11]

/-- A DWORD of a capability, as the bits that the spec gives and their values, at the bit places of the PCI Express
specification: No_Soft_Reset and the power state; the sizes, ranges, speeds and widths of R310 and R311, and the control
fields as written; the MSI-X table of R319; the serial number; the poisoned TLP of R318. -/
def State.capWord (s : State) (extended : Bool) (id off : Nat) : Nat × Nat :=
  let c := s.host.cfg
  if off = 0 && (extended || id != 0x10 && id != 0x11) then (if extended then 0xFFFF else 0xFF, id)
  else if extended then
    match id, off with
    | 0x01, 4 => (2 ^ 12, b2n c.poisonedTlp * 2 ^ 12)
    | 0x03, 4 => (m32, (s.rget 0x100).toNat)
    | 0x03, 8 => (m32, (s.rget 0x104).toNat)
    | _, _ => (0, 0)
  else
    match id, off with
    | 0x01, 4 => (0xB, b2n c.d3 * 3 + 8)
    | 0x10, 0x00 => (0x00FF_00FF, 0x0002_0010)
    | 0x10, 0x04 => (0x1000_0007, 2)
    | 0x10, 0x08 => (0x70F0, b2n c.relaxed * 16 + c.mps * 32 + c.mrrs * 4096)
    | 0x10, 0x0C => (0xFFF, 5 + 16 * 16 + 2 * 1024)
    | 0x10, 0x10 => (0x03FF_0003, c.aspm + s.host.gen * 65536 + s.host.width * 2 ^ 20)
    | 0x10, 0x24 => (0x3_001F, 0x3_001F)
    | 0x10, 0x28 => (0x1F, c.ctoRange + 16 * b2n c.ctoDisable)
    | 0x10, 0x2C => (0x7F_FEFE, 0x1F_3E3E)
    | 0x11, 0x00 => (0xC7FF_00FF, 0x11 + 255 * 65536 + b2n c.funcMask * 2 ^ 30 + b2n c.msixEn * 2 ^ 31)
    | 0x11, 0x04 => (m32, 0x10_8000)
    | 0x11, 0x08 => (m32, 0x10_9000)
    | _, _ => (0, 0)

/-- Read a DWORD of a capability: bits that the spec does not give are free; a capability that is absent is not found. -/
def State.capRead (s : State) (extended : Bool) (id off : Nat) : State :=
  if !(capIds extended).contains id then s.out (.cfgAbsent id)
  else
    let (mask, v) := s.capWord extended id off
    let (w, s1) := s.freeW
    ((s1.bump64 0x10_0188 4).out (.cfgReply (some ((w.toNat &&& (m32 - mask)) ||| v))))

/-- PCIE_CONFIG_REQUEST: answered with RRS from step 3 until step 9 or HELD_NO_XO; otherwise a read, or a write of fields that
the device acts on. A reply to a read and a write each carry 4 bytes. -/
def pcieConfig (op : CfgOp) (s : State) : State :=
  if !s.host.linkUp then s
  else if s.boot.rrs then s.out (.cfgReply none)
  else
    let h := s.host
    let put (c : CfgSpace) : State :=
      (({ s with host := { h with cfg := c } }).bump64 0x10_0180 4).flushMsix.out (.cfgReply (some 0))
    match op with
    | .read off => let (v, s1) := s.cfgRead off; (s1.bump64 0x10_0188 4).out (.cfgReply (some v))
    | .capability extended id off => s.capRead extended id off
    | .command m b => put { h.cfg with memEn := m, busMaster := b }
    | .deviceControl r p q => put { h.cfg with relaxed := r, mps := p, mrrs := q }
    | .deviceControl2 r d => put { h.cfg with ctoRange := r, ctoDisable := d }
    | .linkControl a => put { h.cfg with aspm := a }
    | .aerClear => put { h.cfg with poisonedTlp := false }
    | .msixControl e m => put { h.cfg with msixEn := e, funcMask := m }
    | .bar0 b => put { h.cfg with bar0 := b / 2 ^ 26 * 2 ^ 26 }
    | .bar2 b => put { h.cfg with bar2 := b / 2 ^ 36 * 2 ^ 36 }

/-! ## BAR2 (R317, R318, 02 R40, R56, R61) -/

/-- Memory requests of the host reach the BARs. -/
def State.barUp (s : State) : Bool := s.host.linkUp && s.host.cfg.memEn && !s.host.cfg.d3

/-- The staging region in device memory (02 R42). -/
def stageBase : Nat := 0x7_F000_0000

/-- BAR2 and STAGE_DATA reach the staging region: an image is awaited and PUSH_GO has not been accepted. -/
def State.stagingOpen (s : State) : Bool :=
  !s.boot.pushed &&
    match s.boot.phase with
    | .pushWait | .recoveryWait => true
    | .rearming => match s.boot.rearm with
      | some r => r.step == .image && decide (2 ≤ r.src)
      | none => false
    | _ => false

/-- Memory-side die of an address, and whether it is powered down: in FINDER every die but that of FINDER_DIE (16 R408), up to
step 4 of a re-arm. -/
def State.memDieOff (s : State) (a : Nat) : Bool :=
  let d := if a < 0x8_4000_0000 then (a - 0x8_0000_0000) / 0x40_0000 / 36 else (a - 0x8_4000_0000) / 0x100_0000
  decide (0x8_0000_0000 ≤ a) && s.boot.profile == 2 && d != fld (s.rget 0x20) 2 2 &&
    match s.boot.rearm with
    | some r => r.step == .drain || r.step == .ports
    | none => true

/-- The BAR2 offset reaches the memory of Table 12.4. -/
def State.bar2Mem (s : State) (off n : Nat) : Bool := s.past14 && devRangeOk off n && !s.memDieOff off

/-- A read at a BAR2 offset on a path: of the staging region at once, of memory in its turn (R318); anything else reads 0. -/
def State.bar2Get (s : State) (path off n : Nat) (st : ReadStatus) : State :=
  let put (s : State) (bs : List Byte) (ep : Bool) : State :=
    (if path = 3 then s.bump64 0x10_0188 n else s).out (.readBytes path off bs ep)
  if n = 0 then put s [] false
  else if s.stagingOpen && off + n ≤ 0x1000_0000 then
    let a := stageBase + off
    match st with
    | .ue => put (s.raiseEcc 0x11 a) (s.rd a n) true
    | _ => put s (s.rd a n) false
  else if s.bar2Mem off n then s.addAux (.bar2 path off) false false false off n []
  else put (if s.past14 then s.bumpHost 1 else s) (List.replicate n 0) false

/-- A write at a BAR2 offset on a path. -/
def State.bar2Put (s : State) (path off : Nat) (bs : List Byte) : State :=
  if bs = [] then s
  else if s.stagingOpen && off + bs.length ≤ 0x1000_0000 then
    (State.bumpN (fun s => s.bumpMem 6) (hbmTags (stageBase + off) bs.length true).1 s).wr (stageBase + off) bs
  else if s.bar2Mem off bs.length then s.addAux (.bar2 path off) true false false off bs.length bs
  else if s.past14 then s.bumpHost 1 else s

/-- BAR2_READ; `st` is what the memory reports of a read of the staging region. -/
def bar2Read (off n : Nat) (st : ReadStatus) (s : State) : State :=
  if !s.barUp then (if s.host.linkUp then s.out (.unsupported off) else s) else s.bar2Get 3 off n st

/-- BAR2_WRITE; `ep` is a poisoned TLP, which is dropped and reported through AER. -/
def bar2Write (off : Nat) (bs : List Byte) (ep : Bool) (s : State) : State :=
  if !s.barUp then s
  else
    let s0 := s.bump64 0x10_0180 bs.length
    if ep then { s0 with host := { s0.host with cfg := { s0.host.cfg with poisonedTlp := true } } } else s0.bar2Put 3 off bs

/-- BAR0_BAD: a BAR0 access of a form that is not accepted (R316); a write of `len` bytes. -/
def bar0Bad (addr : Nat) (write : Bool) (len : Nat) (s : State) : State :=
  if !s.host.linkUp then s
  else if write then (if s.barUp then (s.bump64 0x10_0180 len).bumpHost 0 else s)
  else
    let s1 := if s.barUp then s.bumpHost 0 else s
    s1.out (.unsupported addr)

/-! ## The commands -/

/-- LINK_UP (12 R310). -/
def execLinkUp (t gen width : Nat) (s : State) : Host.Outcome State Fault Refusal := .next (linkUp gen width (s.advance t))
/-- LINK_DOWN (12 R313). -/
def execLinkDown (t : Nat) (s : State) : Host.Outcome State Fault Refusal := .next (s.advance t).linkDown
/-- HOT_RESET (12 R313). -/
def execHotReset (t : Nat) (s : State) : Host.Outcome State Fault Refusal := .next (hotReset (s.advance t))
/-- D3HOT (12 R312). -/
def execD3hot (t : Nat) (enter : Bool) (s : State) : Host.Outcome State Fault Refusal := .next (d3hot enter (s.advance t))
/-- PCIE_CONFIG_REQUEST (02 R40). -/
def execPcieConfigRequest (t : Nat) (op : CfgOp) (s : State) : Host.Outcome State Fault Refusal :=
  .next (pcieConfig op (s.advance t))
/-- PCIE_COMPLETION (12 R322). -/
def execPcieCompletion (t tag : Nat) (status : CplStatus) (data : List Byte) (s : State) : Host.Outcome State Fault Refusal :=
  .next (pcieCompletion tag status data (s.advance t))
/-- COMPLETION_TIMEOUT (12 R322). -/
def execCompletionTimeout (t tag : Nat) (s : State) : Host.Outcome State Fault Refusal :=
  .next (completionTimeout tag (s.advance t))
/-- BAR2_READ (12 R318). -/
def execBar2Read (t addr len : Nat) (status : ReadStatus) (s : State) : Host.Outcome State Fault Refusal :=
  .next (bar2Read addr len status (s.advance t))
/-- BAR2_WRITE (12 R318). -/
def execBar2Write (t addr : Nat) (data : List Byte) (ep : Bool) (s : State) : Host.Outcome State Fault Refusal :=
  .next (bar2Write addr data ep (s.advance t))
/-- BAR0_BAD (12 R316). -/
def execBar0Bad (t addr : Nat) (write : Bool) (len : Nat) (s : State) : Host.Outcome State Fault Refusal :=
  .next (bar0Bad addr write len (s.advance t))

end Sys2Proof.Machine
end

