-- ==== Sys2Proof/Machine/Checks.lean ====
section
/-! DEFINITION. The load-time checks of step 13 (spec/02_leneno_image_and_start.md R481), group by group: each answers its first
failure, or nothing. -/

namespace Sys2Proof.Machine

/-- The first answer of a list of checks. -/
def firstSome {α β : Type} (f : α → Option β) : List α → Option β
  | [] => none
  | x :: r => match f x with
    | some y => some y
    | none => firstSome f r

/-- Two intervals share a byte. -/
def overlaps (a an b bn : Nat) : Bool := decide (a < b + bn) && decide (b < a + an)

/-! ## Ports (03 R67 to R69, Table 3.10; 09 Table 9.8) -/

/-- The rate in Mbps or Msym/s from RATE and FINE. -/
def rateOf (rate fine : Nat) : Nat := 25 * rate - 5 * fine

/-- Maximum rate of a PHY and SPEC (03 Table 3.1); 0 where there is none. -/
def phyMax (phy spec : Nat) : Nat :=
  match phy, spec with
  | 1, 0 => 2500 | 1, 1 => 4500 | 1, 2 => 6000 | 2, 0 => 2500 | 2, 1 => 5000 | _, _ => 0

/-- PHY, LANES, SPEC, RATE and FINE name a configuration of Table 3.1. -/
def phyOk (c : Word) (fine : Nat) : Bool :=
  let rate := rateOf (fld c 8 8) fine
  fld c 2 2 != 3 && decide (4 ≤ fld c 8 8) && decide (fld c 8 8 ≤ 240) && decide (fine ≤ 4) && decide (80 ≤ rate)
    && decide (rate ≤ phyMax (fld c 0 2) (fld c 6 2))

/-- A lane map is valid for a number of logical lanes: distinct physical lanes that the port has (R69). -/
def laneMapOk (m : Word) (phy lanes : Nat) : Bool :=
  let ph := (List.range lanes).map (fun i => fld m (3 * i) 3)
  ph.all (fun x => decide (x < if phy = 2 then 3 else 4)) && decide (ph.eraseDups.length = lanes)

/-- Port n can carry a source: its PHY is enabled with a valid configuration, it is no other port's gang member, and every
port of its gang has all its lanes and a valid map. -/
def State.portOk (s : State) (n : Nat) : Bool :=
  let c := s.portCfg n
  let g := fld c 4 2
  let map (k : Nat) : Word := s.rget (0x8_0000 + 0x1000 * k + 4)
  phyOk c (fld c 18 3) && s.leadOf n == n && (g == 0 || (g == 1 && n % 2 == 0) || (g == 2 && n % 4 == 0))
    && laneMapOk (map n) (fld c 0 2) (cfgLanes c)
    && (List.range (s.gangSize n)).all (fun i => s.gangSize n == 1
      || (fld (s.portCfg (n + i)) 2 2 == 2 && (i == 0 || fld (s.portCfg (n + i)) 4 2 == 0)
        && laneMapOk (map (n + i)) (fld c 0 2) (if fld c 0 2 = 2 then 3 else 4)))

/-! ## Group 0: the Source Table (03 R77, Table 3.4) -/

/-- Reserved bits of an entry were written with 0. -/
def State.srcReserved (s : State) (i : Nat) : Bool :=
  let w (k : Nat) : Nat := (s.rget (srcAddr i k)).toNat
  w 0 &&& 0xF000_8000 == 0 && w 2 &&& 0xFE00_0000 == 0 && w 6 &&& 0xF0F0_0000 == 0 && w 10 &&& 0x8000 == 0
    && (List.range 5).all (fun k => w (11 + k) == 0)

/-- The plates of a size lie within their space, at a multiple of 4 KiB. -/
def State.platesOk (s : State) (i size : Nat) : Bool :=
  let e := s.src i
  e.plateBase % 4096 == 0 && fld (s.rget (srcAddr i 5)) 4 27 == 0
    && decide (e.plateBase + e.plateCount * e.plateStride * 4096 + size ≤ if e.plateHost then 2 ^ 34 else 2 ^ 35)

/-- The virtual channels of a source, with their port. -/
def SrcEntry.vcs (e : SrcEntry) : List (Nat × Nat) := (List.range (min e.exposures 4)).map (fun x => (e.port, (e.vc + x) % 16))

def State.rule1 (s : State) (i : Nat) : Bool :=
  let e := s.src i
  e.kind != 3 && decide (1 ≤ e.exposures) && decide (e.exposures ≤ 4) && (e.trig == 0 || decide (4 ≤ e.trig)) && s.srcReserved i
def SrcEntry.shapeOk (e : SrcEntry) : Bool :=
  match dtGroup e.dt with
  | some (g, _) => decide (1 ≤ e.width) && decide (e.width ≤ 16384) && decide (1 ≤ e.height) && decide (e.height ≤ 16384) && e.width % g == 0
  | none => false
def State.rule4 (s : State) (srcs : List Nat) (i : Nat) : Bool :=
  srcs.all (fun j => j == i || (s.src j).kind == 2 || (s.src j).vcs.all (fun v => !(s.src i).vcs.contains v))
def State.rule5 (s : State) (srcs : List Nat) (i : Nat) : Bool :=
  let earlier (p : SrcEntry → Bool) : Nat := (srcs.filter (fun j => decide (j < i) && p (s.src j))).length
  ((s.src i).kind != 1 || earlier (fun e => e.kind == 1) == 0) && (!(s.src i).reference || decide (earlier (fun e => e.reference) < 8))
def SrcEntry.rule6 (e : SrcEntry) : Bool :=
  decide (e.stagger * (e.exposures - 1) < e.height) && (e.kind != 1 || decide (e.stagger ≤ 512))
def State.rule7 (s : State) (i : Nat) : Bool :=
  let e := s.src i
  if e.kind = 1 then s.platesOk i 0x1000
  else s.platesOk i e.plateSize && e.linePitch % 256 == 0 && decide (e.lineBytes ≤ e.linePitch) && decide (e.plateSize ≤ e.plateStride * 4096)
def State.rule8 (s : State) (i : Nat) : Bool :=
  let e := s.src i
  decide (e.paramLine < e.height) && (!e.ctlEn || fld (s.rget (0xA_0000 + 0x100 * e.ctlPort)) 0 2 != 0)
def SrcEntry.rule9 (e : SrcEntry) : Bool := e.period == 0 || decide (2000 * e.fsWindow < e.period)
/-- Rule 10; the period of a GENLOCK output is measured, so that it is not compared (notes/assumptions/28.md). -/
def State.rule10 (s : State) (i : Nat) : Bool :=
  let e := s.src i
  let j := e.trig - 4
  let mode := fld (s.rget (0xA_2000 + 0x10 * j)) 0 2
  e.trig == 0 || mode == 2 || (mode == 1 && (s.rget (0xA_2004 + 0x10 * j)).toNat == e.period)

/-- The first rule of Table 3.4 that entry i fails. -/
def State.srcRule (s : State) (srcs : List Nat) (i : Nat) : Option Nat :=
  let e := s.src i
  let cam := e.kind == 0 || e.kind == 1
  firstSome (fun (p : Nat × Bool) => if p.2 then none else some p.1)
    [(1, s.rule1 i), (2, !cam || e.shapeOk), (3, !cam || s.portOk e.port), (4, !cam || s.rule4 srcs i), (5, s.rule5 srcs i), (6, e.rule6),
     (7, s.rule7 i), (8, !cam || s.rule8 i), (9, e.rule9), (10, !cam || s.rule10 i)]

/-- ST_CHECK: the lowest failing entry and its rule. -/
def State.stCheck (s : State) : Option Nat :=
  firstSome (fun i => (s.srcRule s.sources i).map (fun r => i + r * 2 ^ 16)) s.sources

/-! ## Groups 1 to 4 -/

/-- The stagger region is large enough (04 R113). -/
def State.staggerOk (s : State) : Bool :=
  s.sources.all (fun i =>
    let e := s.src i
    let p := ceilDiv e.lineBytes 256 * 256
    e.kind != 1 || decide ((e.stagger * e.exposures * (e.exposures - 1) / 2 + 4 * (e.exposures - 1)) * p ≤ (s.rget 0xC_0018).toNat * 4096))

/-- The members of a chain's stages, from its links (10 R249). -/
def State.chainMembers (s : State) (c : Nat) : List Nat :=
  s.linkIds.flatMap (fun l => let d := s.link l; if d.chain = c then d.prods ++ d.cons else [])

/-- The taps that the drain-chain programs of a stage program name, up to its END (09 R237). -/
def State.progTaps (s : State) (n c : Nat) : Nat → Nat → List Nat
  | 0, _ => []
  | f + 1, i =>
    let r := s.rd (vaultAt n + ((s.rget (coreReg n (0x30 + 4 * c))).toNat + 64 * i) % 0x40_0000) 64
    let op := leAt r 0 1
    let dc := leAt r 0x0A 2
    if op = 0x14 || !knownOpcode r then []
    else (if dc = 0 || (decide (0x10 ≤ op) && decide (op ≤ 0x14)) then [] else [s.rdLE (vaultAt n + dc * 64 + 1) 1]) ++ s.progTaps n c f (i + 1)

/-- Chain c names tap t. -/
def State.namesTap (s : State) (c t : Nat) : Bool :=
  (s.chainMembers c).any (fun m => (s.progTaps (m / 4) (m % 4) 65536 0).contains t)

/-- Every tap of every source has a descriptor that covers it, and a chain that names it (04 R118). -/
def State.tapsOk (s : State) : Bool :=
  s.sources.all (fun i =>
    let e := s.src i
    (List.range 8).all (fun t =>
      let d := s.tapDesc e.chain t
      !nbit e.tapMask t || (d.en && decide (d.srcFirst ≤ i) && decide (i < d.srcFirst + d.srcCount)
        && (t < 3 || t == 7 || s.namesTap e.chain t))))

/-- The contexts of every core of the partition map (05 R153). -/
def State.contextsOk (s : State) : Bool :=
  (List.range 144).all (fun n => (s.corePart n).isNone ||
    (let en := (List.range 4).filter (fun c => s.ctxEn n c)
     let acc (c : Nat) : Nat × Nat := (fld (s.rget (coreReg n (0x20 + 4 * c))) 0 11, fld (s.rget (coreReg n (0x20 + 4 * c))) 16 12)
     en.all (fun c => decide (1 ≤ s.mqEntries n c) && decide (1 ≤ (acc c).2) && decide ((acc c).1 + (acc c).2 ≤ 2048)
       && decide ((s.rget (coreReg n (0x30 + 4 * c))).toNat < 0x40_0000)
       && en.all (fun d => d == c || !overlaps (acc c).1 (acc c).2 (acc d).1 (acc d).2))
     && decide (en.foldl (fun a c => a + s.mqEntries n c) 0 ≤ 64)))

/-- Group width and bytes of a transmit data type (09 Table 9.6). -/
def txGroup (dt : Nat) : Option (Nat × Nat) :=
  match dt with
  | 0x2A => some (1, 1) | 0x2B => some (4, 5) | 0x2C => some (2, 3) | 0x2D => some (4, 7) | 0x2E => some (1, 2)
  | 0x24 => some (1, 3) | 0x1E => some (2, 4) | 0x1F => some (2, 5) | _ => none

/-- The line time of P bytes at a capacity in 1/7 Mbps: numerator and denominator in ns (09 R247 check 5). -/
def txLineTime (p cap7 : Nat) : Nat × Nat := ((p + 6) * 8 * 7000 + 200 * cap7, cap7)

/-- Checks 1 to 6 and 8 of one entry, and its line time; `none` where it fails. -/
def State.txEntry (s : State) (port k : Nat) : Option (Nat × Nat) :=
  let c := s.rget (0xE_0000 + 0x1000 * port)
  let x := s.txs port k
  let phy := fld c 0 2
  let lanes := cfgLanes c
  let cap7 := lanes * rateOf (fld c 8 8) (fld c 19 3) * (if phy = 2 then 16 else 7)
  let e := s.src x.source
  match txGroup x.dt with
  | none => none
  | some (g, b) =>
    let t := txLineTime (x.outW / g * b) cap7
    let rsv := fld (s.rget (txsWord port k 0)) 25 7 == 0 && fld (s.rget (txsWord port k 5)) 16 16 == 0
      && s.rget (txsWord port k 6) == 0 && s.rget (txsWord port k 7) == 0
    if phyOk c (fld c 19 3) && laneMapOk (s.rget (0xE_0004 + 0x1000 * port)) phy lanes && e.enable && x.outW % g == 0
      && decide (x.vc < if phy = 1 then 4 else 16)
      && (List.range 16).all (fun j => j == k || !(s.txs port j).en || (s.txs port j).vc != x.vc)
      && decide (t.1 ≤ x.lineNs * t.2) && (e.period == 0 || decide ((x.outH + 2) * x.lineNs ≤ e.period))
      && decide (1 ≤ x.outW) && decide (x.outW ≤ 16384) && decide (1 ≤ x.outH) && decide (x.outH ≤ 16384)
      && decide (1000 ≤ x.lineNs) && x.embPos != 3 && rsv then some (t.1, t.2 * x.lineNs)
    else none

/-- Sum of fractions. -/
def sumFrac (l : List (Nat × Nat)) : Nat × Nat := l.foldl (fun a b => (a.1 * b.2 + b.1 * a.2, a.2 * b.2)) (0, 1)

/-- The transmit streams (09 R247). -/
def State.txOk (s : State) : Bool :=
  (List.range 4).all (fun port =>
    let ks := (List.range 16).filter (fun k => (s.txs port k).en)
    let ts := ks.map (fun k => s.txEntry port k)
    let load := sumFrac (ts.filterMap id)
    ts.all (fun t => t.isSome) && decide (10 * load.1 ≤ 9 * load.2))

/-! ## Group 5: the pipeline (10 R276, Table 10.6) -/

def State.chainIds (s : State) : List Nat := (List.range 64).filter (fun c => s.chainEn c)
def State.counterLink (s : State) (k : Nat) : Nat := fld (s.rget (0x4A_0000 + 0x10 * k)) 0 10

def State.pipe1 (s : State) (c : Nat) : Bool :=
  let d := s.link (s.chainFirst c)
  decide (1 ≤ s.chainStages c) && decide (s.chainStages c ≤ 16) && s.partCores (s.chainPart c) != []
    && d.en && d.front && d.chain == c && d.consStage == 0
def State.pipe2 (s : State) (l : Nat) : Bool :=
  let d := s.link l
  let space := if d.pool then 0x100_0000 else 0x40_0000
  decide (1 ≤ d.slots) && d.base % 256 == 0 && d.segBytes % 256 == 0 && decide (256 ≤ d.segBytes) && s.chainEn d.chain
    && decide (d.owner < if d.pool then 4 else 144) && decide (d.base + d.slots * d.segBytes ≤ space)
    && decide (d.consStage < s.chainStages d.chain) && (d.front || decide (d.prodStage < d.consStage))
    && (!d.front || s.chainFirst d.chain == l)
/-- The (chain, stage) pairs that a member serves, with the link each comes from. -/
def State.roles (s : State) (m : Nat) : List (Nat × Nat) :=
  s.linkIds.flatMap (fun l =>
    let d := s.link l
    (if d.prods.contains m then [(d.chain, d.prodStage)] else []) ++ (if d.cons.contains m then [(d.chain, d.consStage)] else []))
def State.pipe3 (s : State) (l : Nat) : Bool :=
  let d := s.link l
  let member (m : Nat) : Bool :=
    decide (m / 4 < 144) && s.corePart (m / 4) == some (s.chainPart d.chain) && s.ctxEn (m / 4) (m % 4)
      && (s.roles m).all (fun r => (s.roles m).all (fun q => r == q))
  let list (ms : List Nat) : Bool := ms.all member && decide ((ms.map (· / 4)).eraseDups.length = ms.length)
  decide (1 ≤ d.cons.length)
    && (if d.claimed then decide (1 ≤ d.prods.length) && !d.front else d.prods.length == if d.front then 0 else 1)
    && list d.prods && list d.cons
def State.pipe4 (s : State) (l : Nat) : Bool := !(s.link l).claimed || s.counterLink (s.link l).counter == l
/-- A counter is bound to at most one link: no second enabled CLAIMED link names it. -/
def State.pipe4k (s : State) (k : Nat) : Bool :=
  decide ((s.linkIds.filter (fun l => (s.link l).claimed && (s.link l).counter == k)).length ≤ 1)
def State.pipe5 (s : State) (i : Nat) : Bool :=
  let e := s.src i
  let lead := s.foldLead i
  s.chainEn e.chain && s.chainPart e.chain == e.partition
    && (!s.folded i || ((s.members lead).head? == some lead && s.folded lead
      && (List.range 3).all (fun w => s.tt i w == s.tt lead w)))
def State.pipe6c (s : State) (c : Nat) : Bool :=
  s.sources.all (fun i => (s.src i).kind != 1 || s.chainPart (s.src i).chain != s.chainPart c || (s.src i).chain == c)
def State.pipe6s (s : State) (i : Nat) : Bool :=
  s.sources.all (fun j => (s.src j).kind != 1 || j == i || (s.src j).chain != (s.src i).chain)

/-- EPH_CHECK: rule by rule, chains, links, counters, sources by index. -/
def State.ephCheck (s : State) : Option Nat :=
  let code (kind rule i : Nat) : Nat := i + kind * 2 ^ 12 + rule * 2 ^ 16
  let scan (kind rule : Nat) (p : Nat → Bool) (ids : List Nat) : Option Nat :=
    firstSome (fun i => if p i then none else some (code kind rule i)) ids
  firstSome id
    [scan 0 1 s.pipe1 s.chainIds, scan 1 2 s.pipe2 s.linkIds, scan 1 3 s.pipe3 s.linkIds, scan 1 4 s.pipe4 s.linkIds,
     scan 2 4 s.pipe4k ((s.linkIds.filter (fun l => (s.link l).claimed)).map (fun l => (s.link l).counter)),
     scan 3 5 s.pipe5 s.sources, scan 0 6 s.pipe6c s.chainIds, scan 3 6 s.pipe6s s.sources]

/-! ## Group 6: regulators and the Page Map base (11 R293, R298) -/

/-- The first regulator whose RATE, added in order, takes the sum of a path over a limit. -/
def rateOver (limit : Nat) : Nat → List Nat → Nat → Option Nat
  | _, [], _ => none
  | sum, r :: rest, i => if limit < sum + r then some i else rateOver limit (sum + r) rest (i + 1)

/-- A range of HBM meets the staging region. -/
def meetsStaging (a n : Nat) : Bool := overlaps a n stageBase 0x1000_0000

/-- MEM_CHECK. -/
def State.memCheck (s : State) : Option Nat :=
  let code (p r : Nat) : Nat := r + p * 2 ^ 7 + 2 ^ 9
  let regs := List.range 68
  let limit (p : Nat) : Nat := if p = 2 then s.provRate * 85 / 100 else 696320
  let word (p w r : Nat) : Nat := (s.rget (0x20_1000 + 0x40 * r + 0x10 * p + 4 * w)).toNat
  let lowest (p : Nat) (ok : Nat → Bool) : Option Nat :=
    firstSome (fun r => if word p 0 r = 0 || ok r then none else some (code p r)) regs
  let burst (p r : Nat) : Bool := decide (4096 ≤ word p 1 r) && decide (word p 1 r ≤ 16777216)
  let tags (p r : Nat) : Bool := decide (4 ≤ nfld (word p 2 r) 0 13)
  firstSome id
    ([0, 1, 2].map (fun p => (rateOver (limit p) 0 (regs.map (word p 0)) 0).map (code p))
      ++ [0, 1, 2].map (fun p => lowest p (burst p)) ++ [0, 1, 2].map (fun p => lowest p (tags p))
      ++ [if s.rget64 0x20_0010 % 2 ^ 21 = 0 && !meetsStaging (s.rget64 0x20_0010) (2 ^ 25) then none else some (code 3 0x7F)])

/-! ## Groups 7 to 11 -/

/-- Channels that are not OFF, and the running sum of SHARE at each (12 R344 rule 1). -/
def State.hl1 (s : State) (c : Nat) : Bool :=
  let kind (k : Nat) : Nat := fld (s.rget (0x10_1000 + 0x100 * k)) 0 2
  let share := (List.range (c + 1)).foldl (fun a k => a + if kind k = 0 then 0 else fld (s.rget (0x10_1000 + 0x100 * k)) 8 8) 0
  kind c == 0 || (decide (share ≤ 256) &&
    (kind c == 1 || (decide (1 ≤ s.chCount c) && decide (s.chFirst c + s.chCount c ≤ 4096))))

/-- A HOST source (12 R344 rule 2). -/
def State.hl2 (s : State) (i : Nat) : Bool :=
  let e := s.src i
  e.kind != 2 || (((List.range 32).filter (fun c => s.chKind c == 2 && s.chCovers c i)).length == 1
    && (match dtGroup e.dt with
      | some (g, _) => e.width % g == 0
      | none => false)
    && s.rule1 i && s.rule5 s.sources i && e.rule6 && s.rule7 i && e.rule9)

/-- HL_CHECK. -/
def State.hlCheck (s : State) : Option Nat :=
  let c := s.rget 0x10_0004
  let gen := fld c 0 3
  firstSome id
    [firstSome (fun c => if s.hl1 c then none else some (c + 2 ^ 16)) (List.range 32),
     firstSome (fun i => if s.hl2 i then none else some (i + 2 ^ 12 + 2 * 2 ^ 16)) s.sources,
     if decide (3 ≤ gen) && decide (gen ≤ 5) && linkWidthOk (fld c 3 5) then none else some (3 * 2 ^ 16)]

/-- Islands that the image uses are clocked (15 R405). -/
def State.gatingOk (s : State) : Bool :=
  let gate (i : Nat) : Bool := bit (s.rget 0x1_0400) i
  let on (i : Nat) : Bool := gate i && s.pllEn i
  (s.sources == [] || on 3)
    && (!(List.range 4).any (fun n => fld (s.rget (0xE_0000 + 0x1000 * n)) 0 2 != 0) || on 4)
    && (!(List.range 16).any (fun n => bit (s.rget (0x1_0300 + 4 * n)) 16) || on 6)
    && (!(List.range 16).any (fun n => fld (s.rget (0xA_0000 + 0x100 * n)) 0 2 != 0) || gate 9)

/-- The profile (16 R409). -/
def State.profileOk (s : State) : Bool :=
  let p := fld (s.rget 0x20) 0 2
  let die := fld (s.rget 0x20) 2 2
  p != 3 && (p != 2 ||
    ((List.range 144).all (fun n => (s.corePart n).isNone || dieOf n == die)
      && s.linkIds.all (fun l => let d := s.link l; (if d.pool then d.owner else dieOf d.owner) == die)
      && (List.range 256).all (fun k => !s.linkIds.contains (s.counterLink k) || k / 64 == die)))

/-- The retention area (16 R419). -/
def State.retainBase (s : State) : Nat := fld (s.rget 0x2_0300) 16 15 * 2 ^ 21
def retainLen : Nat := 288 * 2 ^ 20
def State.retainEn (s : State) : Bool := bit (s.rget 0x2_0300) 0
def State.retentionOk (s : State) : Bool :=
  let b := s.retainBase
  !s.retainEn || (decide (b + retainLen ≤ 2 ^ 35) && !meetsStaging b retainLen && !overlaps b retainLen (s.rget64 0x20_0010) (2 ^ 25))

/-- The FSYNC outputs (03 R483). -/
def State.fsyncOk (s : State) : Bool :=
  (List.range 4).all (fun j =>
    let c := s.rget (0xA_2000 + 0x10 * j)
    let per := (s.rget (0xA_2004 + 0x10 * j)).toNat
    let ph := (s.rget (0xA_2008 + 0x10 * j)).toNat
    match fld c 0 2 with
    | 0 => true
    | 1 => c.toNat &&& 0xFF08 == 0 && decide (8 ≤ fld c 16 16) && decide (1000 ≤ per) && decide (ph < per)
    | 2 => c.toNat &&& 0xFF08 == 0 && decide (8 ≤ fld c 16 16) && decide (ph < 1_000_000_000)
    | _ => false)

/-- ARM_CHECK: one bit for each group that fails (02 Table 2.9). -/
def State.armGroups (s : State) : Nat :=
  [s.stCheck.isNone, s.staggerOk, s.tapsOk, s.contextsOk, s.txOk, s.ephCheck.isNone, s.memCheck.isNone, s.hlCheck.isNone, s.gatingOk,
    s.profileOk, s.retentionOk, s.fsyncOk].foldr (fun ok m => 2 * m + b2n (!ok)) 0

/-- Run every check: the check registers report the first failure of each, and ARM_CHECK the groups (R481). -/
def State.runChecks (s : State) : State :=
  let v (o : Option Nat) : Word := wd (o.getD 0)
  let st := s.stCheck
  let ep := s.ephCheck
  let me := s.memCheck
  let hl := s.hlCheck
  let g := s.armGroups
  let s1 := (((s.rput 0x9_0000 (v st)).rput 0x40_0010 (v ep)).rput 0x20_0008 (v me)).rput 0x10_0008 (v hl)
  { s1 with boot := { s1.boot with armCheck := g } }

/-- The class of each partition: 0 unused, 1 elastic, 2 real-time, 3 in-line (10 R251). -/
def State.classify (s : State) : State :=
  let inl := (s.sources.filter (fun i => (s.src i).kind == 1)).map (fun i => s.chainPart (s.src i).chain)
  let cls (p : Nat) : Nat :=
    let cs := s.partCores p
    if cs = [] then 0 else if inl.contains p then 3 else if 2 ≤ (cs.map dieOf).eraseDups.length then 2 else 1
  { s with eph := { s.eph with cls := (List.range 64).map (fun p => (p, cls p)) } }

/-! ## The limits of R400 (15 Table 15.5), which the hardware does not check -/

/-- FREQ of a PLL in MHz. -/
def State.freq (s : State) (n : Nat) : Nat := fld (s.pllCfg n) 0 12

/-- Limit 1, while BRIDGE is enabled; f_low in 1/800 MHz. A controller runs at 1,600 MHz at most. -/
def State.limit1 (s : State) : Bool :=
  let c := s.rget 0x1_01A4
  let low := s.freq 5 * (800 - if bit c 0 then fld c 1 5 else 0)
  !s.pllEn 5 || decide (1920 * 800 ≤ low) || (decide (s.freq 0 * 9600 ≤ low * 10) && decide (s.freq 1 * 9600 ≤ low * 10))

/-- Limit 2: every port or gang that is on, while MIPI_RX is enabled. -/
def State.limit2 (s : State) : Bool :=
  !s.pllEn 3 || (List.range 16).all (fun n => s.leadOf n != n || fld (s.portCfg n) 0 2 == 0 || decide (5 * s.portCapacity7 n ≤ 14000 * s.freq 3))

/-- Samples per pixel of a data type (04 R104). -/
def perPixel (dt : Nat) : Nat := if dt = 0x24 then 3 else if dt = 0x1E || dt = 0x1F then 2 else 1

/-- Limit 3: the INLINE source at its PERIOD. -/
def State.limit3 (s : State) : Bool :=
  s.sources.all (fun i =>
    let e := s.src i
    e.kind != 1 || decide (e.width * perPixel e.dt * e.height * e.exposures * 1000 ≤ 16 * s.freq 3 * e.period) || e.period == 0)

/-- Limit 4: every transmit port that is on. -/
def State.limit4 (s : State) : Bool :=
  (List.range 4).all (fun n =>
    let c := s.rget (0xE_0000 + 0x1000 * n)
    let cap7 := cfgLanes c * rateOf (fld c 8 8) (fld c 19 3) * (if fld c 0 2 = 2 then 16 else 7)
    fld c 0 2 == 0 || decide (5 * cap7 ≤ 7000 * s.freq 4))

/-- Limit 5: every MCLK output that runs. -/
def State.limit5 (s : State) : Bool :=
  (List.range 16).all (fun n =>
    let c := s.rget (0x1_0300 + 4 * n)
    let d := 256 * fld c 0 8 + fld c 8 8
    !bit c 16 || (decide (6 * d ≤ 256 * s.freq 6) && decide (256 * s.freq 6 ≤ 54 * d)))

/-- Limit 6: spread on PCIE. Whether the link runs in SRIS is the board's (notes/assumptions/29.md). -/
def State.limit6 (s : State) : Bool :=
  let c := s.rget 0x1_0144
  !bit c 0 || (decide (fld c 1 5 ≤ 4) && decide (30 ≤ fld c 6 6) && decide (fld c 6 6 ≤ 33))

/-- The clock registers keep the limits of Table 15.5. -/
def State.clocksOk (s : State) : Bool := s.limit1 && s.limit2 && s.limit3 && s.limit4 && s.limit5 && s.limit6

end Sys2Proof.Machine
end

