-- ==== Sys2Proof/Machine/Chrono.lean ====
section
/-! DEFINITION. The Chronograph and PPS discipline (spec/17_security_identity_and_time.md R443 to R451): the meanings of
SET, SET_AT_PPS, PPS_EDGE, PPS_HOLDOVER, XT32_STOPPED, POWER_ON, ALWAYS_ON_POWER_LOSS and CHRONO_FRAC_READ. -/

namespace Sys2Proof.Machine

/-- Replace the count by seconds and fraction (R446): VALID and STEPPED are set. -/
def Chrono.setTo (c : Chrono) (sec frac : Nat) : Chrono :=
  { c with count := (sec % 2 ^ 48) * 2 ^ 64 + (frac % 2 ^ 32) * 2 ^ 32, carry := 0, valid := true, stepped := true }

/-- SET writes are accepted from a path: MGMT and image always, BAR0 while HOST_SET is 1; DBG_ACCESS follows the rules of
MGMT (R437). -/
def State.setAllowed (s : State) (p : Path) : Bool :=
  match p with
  | .bar0 => bit s.chr.cfg 0
  | _ => true

/-- CHRONO_CTRL.SET: the value applies at once and replaces a pending SET_AT_PPS. -/
def State.chronoSet (s : State) (p : Path) : State :=
  if s.setAllowed p then
    { s with chr := { s.chr.setTo s.chr.setSec s.chr.setFrac with setPending := false } }
  else s

/-- CHRONO_CTRL.SET_AT_PPS: the value applies at the next accepted PPS edge. -/
def State.chronoSetAtPps (s : State) (p : Path) : State :=
  if s.setAllowed p then { s with chr := { s.chr with setPending := true } } else s

/-- Truncation of eps ÷ 8 towards zero. -/
def trunc8 (x : Int) : Int := if 0 ≤ x then x / 8 else -((-x) / 8)

/-- The count whose nanosecond view is n (the smallest such fraction). -/
def chronoOfNs (n : Nat) : Nat :=
  (n / 10 ^ 9) * 2 ^ 64 + ceilDiv (n % 10 ^ 9 * 2 ^ 32) (10 ^ 9) * 2 ^ 32

/-- What an accepted edge does (R448): `pps_last`, `pps_err`, then a pending SET, a phase step or the loop. -/
def Chrono.edge (c : Chrono) (now : Nat) : Chrono :=
  let t := c.ns
  let e0 : Int := ((t % 10 ^ 9 : Nat) : Int)
  let eps : Int := if e0 ≥ 500000000 then e0 - 1000000000 else e0
  let c1 := { c with ppsLast := t, ppsErr := eps, lastEdge := some now }
  let good := if -1000 ≤ eps ∧ eps ≤ 1000 then c.good + 1 else 0
  let st := match c.pps with
    | .locked => PpsState.locked
    | x => if 4 ≤ good then .locked else x
  let c2 := { c1 with good, pps := st }
  if c.setPending then
    { c2.setTo c.setSec c.setFrac with setPending := false, slew := 0, slewLeft := 0 }
  else if c.mode ≠ 2 then c2
  else if bit c.cfg 3 && decide ((((fld c.cfg 16 16) * 1000 : Nat) : Int) < (if eps < 0 then -eps else eps)) then
    { c2 with count := chronoOfNs ((t : Int) - eps).toNat, carry := 0, stepped := true, slew := 0, slewLeft := 0 }
  else
    let sl := clampI (-500000) 500000 (-eps)
    { c2 with freq := clampI (-200000) 200000 (c.freq - trunc8 eps), slew := sl
              slewLeft := if sl = 0 then 0 else 10 ^ 9 }

/-- The edge is accepted: at least 100 ns long, and 1 s ± 200 µs after the last accepted edge or the first since OFF. -/
def Chrono.accepts (c : Chrono) (now width : Nat) : Bool :=
  decide (100 ≤ width) &&
    match c.lastEdge with
    | none => true
    | some l => decide (l + 999_800_000 ≤ now) && decide (now ≤ l + 1_000_200_000)

/-- PPS_EDGE: an active edge of PPS_IN whose pulse lasts `width` ns. -/
def ppsEdge (width : Nat) (s : State) : State :=
  let c := s.chr.settle
  if s.held || !c.served || !c.accepts s.now width then { s with chr := c } else { s with chr := c.edge s.now }

/-- PPS_HOLDOVER: no edge has been accepted for 1.5 s; FREQ is kept, SLEW is 0, LOST is set. The next edge is measured
against the last accepted one plus whole seconds, so acceptance starts anew (notes/assumptions/31.md). -/
def ppsHoldover (s : State) : State :=
  let c := s.chr
  match c.lastEdge with
  | some l =>
    if c.served && (c.pps = .locked || c.pps = .acquiring) && decide (l + 1_500_000_000 ≤ s.now) then
      { s with chr := { c with pps := .holdover, lost := true, slew := 0, slewLeft := 0, good := 0, lastEdge := none } }
    else s
  | none => s

/-- XT32_STOPPED: the 32.768 kHz oscillator has given no edge for 2 ms (R445). -/
def xt32Stopped (s : State) : State :=
  if s.aon.powered then { s with chr := { s.chr with xtStopped := true, xtRuns := false, valid := false } } else s

/-- POWER_ON: the always-on domain is powered after having been unpowered (R445, R451): RESET_CAUSE.POWER_ON is noted. -/
def powerOn (s : State) : State :=
  if s.aon.powered then s
  else { s with chr := Chrono.init, mgmt := Mgmt.init, aon := { s.aon with powered := true, onVbat := false, causes := 1, cause := 0, supply := none } }

/-- ALWAYS_ON_POWER_LOSS: the count, the CHRONO registers and the reset-cause latch are lost (R445). With VDD_1V8 gone the
device is in reset. -/
def alwaysOnLoss (s : State) : State :=
  if s.aon.powered && s.aon.onVbat then
    { s with chr := Chrono.init, aon := { s.aon with powered := false, causes := 0, cause := 0, supply := none } }
  else s

/-! ## The calendar view (R447) -/

/-- Days from 1970-01-01 to a civil date of the proleptic Gregorian calendar, inverted: year, month, day of a day number. -/
def civil (z0 : Nat) : Nat × Nat × Nat :=
  let z := z0 + 719468
  let era := z / 146097
  let doe := z % 146097
  let yoe := (doe - doe / 1460 + doe / 36524 - doe / 146096) / 365
  let doy := doe - (365 * yoe + yoe / 4 - yoe / 100)
  let mp := (5 * doy + 2) / 153
  let d := doy - (153 * mp + 2) / 5 + 1
  let m := if mp < 10 then mp + 3 else mp - 9
  (yoe + era * 400 + b2n (decide (m ≤ 2)), m, d)

/-- CAL_DATE of a count of seconds. -/
def calDate (sec : Nat) : Word :=
  let days := sec / 86400
  let (y, m, d) := civil days
  if 9999 < y then wd 0xFFFF else wd (y + m * 2 ^ 16 + d * 2 ^ 24 + ((4 + days) % 7) * 2 ^ 29)

/-- CAL_TIME of a count of seconds. -/
def calTime (sec : Nat) : Word :=
  let r := sec % 86400
  if 9999 < (civil (sec / 86400)).1 then 0
  else wd (r / 3600 + (r / 60 % 60) * 2 ^ 8 + (r % 60) * 2 ^ 16)

/-! ## The commands -/

/-- PPS_EDGE (17 R448). -/
def execPpsEdge (t : Nat) (width : Nat) (s : State) : Host.Outcome State Fault Refusal := .next (ppsEdge width (s.advance t))
/-- PPS_HOLDOVER (17 R448). -/
def execPpsHoldover (t : Nat) (s : State) : Host.Outcome State Fault Refusal := .next (ppsHoldover (s.advance t))
/-- XT32_STOPPED (17 R445). -/
def execXt32Stopped (t : Nat) (s : State) : Host.Outcome State Fault Refusal := .next (xt32Stopped (s.advance t))
/-- POWER_ON (17 R445). -/
def execPowerOn (t : Nat) (s : State) : Host.Outcome State Fault Refusal := .next (powerOn (s.advance t))
/-- ALWAYS_ON_POWER_LOSS (17 R445). -/
def execAlwaysOnPowerLoss (t : Nat) (s : State) : Host.Outcome State Fault Refusal := .next (alwaysOnLoss (s.advance t))

end Sys2Proof.Machine
end

