-- ==== Sys2Proof/Machine/RegStore.lean ====
section
/-! DEFINITION. Storing the fields of a register where they are held, whatever path and access code let the value in. It serves
register writes (Machine/RegWrite.lean) and the return of registers to their old values after a failed load (spec/02 R59). -/

namespace Sys2Proof.Machine

/-- Replace the low or the high word of a 64-bit value. -/
def put32 (v : Nat) (high : Bool) (w : Word) : Nat :=
  if high then v % 2 ^ 32 + w.toNat * 2 ^ 32 else v / 2 ^ 32 * 2 ^ 32 + w.toNat

/-- Store a CHRONO register (17 Table 17.6). -/
def State.putChrono (s : State) (a : Nat) (w : Word) : State :=
  let c := s.chr
  match a with
  | 0x5_0004 => { s with chr := ({ c with cfg := wd (w.toNat &&& 0xFFFF_001F) } : Chrono).settle }
  | 0x5_0040 => { s with chr := { c with setFrac := w.toNat } }
  | 0x5_0044 => { s with chr := { c with setSec := put32 c.setSec false w } }
  | 0x5_0048 => { s with chr := { c with setSec := put32 c.setSec true w % 2 ^ 48 } }
  | 0x5_006C => { s with chr := { c with freq := sx 32 w.toNat } }
  | _ => s

/-- Whether an address is PLL_CFG[n] of a PLL that the image sets. -/
def isPllCfg (a : Nat) : Bool := a == 0x1_0160 || a == 0x1_0180 || a == 0x1_01A0 || a == 0x1_01C0

/-- Whether an address is CTL_CFG[n]. -/
def isCtlCfg (a : Nat) : Bool := decide (0xA_0000 ≤ a) && decide (a < 0xA_1000) && a % 0x100 == 0

/-- The number with bit n set for every element 32k + n of a list of indices. -/
def mapBits (l : List Nat) (k : Nat) : Nat := l.foldl (fun m n => if n / 32 = k then nset m (n % 32) else m) 0

/-- The list of indices with its elements 32k + n replaced by the bits of a word. -/
def putMap (l : List Nat) (k : Nat) (w : Word) : List Nat :=
  ((List.range 32).filter (bit w)).map (fun n => 32 * k + n) ++ l.filter (fun n => n / 32 != k)

/-- Whether an address is FENCE_HIST[k]. -/
def isFenceHist (a : Nat) : Bool := decide (0x6_00A0 ≤ a) && decide (a < 0x6_00B4)

/-- The W1C bits of a register that holds them elsewhere than in the register store. -/
def State.w1cHeld (s : State) (a : Nat) : Option Nat :=
  match a with
  | 0x2_0200 => some s.pwr.monEvent
  | 0x2_0444 => some s.pwr.thermBits
  | 0x4_0024 => some (2 * b2n s.sec.debugUsed)
  | 0x4_0200 => some (2 ^ 9 * b2n s.mgmt.err)
  | 0x5_0000 => some (4 * b2n s.chr.xtStopped + 8 * b2n s.chr.stepped + 64 * b2n s.chr.lost)
  | 0xA_2100 => some (2 * b2n s.trig.lost)
  | 0x40_0028 => some (s.eph.stall % 2 ^ 32)
  | 0x40_002C => some (s.eph.stall / 2 ^ 32)
  | _ => if isFenceHist a then some (mapBits s.flt.hist ((a - 0x6_00A0) / 4)) else none

/-- Set the W1C bits of such a register. -/
def State.putW1c (s : State) (a : Nat) (w : Word) : State :=
  match a with
  | 0x2_0200 => { s with pwr := { s.pwr with monEvent := w.toNat } }
  | 0x2_0444 => { s with pwr := { s.pwr with thermBits := w.toNat } }
  | 0x4_0024 => { s with sec := { s.sec with debugUsed := bit w 1 } }
  | 0x4_0200 => { s with mgmt := { s.mgmt with err := bit w 9 } }
  | 0x5_0000 => { s with chr := { s.chr with xtStopped := bit w 2, stepped := bit w 3, lost := bit w 6 } }
  | 0xA_2100 => { s with trig := { s.trig with lost := bit w 1 } }
  | 0x40_0028 => { s with eph := { s.eph with stall := put32 s.eph.stall false w } }
  | 0x40_002C => { s with eph := { s.eph with stall := put32 s.eph.stall true w } }
  | _ => if isFenceHist a then { s with flt := { s.flt with hist := putMap s.flt.hist ((a - 0x6_00A0) / 4) w } } else s

/-- Store a register's value: the register store, or where the field is held; what follows from a change of it follows. -/
def State.putRaw (s : State) (a : Nat) (w : Word) : State :=
  if (s.w1cHeld a).isSome then s.putW1c a w
  else if 0x200_0000 ≤ a then s.poke (s.pmEntry ((a - 0x200_0000) / 8) + a % 8) (bytesLE 4 w.toNat)
  else if 0x5_0000 ≤ a && a < 0x6_0000 then s.putChrono a w
  else if a = 0x4_0020 then { s with sec := { s.sec with debugEn := bit w 0 && !s.debugDisable } }
  else if a = 0x2_0014 then (s.rput a w).updTarget
  else if isPllCfg a then
    let n := (a - 0x1_0100) / 0x20
    let s1 := s.rput a w
    if s.rget a = w then s1
    else { s1 with clk := { s1.clk with locked := nclr s1.clk.locked n, held := nclr s1.clk.held n, lost := nclr s1.clk.lost n } }
  else if isCtlCfg a then (s.rput a w).ctlCfgDone ((a - 0xA_0000) / 0x100) (s.rget a)
  else s.rput a w

/-- Entries whose load checks ask that reserved bits were written with 0 (03 Table 3.4, R483, 09 R247): what was written to them
is remembered, and they read 0 all the same (18 R454). -/
def keepsRaw (a : Nat) : Bool :=
  (decide (0x41_0000 ≤ a) && decide (a < 0x45_0000))
    || (decide (0xE_0200 ≤ a) && decide (a < 0xE_4000) && decide (0x200 ≤ a % 0x1000) && decide (a % 0x1000 < 0x400))
    || a == 0xA_2000 || a == 0xA_2010 || a == 0xA_2020 || a == 0xA_2030

/-- The value that `putRaw` would have to store to leave a register as it is; `none` for a register whose fields an image neither
sets nor clears. -/
def State.rawVal (s : State) (a : Nat) : Option Word :=
  if (s.w1cHeld a).isSome then (s.w1cHeld a).map wd
  else if 0x200_0000 ≤ a then some (wd (ofBytesLE (memRead s.mem (s.pmEntry ((a - 0x200_0000) / 8) + a % 8) 4)))
  else
    match a with
    | 0x5_0004 => some s.chr.cfg
    | 0x5_0040 => some (wd s.chr.setFrac)
    | 0x5_0044 => some (wd s.chr.setSec)
    | 0x5_0048 => some (wd (s.chr.setSec / 2 ^ 32))
    | 0x5_006C => some (wd (toU 32 s.chr.freq))
    | 0x4_0020 => some (wd (b2n s.sec.debugEn))
    | _ =>
      match rowOf a with
      | some r => if r.rw = 0 && r.w1c = 0 && !keepsRaw a then none else some (s.rget a)
      | none => none

end Sys2Proof.Machine
end

