-- ==== Sys2Proof/Machine/Boot.lean ====
section
/-! DEFINITION. Start-up, load failure and re-arm (spec/02_leneno_image_and_start.md R38 to R65, R482): what happens to the
machine when a load fails, when step 14 is passed, at T0, and through the steps of a re-arm. The records of an image are in
Machine/Image.lean. -/

namespace Sys2Proof.Machine

/-- BOOT_STATUS.STATE changes; RUNNING, ARMED_WAIT, FAILED and RECOVERY_WAIT raise IBI 0x04 (17 R442). -/
def State.setPhase (s : State) (p : Phase) : State :=
  let s1 := { s with boot := { s.boot with phase := p } }
  match p with
  | .running | .armedWait | .failed | .recoveryWait => s1.raiseIbi 4
  | _ => s1

/-- MEM_INIT_DONE: step 9, every memory is zeroed, and RRS ends (R39, R40). -/
def memInitDone (s : State) : State :=
  let b := s.boot
  if !s.live || b.memDone || !(b.phase == .memInit || b.phase == .header || b.phase == .failed) then s
  else
    let s1 := { s.wipe with
      mems := { s.mems with ready := 3 }
      boot := { b with memDone := true, rrs := false } }
    if b.phase != .memInit then s1
    else if b.load.isSome then s1.setPhase .loading
    else if 2 ≤ b.straps.bootSrc then s1.setPhase .pushWait
    else s1

/-! ## Load failure (R58 to R61, R65) -/

/-- The fault class of a cause (Table 2.8). -/
def causeClass (cause : Nat) : Nat :=
  match cause with
  | 5 => 0x71 | 0xB => 0x72 | 0xC => 0x41 | _ => 0x70

/-- Actions 1 and 2 of R59: nothing further is read, the record is written, BOOT_ERR and STATE are set; the key copy is
cleared and queued fuse requests are discarded (17 R429, R430). -/
def State.loadFail (s : State) (cause record offset : Nat) : State :=
  let b := s.boot
  let saved := match b.load with
    | some l => l.saved
    | none => []
  let s1 := { s with
    boot := { b with
      errCause := cause, errSlot := b.slot, errRecord := record % 65536, load := none, pushed := false
      failed := some { saved }, wasRearm := b.rearm.isSome, rearm := none }
    sec := { s.sec with queue := [] } }
  (s1.raise { cls := causeClass cause, action := 2, unit := unitIo
              detail := cause + b.slot * 2 ^ 8 + b.src * 2 ^ 9 + record % 65536 * 2 ^ 16 + offset * 2 ^ 32 }).setPhase .failed

/-- Action 5 of R59: the straps' primary image after a failed re-arm, the secondary after the primary, else RECOVERY_WAIT. -/
def State.nextSource (s : State) : State :=
  let b := s.boot
  let go (slot : Nat) : State :=
    ({ s with boot := { b with src := b.straps.bootSrc, slot, wasRearm := false } }).setPhase .header
  if b.straps.bootSrc < 2 && b.wasRearm then go 0
  else if b.straps.bootSrc < 2 && b.src < 2 && b.slot = 0 then go 1
  else ({ s with boot := { b with wasRearm := false } }).setPhase .recoveryWait

/-- LOAD_FAIL_ZEROED: actions 3 to 5 of R59. A register that a lock bit protects was written with its own value only (R64), so
that returning it to its old value keeps it. -/
def loadFailZeroed (s : State) : State :=
  match s.boot.failed with
  | none => s
  | some f =>
    if s.boot.phase != .failed || !s.boot.memDone then s
    else
      let s1 := { s.wipe with boot := { s.boot with failed := none, ranges := [] } }
      (f.saved.foldl (fun s e => s.putRaw e.1 e.2) s1).nextSource

/-! ## Push (R61, R62) -/

/-- The lengths that PUSH_GO accepts. -/
def pushLenOk (n : Nat) : Bool := n % 64 == 0 && decide (0x280 ≤ n) && decide (n ≤ 0x1000_0000)

/-- PUSH_GO waits: an image is awaited in the staging region. -/
def State.pushAwaited (s : State) : Bool := s.live && s.stagingOpen

/-- BOOT_CTRL.PUSH_GO. In RECOVERY_WAIT the image's source is that of the path that starts the load. -/
def State.pushGo (s : State) (p : Path) : State :=
  if !s.pushAwaited then s
  else if !pushLenOk (s.rget 0x3_0014).toNat then { s with boot := { s.boot with errCause := 1 } }
  else
    let b := s.boot
    match b.phase with
    | .rearming => { s with boot := { b with pushed := true } }
    | .recoveryWait =>
      ({ s with boot := { b with pushed := true, src := if p = Path.bar0 then 2 else 3, slot := 1 } }).setPhase .header
    | _ => ({ s with boot := { b with pushed := true, src := b.straps.bootSrc, slot := 1 } }).setPhase .header

/-- A word written to STAGE_DATA goes to STAGE_ADDR, which advances by 4 (R62), after the last word of the staging region to 0
(DESIGN CHOICE, notes/assumptions/42.md). -/
def State.stageWord (s : State) (w : Word) : State :=
  if !s.pushAwaited then s
  else
    let a := (s.rget 0x3_0018).toNat
    (s.wr (stageBase + a) (bytesLE 4 w.toNat)).rput 0x3_0018 (wd ((a + 4) % 2 ^ 28))

/-! ## Step 14 and T0 (R482) -/

/-- The PLLs that GATE bits stop (15 R404): PLL n clocks island n, and TIMEBASE also those of bits 8 and 9, which need it. -/
def State.gatedPlls (s : State) : Nat := (List.range 8).foldl (fun m n => if s.gated n then nset m n else m) 0

/-- The gates of the present power state take effect: PLLs of stopped islands are powered down, a stopped PCIE takes the link
down, and a stack whose controller stops is in self-refresh. -/
def State.applyGates (s : State) : State :=
  let g := s.gatedPlls
  let s1 := { s with
    clk := { s.clk with locked := s.clk.locked - (s.clk.locked &&& g) }
    mems := { s.mems with selfRefresh := g % 4 } }
  if nbit g 2 then s1.linkDown else s1

/-- The state of a core that is placed at CTX_PROG: every enabled context, its index registers at 0. -/
def State.armCore (s : State) (n : Nat) : CoreS :=
  { CoreS.init with ctxs := ((List.range 4).filter (fun c => s.ctxEn n c)).map (fun c => (c, Ctx.init)) }

/-- CORE registers cleared at a re-arm: RES_LAST, ISSUE_LAST, RESPLIT_LAST, SKEW_SEQ and SKEW_INFO (05 Table 5.10, 07 R197, 13
R364). -/
def State.clearLast (s : State) : State :=
  { s with regs := s.regs.filter (fun e =>
    !(decide (0x100_0000 ≤ e.1) && decide (e.1 < 0x190_0000)
      && (let o := e.1 % 0x1_0000; o == 0x44 || o == 0x48 || o == 0x4C || o == 0x330 || o == 0x334))) }

/-- In FINDER the compute dies other than FINDER_DIE are powered down with their memory-side dies, and their content is lost
(16 R408). -/
def State.powerDies (s : State) : State :=
  if s.boot.profile != 2 then { s with pwr := { s.pwr with dies := 15 } }
  else
    let d := fld (s.rget 0x20) 2 2
    let s1 := { s with pwr := { s.pwr with dies := 2 ^ d } }
    ((List.range 4).filter (· != d)).foldl (fun s e =>
      ((s.zero (vaultAt (36 * e)) (vaultAt (36 * e + 36))).zero (poolAt e) (poolAt (e + 1))).zero (localAt (36 * e)) (localAt (36 * e + 36))) s1

/-- What the device does to its units at step 14: fences end (14 R384), links, counters, contexts, parameter sets, buckets,
transmit ports and DMA channels start afresh, the pace counters are reset (01 R26), and a partition number that the new map does
not use is no longer VALID (01 R27). -/
def State.armUnits (s : State) : State :=
  let s1 := { s with
    flt := { s.flt with cores := [], ctxs := [], dies := [] }
    links := [], signals := [], wctrs := [], flights := []
    eph := { Eph.init with stall := s.eph.stall, t0Ns := s.eph.t0Ns }
    -- what was being discarded of a source goes on being discarded (03 R93)
    ing := { s.ing with slots := s.ing.slots.map (fun (e : Nat × SlotState) => (e.1, { SlotState.init with dropping := e.2.dropping })) }
    front := Front.init
    mems := { s.mems with
      strms := s.mems.strms.map (fun (e : Nat × Strm) => (e.1, e.2.idle)), reqs := s.mems.reqs.filter s.hostOwn
      aux := s.mems.aux.filter (fun a => a.use.isBar2), offers := [] }
    pace := { s.pace with
      cores := s.pace.cores.map (fun (e : Nat × PaceCore) => (e.1, { e.2 with cyc := 0, us := 0, done := 0 }))
      part := s.pace.part.map (fun (e : Nat × (Nat × Nat × Bool)) => (e.1, (e.2.1, e.2.2.1, e.2.2.2 && !(s.partCores e.1).isEmpty))) } }
  let s2 := { s1 with cores := ((List.range 144).filter (fun n => (s1.corePart n).isSome)).map (fun n => (n, s1.armCore n)) }
  (s2.clearLast.psStart.dropImageCmds.regArm.txArm.dmaArm.classify).flushMsgs.wakeAll

/-- STATE becomes RUNNING: T0. -/
def State.runNow (s : State) : State := (s.setPhase .running).startTimetable

/-- Step 14, after the LOCK and ARM records and the checks of step 13 have passed. -/
def State.step14 (s : State) (l : Load) (start : Bool) : State :=
  let b := s.boot
  let goal := if l.hdr.advanceSvn && decide (s.rollback < l.hdr.svn) then some l.hdr.svn else s.sec.svnGoal
  let p := fld (s.rget 0x20) 0 2
  let s1 := (s.zero stageBase (2 ^ 35))
  let s2 := { s1 with
    boot := { b with
      load := none, pushed := false, rearm := none, wasRearm := false, locks := b.locks ||| l.lockBits, ranges := l.ranges
      profile := p, svn := l.hdr.svn, build := l.hdr.buildId
      loadTime := min ((s.now - b.since) / 1000) m32 }
    sec := { s.sec with svnGoal := goal }
    clk := { s.clk with gateRun := s.rget 0x1_0400 }
    pace := { s.pace with discard := s.pace.discard || b.profile != p } }
  let s3 := (s2.setPhase .armedWait).powerDies.armUnits.applyGates.updTarget
  (if start then s3.runNow else s3).fuseWork

/-- BOOT_CTRL.GO. -/
def State.bootGo (s : State) : State := if s.live && s.boot.phase == .armedWait then s.runNow else s

/-! ## Re-arm (R63) -/

/-- Every frame in progress is stopped: an open one closes, TRUNCATED at an ABORT request (03 Table 3.5), and all are marked
CANCELLED. What waits for the front stage is given up. -/
def State.stopFrames (s : State) (abort : Bool) : State :=
  let s1 := (s.flights.filter (fun f => f.isOpen && !f.host)).foldl (fun s f =>
    match s.flight f.source f.frame with
    | some g => s.closeFrame g abort
    | none => s) s
  let s2 := (s1.markAll fCancelled).dropInl
  { s2 with
    flights := s2.flights.map (fun f => { f with stopped := true, isOpen := false, metAt := s2.now })
    eph := { s2.eph with queue := [], stalled := [] }
    front := { s2.front with busy := none, parked := [], resumed := [] } }

/-- Every stream of every requester is cancelled with CAUSE 2 (11 R303). -/
def State.cancelStreams (s : State) : State := (List.range 145).foldl (fun s r => s.cancelAll r 2) s

def State.stopTx (s : State) : State := (List.range 4).foldl (fun s n => s.txStop n) s

def State.setStep (s : State) (st : RearmStep) : State :=
  match s.boot.rearm with
  | some r => { s with boot := { s.boot with rearm := some { r with step := st } } }
  | none => s

/-- BOOT_CTRL.REARM with REARM_MODE and REARM_SRC: steps 1 and 2. Requests outside RUNNING and ARMED_WAIT, or in another power
state or in a transition, are ignored (16 R423). -/
def State.rearmRequest (s : State) (abort : Bool) (src : Nat) : State :=
  let b := s.boot
  if !s.live || !(b.phase == .running || b.phase == .armedWait) || s.pwr.state != .run || s.pwr.trans.isSome then s
  else
    let sr := if src < 2 then b.straps.bootSrc else src
    let s1 := { s with
      boot := { b with
        phase := .rearming, since := s.now, pushed := false
        rearm := some { since := s.now, abort, step := .drain, src := sr } }
      eph := { s.eph with cutoff := some s.now } }
    let s2 := s1.psRearm.dmaRearm abort
    if abort then (s2.stopFrames true).cancelStreams.stopTx.setStep .ports else s2

/-- REARM_DRAIN_TIMEOUT: frames not finished 100 ms after a DRAIN request are stopped. -/
def rearmDrainTimeout (s : State) : State :=
  match s.boot.rearm with
  | none => s
  | some r =>
    if !s.live || r.step != .drain || s.now < r.since + 100_000_000 then s
    else
      let s1 := (List.range 32).foldl (fun s c =>
        if s.chKind c = 2 && (s.chan c).jobs != [] then s.abortChan c 2 else s) (s.stopFrames false)
      s1.cancelStreams.stopTx.setStep .ports

/-- Step 4: core-local memory, vaults, die pools and protected ranges are zeroed, and the ranges cleared. All dies are powered
for the new image. -/
def State.rearmZero (s : State) : State :=
  let s1 := s.boot.ranges.foldl (fun s g => s.zero g.lo g.hi) (s.zero (vaultAt 0) (localAt 144))
  { s1 with
    cores := [], signals := [], pwr := { s1.pwr with dies := 15 }, boot := { s1.boot with ranges := [] }
    mems := { s1.mems with strms := s1.mems.strms.map (fun (e : Nat × Strm) => (e.1, e.2.idle)) } }

/-- REARM_STEP_DONE: the step in progress is complete: the frames have drained, the ports have finished their lines and the DMA
channels their descriptors (12 Table 12.12), or the memories are zeroed, after which the new image is read or awaited. -/
def rearmStepDone (s : State) : State :=
  match s.boot.rearm with
  | none => s
  | some r =>
    if !s.live then s
    else
      match r.step with
      | .drain => if s.flights.isEmpty then s.stopTx.setStep .ports else s
      | .ports => if s.flights.isEmpty && s.dmaRests && s.tx.all (fun e => e.2.sending.isNone) then s.setStep .zero else s
      | .zero => s.rearmZero.setStep .image
      | .image => s

/-! ## The commands -/

/-- MEM_INIT_DONE (02 R39). -/
def execMemInitDone (t : Nat) (s : State) : Host.Outcome State Fault Refusal := .next (memInitDone (s.advance t))
/-- LOAD_FAIL_ZEROED (02 R59). -/
def execLoadFailZeroed (t : Nat) (s : State) : Host.Outcome State Fault Refusal := .next (loadFailZeroed (s.advance t))
/-- REARM_DRAIN_TIMEOUT (02 R63). -/
def execRearmDrainTimeout (t : Nat) (s : State) : Host.Outcome State Fault Refusal := .next (rearmDrainTimeout (s.advance t))
/-- REARM_STEP_DONE (02 R63). -/
def execRearmStepDone (t : Nat) (s : State) : Host.Outcome State Fault Refusal := .next (rearmStepDone (s.advance t))

end Sys2Proof.Machine
end

