-- ==== Sys2Proof/Machine/Clocks.lean ====
section
/-! DEFINITION. Clocks (spec/15_clocks.md): the crystal and its monitor, the PLLs, spread spectrum and the sensor master
clocks; the start-up events of the references (spec/02_leneno_image_and_start.md Table 2.2). -/

namespace Sys2Proof.Machine

/-! ## Start of the references (02 Table 2.2, 15 R389, R390) -/

/-- Start-up is in the phase before any PLL of the crystal: CLOCKS. -/
def State.starting (s : State) : Bool := s.live && s.boot.phase == .clocks

/-- RC_OSCILLATOR_START: step 2. -/
def rcStart (s : State) : State :=
  if s.live && !s.boot.rcRunning then { s with boot := { s.boot with rcRunning := true } } else s

/-- Step 3: the fuses are sensed, and the AVS target goes out on AVSBus (16 R411). -/
def State.senseFuses (s : State) : State :=
  if s.boot.sensed then s
  else
    let s1 := { s with boot := { s.boot with sensed := true } }
    { s1 with pwr := { s1.pwr with target := s1.avsTarget } }.out (.avsTarget s1.avsTarget)

/-- VDD_CORE_SETTLED: step 4; the compute and memory-side dies leave reset. In a wake from DEEP_SLEEP it is WAKE_STEP_DONE
that does so. -/
def vddSettled (s : State) : State :=
  if s.live && s.boot.rcRunning && !s.boot.vddSettled then
    let s1 := s.senseFuses
    { s1 with boot := { s1.boot with vddSettled := true }, pwr := { s1.pwr with dies := 15 } }
  else s

/-- XTAL_AMP_DETECT: step 5; in HELD_NO_XO it only shows in OSC_STATUS (02 R44). -/
def xtalAmp (s : State) : State :=
  if !s.live || s.clk.ampOk then s
  else
    let s1 := { s with clk := { s.clk with ampOk := true } }
    if s.starting then { s1 with boot := { s1.boot with ampAt := some s.now } } else s1

/-- XTAL_COUNT_DONE: step 6, 4,096 crystal cycles (163.84 µs at 25 MHz) after the detector. -/
def xtalCount (s : State) : State :=
  match s.boot.ampAt, s.boot.countAt with
  | some _, none => if s.starting then { s with boot := { s.boot with countAt := some s.now } } else s
  | _, _ => s

/-- The extra delay that XTAL_DLY selects, in ns (02 R35). -/
def xtalDlyNs (code : Nat) : Nat :=
  match code with
  | 0 => 0 | 1 => 2_000_000 | 2 => 8_000_000 | _ => 32_000_000

/-- XTAL_DLY_DONE: step 7, when the delay has run; XO_STABLE is set and the monitor may start. -/
def xtalDly (s : State) : State :=
  match s.boot.countAt with
  | some c =>
    if s.starting && !s.boot.xoStable && decide (c + xtalDlyNs s.boot.straps.xtalDly ≤ s.now) then
      { s with boot := { s.boot with xoStable := true } }
    else s
  | none => s

/-- XO_START_TIMEOUT: the detector has not fired 64 ms after reset release (02 R44). -/
def xoTimeout (s : State) : State :=
  if s.starting && s.boot.ampAt.isNone && decide (s.boot.since + 64_000_000 ≤ s.now) then
    let s1 := { s with boot := { s.boot with phase := .heldNoXo, rrs := false } }
    s1.raise { cls := 0x01, action := 2, unit := unitIo, detail := 2 ^ 17 }
  else s

/-! ## PLLs (R396 to R398) -/

/-- PLLs that take the crystal as reference: all but PCIE. -/
def xtalPlls : List Nat := [0, 1, 3, 4, 5, 6, 7]

/-- The crystal-referenced PLLs that are enabled and not powered down by a gate, as a mask. -/
def State.xtalEnabled (s : State) : Nat :=
  xtalPlls.foldl (fun m n => if s.pllEn n && !s.pllGated n then m + 2 ^ n else m) 0

/-- A PLL may acquire lock now: enabled, with its reference present (steps 3 and 8 of Table 2.2). -/
def State.pllMayLock (s : State) (n : Nat) : Bool :=
  s.live && decide (n < 8) && s.pllEn n && !s.pllGated n && !nbit s.clk.locked n && s.boot.rcRunning &&
    (if n = 2 then true else s.boot.xoStable && (s.boot.vddSettled || !(n = 0 || n = 1 || n = 7)))

/-- TIMEBASE, HBM0 and HBM1 are all locked (step 8). -/
def State.step8 (s : State) : Bool := nbit s.clk.locked 0 && nbit s.clk.locked 1 && nbit s.clk.locked 7

/-- The island of a PLL resumes: the tag timers of its stack have stood still while it was held (Table 15.2 step 4, R398). -/
def State.resumeTags (s : State) (n : Nat) : State :=
  match tfind s.clk.heldSince n with
  | none => s
  | some t =>
    { s with
      clk := { s.clk with heldSince := tdel s.clk.heldSince n }
      mems := { s.mems with reqs := s.mems.reqs.map (fun q => if q.path = n && n ≤ 1 then { q with since := q.since + (s.now - t) } else q) } }

/-- The switchover ends when every PLL it waits for has locked: ON_RC, islands resume, held PLL_CFG writes are applied
(R393, Table 15.3). -/
def State.endSwitch (s : State) : State :=
  match s.clk.switching with
  | some m =>
    let need := m &&& s.xtalEnabled
    if need &&& s.clk.locked = need then
      let s1 := { s with clk := { s.clk with switching := none, onRc := true, held := 0, lost := 0, heldCfg := [] } }
      s.clk.heldCfg.foldl (fun s e => s.pllCfgWrite e.1 e.2) ((List.range 8).foldl (fun s n => s.resumeTags n) s1)
    else s
  | none => s

/-- PCIE has locked: step 3, from which configuration requests are answered with RRS until step 9 (02 R40, R44). -/
def State.pcieLocked (s : State) : State :=
  let a := s.senseFuses
  if a.boot.memDone || a.boot.phase == .heldNoXo then a else { a with boot := { a.boot with rrs := true } }

/-- Step 8: STATE becomes MEM_INIT, and an NVM source is reset (02 R36). -/
def State.enterMemInit (s : State) : State :=
  let a := { s with boot := { s.boot with phase := .memInit } }
  if a.boot.straps.bootSrc < 2 then a.out .xspiReset else a

/-- PLL_LOCKED: PLL n acquires or regains lock. -/
def pllLocked (n : Nat) (s : State) : State :=
  if !s.pllMayLock n then s
  else
    let s1 := { s with clk := { s.clk with locked := nset s.clk.locked n, lost := nclr s.clk.lost n
                                           held := if s.clk.switching.isSome then s.clk.held else nclr s.clk.held n } }
    let s0 : State := if s.clk.switching.isSome then s1 else s1.resumeTags n
    let s2 : State := if n = 2 then s0.pcieLocked else s0
    let s3 : State := if s2.boot.phase == .clocks && s2.step8 then s2.enterMemInit else s2
    s3.endSwitch

/-- PLL_UNLOCK: PLL n loses lock without a request. `xoFailing` says that the crystal is failing and the switchover
follows within 20 µs (Table 15.3). -/
def pllUnlock (n : Nat) (xoFailing : Bool) (s : State) : State :=
  if s.held || !(decide (n < 8)) || !nbit s.clk.locked n then s
  else
    let s1 := { s with clk := { s.clk with locked := nclr s.clk.locked n, lost := nset s.clk.lost n, held := nset s.clk.held n
                                           heldSince := tput s.clk.heldSince n s.now } }
    let s2 := if n = 2 then s1.linkDown else s1
    if xoFailing || s.clk.switching.isSome then s2
    else (s2.markAll fDetected).raise { cls := 0x02, action := 2, unit := 0x7000 + n, detail := 0 }

/-! ## The clock monitor (R391 to R393) -/

/-- The monitor measures: enabled, XO_STABLE, no switchover in progress, RC good, and an island of the crystal enabled. -/
def State.monRuns (s : State) : Bool :=
  s.live && bit (s.rget 0x1_0010) 31 && s.boot.xoStable && s.clk.switching.isNone && !s.clk.rcFault && s.xtalEnabled != 0

/-- A switchover starts (Table 15.2 steps 3 to 5): the record, the frames' marks, and every crystal PLL relocks on RC. -/
def State.switchover (s : State) (count : Nat) : State :=
  let m := s.xtalEnabled
  let s1 := { s with clk := { s.clk with
    switching := some m, locked := s.clk.locked - (s.clk.locked &&& m), held := s.clk.held ||| m
    heldSince := (List.range 8).foldl (fun l n => if nbit m n && !nbit s.clk.held n then tput l n s.now else l) s.clk.heldSince } }
  (s1.markAll fDetected).raise { cls := 0x01, action := 2, unit := unitIo, detail := count % 512 }

/-- MONITOR_WINDOW: a window of 960 RC cycles closes with `count` crystal cycles. After a switchover a bad count starts no other;
XO_OK goes on reporting the verdict (R394, Table 15.3). -/
def monitorWindow (count : Nat) (s : State) : State :=
  if !s.monRuns then s
  else
    let c := count % 512
    let cfg := s.rget 0x1_0010
    let ok := decide (fld cfg 0 9 ≤ c) && decide (c ≤ fld cfg 16 9)
    let k := s.clk
    let s1 := { s with clk := { k with
      xoOk := ok, monLast := c, monAny := true
      monMin := if k.monAny then min k.monMin c else c
      monMax := if k.monAny then max k.monMax c else c } }
    if ok || k.onRc then s1 else s1.switchover c

/-- RC_WINDOW_TIMEOUT: a window has not closed 400 crystal cycles after it opened (R392). -/
def rcTimeout (s : State) : State :=
  if !s.monRuns || s.clk.onRc then s
  else
    let s1 := { s with clk := { s.clk with rcFault := true } }
    (s1.markAll fDetected).raise { cls := 0x01, action := 2, unit := unitIo, detail := 2 ^ 16 }

/-! ## The commands -/

/-- RC_OSCILLATOR_START (15 R390). -/
def execRcOscillatorStart (t : Nat) (s : State) : Host.Outcome State Fault Refusal := .next (rcStart (s.advance t))
/-- VDD_CORE_SETTLED (02 R38). -/
def execVddCoreSettled (t : Nat) (s : State) : Host.Outcome State Fault Refusal := .next (vddSettled (s.advance t))
/-- XTAL_AMP_DETECT (15 R389). -/
def execXtalAmpDetect (t : Nat) (s : State) : Host.Outcome State Fault Refusal := .next (xtalAmp (s.advance t))
/-- XTAL_COUNT_DONE (15 R389). -/
def execXtalCountDone (t : Nat) (s : State) : Host.Outcome State Fault Refusal := .next (xtalCount (s.advance t))
/-- XTAL_DLY_DONE (02 R35). -/
def execXtalDlyDone (t : Nat) (s : State) : Host.Outcome State Fault Refusal := .next (xtalDly (s.advance t))
/-- XO_START_TIMEOUT (02 R44). -/
def execXoStartTimeout (t : Nat) (s : State) : Host.Outcome State Fault Refusal := .next (xoTimeout (s.advance t))
/-- PLL_LOCKED (15 R397). -/
def execPllLocked (t : Nat) (n : Nat) (s : State) : Host.Outcome State Fault Refusal := .next (pllLocked n (s.advance t))
/-- PLL_UNLOCK (15 R398). -/
def execPllUnlock (t : Nat) (n : Nat) (xoFailing : Bool) (s : State) : Host.Outcome State Fault Refusal := .next (pllUnlock n xoFailing (s.advance t))
/-- MONITOR_WINDOW (15 R391). -/
def execMonitorWindow (t : Nat) (count : Nat) (s : State) : Host.Outcome State Fault Refusal := .next (monitorWindow count (s.advance t))
/-- RC_WINDOW_TIMEOUT (15 R392). -/
def execRcWindowTimeout (t : Nat) (s : State) : Host.Outcome State Fault Refusal := .next (rcTimeout (s.advance t))

end Sys2Proof.Machine
end

