-- ==== Sys2Proof/Machine/Residue.lean ====
section
/-! DEFINITION. The residue unit (spec/05 R147 to R150, R146): closing an interval at 40 µs, and the comparison. -/

namespace Sys2Proof.Machine

/-- RESIDUE_INTERVAL_TIMEOUT: a tick at least 40 µs after the interval opened, with the tile still in progress (R148). -/
def residueTimeout (n : Nat) (s : State) : State :=
  if !s.coreRuns n then s
  else
    let k := s.core n
    match k.openAt, s.arrayWalk n with
    | some t, some w =>
      if t + 40_000 ≤ s.now then
        s.putCore n { k.newInterval with
          closed := k.closed ++ [{ walk := w, tileEnd := false, pres := k.pres, ares := k.ares, excl := k.excl }] }
      else s
    | _, _ => s

/-- The lowest lane whose sums differ, lanes excluded by saturation left out (R147, R149). -/
def Closed.mismatch (x : Closed) : Option Nat :=
  (List.range x.walk.lanes).find? (fun j => !nbit x.excl j && x.pres.getD j 0 != x.ares.getD j 0)

/-- The lines of the K-step a walk stands at, which a replay of the instruction has overwritten, are fetched again. -/
def State.refetch (s : State) (n : Nat) (w : Walk) : State :=
  if w.op.diag || w.op.streamIn then s
  else
    ((List.range w.fed).foldl (fun (a : State × Walk) m =>
      match a.1.gatherStd n { a.2 with m, fed := m } with
      | .ok s1 w1 => (s1, w1)
      | .wait => a) (s, { w with segs := [] })).1

/-- The array goes back to the walks after a replay: the walk of the replayed instruction keeps a mismatch that the replay met. -/
def State.endReplay (s : State) (n : Nat) (w : Walk) : State :=
  let k := s.core n
  let s1 := s.putCore n { k with replay := none }
  match tfind k.walks w.op.ctx with
  | some v =>
    if v.op.index = w.op.index then
      let u := { v with skew := v.skew.or w.skew }
      (s1.putCore n { s1.core n with walks := tput k.walks w.op.ctx u }).refetch n u
    else s1
  | none => s1

/-- A tile has passed its comparison: it is counted and goes to the drain; a replay that passes is recorded as MASKED
(14 R371). -/
def State.tilePasses (s : State) (n : Nat) (w : Walk) : State :=
  let s1 := s.bump64 (coreReg n 0x80) 1
  let s2 := if w.replay then
      let a := match w.cause with
        | some (cls, detail) => s1.tileReport n w cls detail 1 true
        | none => s1
      let b := match w.op.stripe with
        | some t => a.markTag t fMasked
        | none => a
      (b.endReplay n w).skipTile n w
    else s1
  (s2.addTile n (w.job false)).wake n

/-- RESIDUE_COMPARE: the comparison of the oldest closed interval. -/
def residueCompare (n : Nat) (s : State) : State :=
  if !s.coreRuns n then s
  else
    let k := s.core n
    match k.closed with
    | [] => s
    | x :: r =>
      let s1 := s.putCore n { k with closed := r }
      match (if bit (s.rget (coreReg n 0x40)) 0 then x.mismatch else none) with
      | some lane => s1.residueFails n x.walk lane (if x.tileEnd then 0 else 2)
      | none => if x.tileEnd then s1.tilePasses n x.walk else s1

/-- RESIDUE_INTERVAL_TIMEOUT (R148). -/
def execResidueIntervalTimeout (t core : Nat) (s : State) : Host.Outcome State Fault Refusal :=
  .next (residueTimeout core (s.advance t))

/-- RESIDUE_COMPARE (R147, R150). -/
def execResidueCompare (t core : Nat) (s : State) : Host.Outcome State Fault Refusal :=
  .next (residueCompare core (s.advance t))

end Sys2Proof.Machine
end

