-- ==== Sys2Proof/Machine/Drain.lean ====
section
/-! DEFINITION. The drain: DRAIN_ROW (spec/05 R144 to R146, spec/09 R223 to R238, spec/06 R171 to R175, spec/08 R213, R216,
spec/13 R355 to R361), and PUBLICATION (spec/13 R362). One row is an accumulator row of a tile, or a run of elements of an
instruction without tiles. -/

namespace Sys2Proof.Machine

/-! ## The working value (R223 to R228) -/

/-- A sample on its way through the drain: its output element, its channel for the chain, its kernel coordinates for CMUL,
its aux operand, its working value and its hold register. -/
structure Samp where
  e : Nat
  y : Nat
  x : Nat
  c : Nat
  ch : Nat
  u : Nat
  k : Nat
  v : Int
  w : Int
  hold : Int
  /-- the sample is an output: an XFORM drops the lanes outside KEEP and the tensor (08 R220) -/
  keep : Bool

/-- Saturate to S40 (R224). -/
def sat40 (x : Int) : Int := sat 40 x

/-- w ÷ 2^k, rounded half to even. -/
def rheK (x : Int) (k : Nat) : Int := rheShift x k

/-- LUT of Table 9.4. -/
def State.lutAtW (s : State) (n tab sh : Nat) (w : Int) : Int :=
  let t (i : Nat) : Int := sx 16 (s.rdLE (lutAt n tab i) 2)
  let i := ashr w sh
  let f := w - i * ((2 ^ sh : Nat) : Int)
  if w < 0 then t 0
  else if 1023 ≤ i then t 1023
  else t i.toNat + rheK ((t (i.toNat + 1) - t i.toNat) * f) sh

/-- The channel lies within C0 to C0 + NC − 1; NC 0 is all. -/
def DOp.on (d : DOp) (c : Nat) : Bool := decide (d.c0 ≤ c) && (d.nc == 0 || decide (c < d.c0 + d.nc))

/-- Channels of a drained row's samples (Table 9.1): N of the array's operations, the output's for the others. -/
def Op.chans (o : Op) : Nat := if o.array && !o.diag then o.n else o.tout.c

/-- The channel lies in a whole triplet of a CMAT (R228). -/
def DOp.triplet (d : DOp) (o : Op) (ch : Nat) : Bool :=
  decide ((ch - d.c0) / 3 * 3 + 3 ≤ (if d.nc = 0 then o.chans - d.c0 else d.nc))

/-- One operation on the samples of a row (Table 9.4). -/
def State.chainStep (s : State) (n : Nat) (o : Op) (d : DOp) (row : List Samp) : List Samp :=
  let at' (i : Nat) : Int := match row[i]? with
    | some q => q.w
    | none => 0
  ((List.range row.length).zip row).map (fun (i, q) =>
    if !d.on q.ch then q
    else
      let p (j : Nat) : Int := s.dpar n o d j
      let rel := q.ch - d.c0
      match d.op with
      | 1 =>
        let sh := sx 8 d.sh
        { q with w := sat40 (if 0 ≤ sh then rheK q.w sh.toNat else q.w * ((2 ^ (-sh).toNat : Nat) : Int)) }
      | 2 => { q with w := sat40 (rheK (q.w * p rel) d.sh) }
      | 3 => { q with w := sat40 (q.w + p rel) }
      | 4 =>
        let r := rel % 3
        if !d.triplet o q.ch then q
        else
          let sum := (List.range 3).foldl (fun (a : Int) j => a + p (3 * r + j) * at' (i + j - r)) 0
          { q with w := sat40 (rheK sum d.sh) }
      | 5 => { q with w := sat40 (s.lutAtW n d.tab d.sh q.w) }
      | 6 => { q with hold := q.w }
      | 7 =>
        let a := s.dalpha n o d
        { q with w := sat40 (rheK (q.hold * (32768 - a) + q.w * a) 15) }
      | 8 =>
        let addr := vaultAt n + d.pidx * 64 + (q.u * 64 + q.k) * 4
        let hr := sx 12 (s.rdLE addr 2)
        let hi := sx 12 (s.rdLE (addr + 2) 2)
        if q.c % 2 = 0 then { q with w := sat40 (rheK (q.w * hr - at' (i + 1) * hi) d.sh) }
        else { q with w := sat40 (rheK (at' (i - 1) * hi + q.w * hr) d.sh) }
      | 9 =>
        match d.tab with
        | 0 => { q with w := sat40 (q.w + q.v) }
        | 1 => { q with w := sat40 (rheK (q.w * q.v) d.sh) }
        | 2 =>
          let a := s.dalpha n o d
          { q with w := sat40 (rheK (q.v * (32768 - a) + q.w * a) 15) }
        | _ => { q with w := max q.w q.v }
      | _ => q)

/-! ### Uncorrectable errors under what a chain reads (14 R368) -/

/-- The words of its parameters, its table or its spectrum that an operation reads for one sample. -/
def State.dopUe1 (s : State) (n : Nat) (d : DOp) (q : Samp) : Option Nat :=
  let par (o k : Nat) : Option Nat := if d.src = 1 then s.firstUe (vaultAt n + d.pidx * 64 + o) k else none
  match d.op with
  | 2 | 3 => par (2 * (q.ch - d.c0)) 2
  | 4 => par 0 18
  | 5 =>
    let i := if q.w < 0 then 0 else min 1023 (ashr q.w d.sh).toNat
    s.firstUe (lutAt n d.tab i) (if 0 < d.sh && 0 ≤ q.w && i < 1023 then 4 else 2)
  | 7 => par 0 2
  | 8 => s.firstUe (vaultAt n + d.pidx * 64 + (q.u * 64 + q.k) * 4) 4
  | 9 => if d.tab = 2 then par 0 2 else none
  | _ => none

/-- The same for a row, over the whole chain. -/
def State.chainUe (s : State) (n : Nat) (o : Op) (row : List Samp) : Option Nat :=
  if s.poison = [] then none
  else
    (o.chain.foldl (fun (a : List Samp × Option Nat) d =>
      (s.chainStep n o d a.1, a.2.or ((a.1.filter (fun q => d.on q.ch)).foldl (fun r q => r.or (s.dopUe1 n d q)) none)))
      (row, none)).2

/-- Bits that the last step saturates to: the output format's, or S32 for values that form B8 blocks. -/
def Op.outBits (o : Op) : Nat := if o.tout.fmt = 4 then 32 else fmtBits o.tout.fmt

/-- Step 3 of R223: format saturation, then the clamp, which ELTW and POOL maximum do not have. The flag tells a saturated output. -/
def Op.finish (o : Op) (w : Int) : Int × Bool :=
  let q := sat o.outBits w
  (if o.opcode = 7 || (o.opcode = 5 && o.subop = 0) then q else clampI o.clampLo o.clampHi q, q != w)

/-! ## B8 output (06 R171 to R174) -/

/-- Number of blocks that go into one bundle header: COUNT of bundle d. -/
def Op.bundleCount (o : Op) (d : Nat) : Nat := min 15 (o.tout.blocks - 15 * d)

/-- A write to a link under a claim enters the claim's CRC, and is stored only while its tile is neither completed nor its slot
taken (10 R264). Other writes are stored. -/
def State.outWrite (s : State) (n : Nat) (o : Op) (p : Place) (a : Int) (bs : List Byte) : State :=
  match (s.ctx n o.ctx).claim with
  | some c =>
    if p.space == 2 && (s.link p.ref).claimed then
      let s1 := s.modCtx n o.ctx (fun x => { x with claim := some { c with crc := crcMore c.crc bs } })
      if s1.claimStores p.ref c then s1.wrPlace n p a bs else s1
    else s.wrPlace n p a bs
  | none => s.wrPlace n p a bs

/-- Write block q of a B8 tensor: its mantissas, and its scale entry; with the first block of a bundle the header and the unused
blocks of a last bundle, which are 0. In a stream the blocks follow one another in the order of the drain, and a bundle leaves when
it is complete. -/
def State.putBlock (s : State) (n : Nat) (o : Op) (q : Nat) (ms : List Int) (e : Nat) : State :=
  let t := o.tout
  let mant := ms.map (fun x => BitVec.ofInt 8 x)
  let slotKey := if t.pl.space = 3 then t.pl.slot else t.scale.slot
  let (k, held) := tget (0, []) (s.core n).bundles slotKey
  let hdr (seq0 cnt : Nat) : List Byte := bytesLE 2 seq0 ++ bytesLE 1 cnt ++ List.replicate 13 0
  let s1 := if t.pl.space = 3 then
      let now := held ++ mant
      let full := k % 15 = 14 || k + 1 = t.blocks
      if full then
        (s.giveStrm n t.pl (now ++ List.replicate (240 - now.length) 0
          ++ hdr ((o.seqBase + (k - k % 15)) % 65536) (k % 15 + 1)))
      else s
    else
      let d := q / 15
      let a := s.outWrite n o t.pl (t.pl.base + (256 * d + 16 * (q % 15) : Nat)) mant
      let cnt := o.bundleCount d
      if q % 15 = 0 then a.outWrite n o t.pl (t.pl.base + (256 * d + 16 * cnt : Nat))
        (List.replicate (240 - 16 * cnt) 0 ++ hdr ((o.seqBase + 15 * d) % 65536) cnt)
      else a
  let seq := (o.seqBase + (if t.pl.space = 3 then k else q)) % 65536
  let entry := bytesLE 4 (e % 64 + seq * 65536)
  let s2 := if t.scale.space = 3 then s1.giveStrm n t.scale entry
    else s1.outWrite n o t.scale (t.scale.base + (4 * q : Nat)) entry
  let full := k % 15 = 14 || k + 1 = t.blocks
  let c := s2.core n
  if t.pl.space = 3 || t.scale.space = 3 then
    let kept := if k + 1 = t.blocks then tdel c.bundles slotKey
      else tput c.bundles slotKey (k + 1, if t.pl.space = 3 && !full then held ++ mant else [])
    s2.putCore n { c with bundles := kept }
  else s2

/-- Bytes of output position (e, y, x) for its tap (R237): `pix` bytes a position, these at `off`. Each goes to the tap of its
source, in its line's place; those of a guard column of a fold to none. -/
def State.tapPut (s : State) (n : Nat) (o : Op) (e y x pix off : Nat) (bs : List Byte) : State :=
  match o.stripe with
  | none => s
  | some t =>
    if o.tap = 0 then s
    else
      let fold := o.outFold
      let place := if fold = [] then some (t.source, x, o.tout.w)
        else ((o.members.zip fold).find? (fun f => decide (f.2.1 ≤ x) && decide (x < f.2.1 + f.2.2))).map
          (fun f => (f.1, x - f.2.1, f.2.2))
      match place with
      | some (src, col, w) =>
        let sh : TapShape := { exposures := 1, width := w, height := o.outHf, chans := o.tout.c, total := o.outHf * o.tout.e }
        s.tapBytes (2 + n) src o.tap t.frame sh (e * o.outHf + o.outY0 + y) (w * pix) (col * pix + off) bs
      | none => s

/-- Encode and write a block of up to 16 values that stand for X × 2^eb; a clamp at E = 63 is counted (B8_SAT). The tap of a B8
output takes the mantissas of a line's blocks (notes/assumptions/48.md). -/
def State.encodeBlock (s : State) (n : Nat) (o : Op) (q : Nat) (xs : List Int) (eb : Int) : State :=
  let (e, ms, cl) := b8Encode (xs ++ List.replicate (16 - xs.length) 0) eb
  let bc := max 1 o.tout.blocksC
  let (pe, py, px) := o.tout.pos (q / bc)
  let s1 := (s.putBlock n o q ms e).tapPut n o pe py px (16 * bc) (16 * (q % bc)) (ms.map (fun x => BitVec.ofInt 8 x))
  if cl then s1.bumpMatch n 0 else s1

/-! ## Writing a row -/

/-- Join writes at consecutive offsets. -/
def joinRuns : List (Int × List Byte) → List (Int × List Byte)
  | [] => []
  | (a, b) :: r =>
    match joinRuns r with
    | (a1, b1) :: r1 => if a + (b.length : Int) = a1 then (a, b ++ b1) :: r1 else (a, b) :: (a1, b1) :: r1
    | [] => [(a, b)]

/-- The samples of a row for the instruction's tap (R237). -/
def State.tapRow (s : State) (n : Nat) (o : Op) (row : List Samp) : State :=
  let size := fmtSize o.tout.fmt
  row.foldl (fun s q => s.tapPut n o q.e q.y q.x (o.tout.c * size) (q.c * size) (fmtEnc o.tout.fmt q.w)) s

/-- The samples of a row that are written. -/
def State.written (s : State) (n : Nat) (o : Op) (row : List Samp) : List Samp :=
  row.filter (fun q => q.keep && s.writesCol n o q.x)

/-- The row can be accepted. B8 blocks need room for a bundle and their entries. -/
def State.rowRoom (s : State) (n : Nat) (o : Op) (row : List Samp) : Bool :=
  if o.tout.fmt = 4 then
    (o.tout.pl.space != 3 || s.strmRoom n o.tout.pl 256) && (o.tout.scale.space != 3 || s.strmRoom n o.tout.scale 16)
  else o.tout.pl.space != 3 || s.strmRoom n o.tout.pl ((s.written n o row).length * fmtSize o.tout.fmt)

/-- Write the samples of a row to the output tensor, in lane order. -/
def State.emitRow (s : State) (n : Nat) (o : Op) (row : List Samp) : State :=
  let kept := s.written n o row
  if o.tout.pl.space = 3 then s.giveStrm n o.tout.pl ((kept.map (fun q => fmtEnc o.tout.fmt q.w)).flatten)
  else
    (joinRuns (kept.map (fun q => (o.tout.off q.e q.y q.x q.c, fmtEnc o.tout.fmt q.w)))).foldl
      (fun s r => s.outWrite n o o.tout.pl r.1 r.2) s

/-- Write a row of B8 values: blocks of 16 channels of one position. -/
def State.emitB8 (s : State) (n : Nat) (o : Op) (row : List Samp) : State :=
  (List.range (ceilDiv row.length 16)).foldl (fun s i =>
    match row[16 * i]? with
    | some q =>
      let p := (q.e * o.tout.h + q.y) * o.tout.w + q.x
      s.encodeBlock n o (p * o.tout.blocksC + q.c / 16) (((row.drop (16 * i)).take 16).map (·.w)) o.eb
    | none => s) s

/-- The chain, the last step and the write of a row; `zero` writes 0 in place of every output (14 R371). -/
def State.drainSamples (s : State) (n : Nat) (o : Op) (row : List Samp) (zero : Bool) : State :=
  let out := if zero then row.map (fun q => ({ q with w := 0 }, false))
    else (o.chain.foldl (fun r d => s.chainStep n o d r) row).map (fun q => let (w, st) := o.finish q.w; ({ q with w }, st))
  let kept := out.filter (fun q => q.1.keep)
  let s1 := State.bumpN (fun s => s.bumpCore n 1) (kept.countP (·.2)) s
  let vals := kept.map (·.1)
  if o.tout.fmt = 4 then s1.emitB8 n o vals else (s1.emitRow n o vals).tapRow n o vals

/-! ## Rows of tiles (05 R144, 07 R191, 09 Table 9.1) -/

/-- The samples of accumulator row m of a tile, after the shift of R144; those of an XFORM that are no output pass the chain too. -/
def State.tileRow (s : State) (n : Nat) (j : DrainJob) : List Samp :=
  let o := j.op
  let p := j.b * o.tileM + j.next
  let acc (l : Nat) : Int := drainShift (sx 32 (s.rdLE (accAt n (j.row0 + j.next) l) 4)) o.sh
  let mk (e y x c ch u k l : Nat) : Samp := { e, y, x, c, ch, u, k, v := 0, w := acc l, hold := 0, keep := true }
  if o.diag then
    let (e, r, y) := o.diagPos p
    (List.range (min 64 (o.tout.w - 64 * r))).map (fun l => mk e y (64 * r + l) j.gr j.gr 0 0 l)
  else if o.opcode = 4 then
    let (e, b, z) := o.xPos p
    let size := if o.xAxisY then o.tout.h else o.tout.w
    (List.range (min 64 (o.n - 64 * j.gr))).map (fun l =>
      let oc := 64 * j.gr + l
      let (f, co) := if o.xOut then (oc / 2, oc % 2) else (oc, 0)
      let first := if o.xKeep then o.opx 1 - 1 else 0
      let at' := b * xformHop o.raw + f - first
      let pos := if o.xKeep then at' else b * 64 + f
      let q := if o.xAxisY then mk e pos z co oc (z % 64) f l else mk e z pos co oc (z % 64) f l
      { q with keep := decide (first ≤ f) && decide (pos < size) })
  else
    let (e, y, x) := if o.opcode = 0x21 then (0, 0, p) else o.tout.pos p
    (List.range (min 64 (o.n - 64 * j.gr))).map (fun l => mk e y x (64 * j.gr + l) (64 * j.gr + l) 0 0 l)

/-! ## Failures in the drain (14 R370, R371) -/

/-- The walk of a job's tile. -/
def DrainJob.walk (j : DrainJob) : Walk :=
  { Walk.start j.op with
    b := j.b, pass := j.gr / max 1 j.op.gpp, slot := j.gr % max 1 j.op.gpp, counted := true, drained := j.next }

/-- A failure in the drain is a failure of the tile being drained; an instruction without tiles is not replayed. -/
def State.drainFails (s : State) (n : Nat) (j : DrainJob) (cls detail : Nat) : State :=
  let k := s.core n
  if j.tile then (s.putCore n { k with drain := k.drain.drop 1 }).tileFails n j.walk cls detail
  else if !s.windowClear n then
    s.fenceCore n { cls, action := 3, unit := n
                    detail := if cls = 0x11 then memOffset detail else detail, frame := tagFrame j.op.stripe }
  else
    let s1 := s.tileReport n j.walk cls detail 2 false
    let s2 := match j.op.stripe with
      | some t => (s1.markTag t fDetected).poisonStripe n j.op.ctx (some t)
      | none => s1
    s2.putCore n { s2.core n with drain := { j with zero := true } :: (s2.core n).drain.drop 1 }

/-! ## Elements without tiles (07 R193) -/

/-- Elements of one row: ELTW by whole positions of at most 64 channels, the others by samples (Table 5.5, Table 9.1). -/
def Op.chunk (o : Op) (next : Nat) : Nat :=
  let c := max 1 o.tout.c
  match o.opcode with
  | 7 => if c ≤ 64 then 64 / c * c else min 64 (c - next % c)
  | 5 => max 1 (64 / (o.fx * o.fy))
  | 6 => if o.subop = 0 then 64 else 32
  | _ => 64

/-- Value of an output element from its sources (R213, R216). -/
def Op.elemVal (o : Op) (x y : Nat) (vs : List Int) : Int :=
  match o.opcode with
  | 5 => vs.foldl max (vs.headD 0)
  | 6 =>
    if o.subop = 0 then vs.headD 0
    else
      let px : Int := sx 16 (o.f 0x3C 2) * 256 + (x * o.f 0x34 4 : Nat)
      let py : Int := sx 16 (o.f 0x3E 2) * 256 + (y * o.f 0x38 4 : Nat)
      let fx := px / 256 % 256
      let fy := py / 256 % 256
      let v (i : Nat) := vs.getD i 0
      rheShift ((v 0 * (256 - fx) + v 1 * fx) * (256 - fy) + (v 2 * (256 - fx) + v 3 * fx) * fy) 16
  | _ => vs.headD 0

/-- Split a list into pieces of given lengths. -/
def splitBy {α : Type} : List Nat → List α → List (List α)
  | [], _ => []
  | k :: r, l => l.take k :: splitBy r (l.drop k)

/-- The row of an instruction without tiles is done: the job moves on, and the instruction ends with its last row. -/
def State.jobNext (s : State) (n : Nat) (j : DrainJob) (by' : Nat) : State :=
  let k := s.core n
  let j1 := { j with next := j.next + by' }
  if j1.next < j1.rows then (s.putCore n { k with drain := j1 :: k.drain.drop 1 }).noteWork n
  else
    let s1 := (s.putCore n { k with drain := k.drain.drop 1 }).noteWork n
    let s2 := if j.tile then s1 else s1.endInputs n j.op j.skew
    s2.wake n

/-- An instruction without tiles waits: the core waits with it, while it runs for the issuing context and no walk is on the
array (01 R24). -/
def State.jobWaits (s : State) (n : Nat) (j : DrainJob) : State :=
  let k := s.core n
  if j.op.ctx = k.cur && (tfind k.walks k.cur).isNone then s.coreWaits n else s

/-- A row of ELTW, POOL maximum or RESAMPLE, or of COPY of samples. -/
def State.elemRow (s : State) (n : Nat) (j : DrainJob) : State :=
  let o := j.op
  let cnt := min (o.chunk j.next) (j.rows - j.next)
  let els := (List.range cnt).map (fun i => o.tout.coord (j.next + i))
  let srcs := els.map (fun (e, y, x, c) => o.elemSrc e y x c)
  let all := srcs.flatten
  let auxs := match o.aux with
    | some _ => if o.opcode = 7 then els.map (fun (e, y, x, c) => o.auxSrc e y x c) else []
    | none => []
  let auxReady := match o.aux with
    | some a => auxs.isEmpty || s.gatherReady n a auxs
    | none => true
  let shape : List Samp := els.map (fun (e, y, x, c) =>
    { e, y, x, c, ch := c, u := 0, k := 0, v := 0, w := 0, hold := 0, keep := true })
  let ueIn := (s.srcUe n o.tin all).or (match o.aux with
    | some a => s.srcUe n a auxs
    | none => none)
  if !(s.gatherReady n o.tin all && auxReady && s.rowRoom n o shape) then s.jobWaits n j
  else
    let (xs, s1) := s.gather n o.tin all
    let (vs, s2) := match o.aux with
      | some a => if auxs.isEmpty then ([], s1) else s1.gather n a auxs
      | none => ([], s1)
    let vals := (splitBy (srcs.map List.length) xs)
    let row := ((List.range cnt).zip shape).map (fun (i, q) =>
      { q with w := o.elemVal q.x q.y (vals.getD i []), v := vs.getD i 0 })
    match (if j.zero then none else ueIn.or (s.chainUe n o row)) with
    | some a => s.drainFails n j 0x11 a
    | none =>
      let s3 := if o.opcode = 7 || o.opcode = 5 then s2.drainSamples n o row j.zero
        else s2.emitRow n o (if j.zero then row.map (fun q => { q with w := 0 }) else row)
      s3.jobNext n j cnt

/-- A row of COPY of a B8 sequence: one bundle with the entries of its blocks, or 64 entries. -/
def State.copyRow (s : State) (n : Nat) (j : DrainJob) : State :=
  let o := j.op
  let move (s : State) (src dst : Place) (off len : Nat) : State :=
    let (bs, s1) := if src.space = 3 then s.takeStrm n src len else (s.rdPlace n src (src.base + off) len, s)
    let out := if j.zero then bs.map (fun _ => 0) else bs
    if dst.space = 3 then s1.giveStrm n dst out else s1.outWrite n o dst (dst.base + off) out
  let ready (src dst : Place) (len : Nat) : Bool :=
    (src.space != 3 || s.strmReady n src len) && (dst.space != 3 || s.strmRoom n dst len)
  let parts := if o.tin.fmt = 6 then [(o.tin.pl, o.tout.pl, 256 * j.next, 4 * min 64 (o.tin.blocks - 64 * j.next))]
    else [(o.tin.pl, o.tout.pl, 256 * j.next, 256), (o.tin.scale, o.tout.scale, 60 * j.next, 4 * min 15 (o.tin.blocks - 15 * j.next))]
  let ue := parts.foldl (fun r (src, _, off, len) => r.or (s.placeUe n src (src.base + (off : Int)) 0 len)) none
  if !parts.all (fun (src, dst, _, len) => ready src dst len) then s.jobWaits n j
  else
    match (if j.zero then none else ue) with
    | some a => s.drainFails n j 0x11 a
    | none => (parts.foldl (fun s (src, dst, off, len) => move s src dst off len) s).jobNext n j 1

/-! ## UPDATE (13 R354 to R361) -/

/-- MODE, RESET_MOM, PUB, WEXP, PUB_SH, PUB_DESC (Table 13.2). -/
def Op.mode (o : Op) : Nat := o.opx 0 % 4
def Op.resetMom (o : Op) : Bool := nbit (o.opx 0) 2
def Op.pub (o : Op) : Nat := nfld (o.opx 0) 4 2
def Op.wexp (o : Op) : Int := Sys2Proof.Machine.sx 8 (o.opx 2)
def Op.pubSh (o : Op) : Nat := o.opx 3 % 32

/-- Elements of block q: position and channels. -/
def Op.blockEls (o : Op) (q : Nat) : List (Nat × Nat × Nat × Nat) :=
  let t := o.tin
  let bc := max 1 t.blocksC
  let (e, y, x) := t.pos (q / bc)
  (List.range (min 16 (t.c - 16 * (q % bc)))).map (fun i => (e, y, x, 16 * (q % bc) + i))

/-- Value of a master weight element. -/
def State.weight (s : State) (n : Nat) (t : Tens) (c : Nat × Nat × Nat × Nat) : Int := s.elem n t c.1 c.2.1 c.2.2.1 c.2.2.2

/-- Multiply by 2^k, floor for a negative k. -/
def mulPow (x k : Int) : Int := if 0 ≤ k then x * ((2 ^ k.toNat : Nat) : Int) else ashr x (-k).toNat

/-- STEP on one element after the first moment has been re-encoded as m1 × 2^(e1 − 39) and the second as code u1: the new
weight, whether it saturated, with the generator's value r (R356). -/
def State.stepWeight (s : State) (n : Nat) (o : Op) (w m1 : Int) (e1 u1 r : Nat) : Int × Bool :=
  let p0 := o.hyper.getD 0 0
  let lrm : Int := (p0 % 65536 : Nat)
  let lre := sx 8 (p0 / 65536)
  let tab := o.opx 0xA % 4
  let rtm : Int := (s.rdLE (lutAt n tab (2 * u1)) 2 : Nat)
  let rte := sx 16 (s.rdLE (lutAt n tab (2 * u1 + 1)) 2)
  let d := sat 48 (mulPow (lrm * m1 * rtm) (lre + e1 - 39 + rte + 16 - o.wexp))
  let dq := (d + (r : Int)) / 65536
  let w1 := sat 16 (w - dq)
  (w1, w1 != w - dq)

/-- The new first moments of a block: their exponent, their mantissas, and whether the block was clamped (R356). -/
def Op.newFirst (o : Op) (count : Nat) (gs : List Int) (eg : Int) (mom : List Int × Nat) : Nat × List Int × Bool :=
  let b1 := max 1 (nfld (o.hyper.getD 0 0) 24 4)
  let em : Int := (mom.2 : Int) - 39
  let e0 := min eg em
  let up (x e : Int) : Int := x * ((2 ^ (e - e0).toNat : Nat) : Int)
  let m1s := (List.range count).map (fun i =>
    let g := up (gs.getD i 0) eg
    let m := if o.resetMom then 0 else up (mom.1.getD i 0) em
    m * ((2 ^ b1 : Nat) : Int) + (g - m))
  b8Encode (m1s ++ List.replicate (16 - m1s.length) 0) (e0 - b1)

/-- The new second moments of a block's elements as U8L codes: v and g × g stand at a common exponent (R356). -/
def State.newSecond (s : State) (n : Nat) (o : Op) (vt : Tens) (els : List (Nat × Nat × Nat × Nat)) (gs : List Int) (eg : Int) :
    List Nat :=
  let b2 := max 1 (nfld (o.hyper.getD 0 0) 28 4)
  let ex : Int := min (-40) (2 * eg)
  (List.range els.length).map (fun i =>
    let u := (s.weight n vt (els.getD i (0, 0, 0, 0))).toNat
    let v : Int := if o.resetMom || u = 0 then 0 else (vd40 u : Int) * ((2 ^ (-40 - ex).toNat : Nat) : Int)
    let g2 : Int := gs.getD i 0 * gs.getD i 0 * ((2 ^ (2 * eg - ex).toNat : Nat) : Int)
    u8lCode (v * ((2 ^ b2 : Nat) : Int) + (g2 - v)).toNat ((b2 : Int) - ex).toNat)

/-- An uncorrectable error under the master weights, the second moments or the entries of RT_TAB that a STEP on a block reads. -/
def State.stepUe (s : State) (n : Nat) (o : Op) (els : List (Nat × Nat × Nat × Nat)) (gs : List Int) (eg : Int) : Option Nat :=
  if s.poison = [] then none
  else
    let srcs := els.map (fun c => Src.mem c.1 c.2.1 c.2.2.1 c.2.2.2)
    match o.vt with
    | some vt => ((s.srcUe n o.tout srcs).or (s.srcUe n vt srcs)).or
        ((s.newSecond n o vt els gs eg).foldl (fun r u => r.or (s.firstUe (lutAt n (o.opx 0xA % 4) (2 * u)) 4)) none)
    | none => none

/-- STEP on block q (R356): gradient values g × 2^eg and the first moment's block have been read. -/
def State.stepBlock (s : State) (n : Nat) (o : Op) (q : Nat) (gs : List Int) (eg : Int) (mom : List Int × Nat) (lfsr : Nat) :
    State × Nat :=
  match o.aux, o.vt with
  | some a, some vt =>
    let els := o.blockEls q
    let (e1, ms, cl) := o.newFirst els.length gs eg mom
    let u1s := s.newSecond n o vt els gs eg
    let d := q / 15
    let s1 := s.wrPlace n a.pl (a.pl.base + (256 * d + 16 * (q % 15) : Nat)) (ms.map (fun x => BitVec.ofInt 8 x))
    let old := ofBytesLE (s1.rdPlace n a.scale (a.scale.base + (4 * q : Nat)) 4)
    let s2 := s1.wrPlace n a.scale (a.scale.base + (4 * q : Nat)) (bytesLE 4 (e1 % 64 + old / 65536 * 65536))
    let s3 := if cl then s2.bumpMatch n 0 else s2
    (List.range els.length).foldl (fun (r : State × Nat) i =>
      let (st, l) := r
      let l1 := lfsrNext l
      let c := els.getD i (0, 0, 0, 0)
      let (w1, sat') := st.stepWeight n o (st.weight n o.tout c) (ms.getD i 0) e1 (u1s.getD i 0) (l1 % 65536)
      let a1 := st.wrPlace n vt.pl (vt.off c.1 c.2.1 c.2.2.1 c.2.2.2) (bytesLE 1 (u1s.getD i 0))
      let a2 := a1.wrPlace n o.tout.pl (o.tout.off c.1 c.2.1 c.2.2.1 c.2.2.2) (bytesLE 2 (toU 16 w1))
      let a3 := if sat' then a2.bumpMatch n 2 else a2
      (a3.bump64 (coreReg n 0x320) 1, l1)) (s3, lfsr)
  | _, _ => (s, lfsr)

/-- Publication of a TENSOR target (R360): every element, rounded by PUB_SH and saturated to its format; `ws` holds the master
weights in position order. -/
def State.pubTensor (s : State) (n : Nat) (o : Op) (ws : List Int) : State :=
  match o.pubT with
  | none => s
  | some t =>
    (List.range t.count).foldl (fun s i =>
      let c := t.coord i
      let v := sat (fmtBits t.fmt) (rheShift (ws.getD i 0) o.pubSh)
      s.wrPlace n t.pl (t.off c.1 c.2.1 c.2.2.1 c.2.2.2) (fmtEnc t.fmt v)) s

/-- The last row of an UPDATE: TENSOR targets are written, the others wait for PUBLICATION (R362). The weights published are those
that PUBLISH mode has read, or those in T_OUT after the step. A mismatch publishes nothing (R357). -/
def State.updateEnd (s : State) (n : Nat) (j : DrainJob) : State :=
  let o := j.op
  if j.skew || j.zero then s
  else
    let ws := if o.mode = 2 then j.got else (List.range o.tout.count).map (fun i => s.weight n o.tout (o.tout.coord i))
    match o.pub with
    | 0 => s
    | 3 => s.pubTensor n o ws
    | _ => s.modCtx n o.ctx (fun x => { x with publish := some (o, ws) })

/-- A block of an UPDATE is done. -/
def State.updateNext (s : State) (n : Nat) (j : DrainJob) : State :=
  let s1 := if j.next + 1 = j.rows then s.updateEnd n j else s
  s1.jobNext n j 1

/-- The gradient of block q of a STEP: the state after it, the blocks taken, whether it lies behind a mismatch, and the values as
g × 2^e; `none` while it has not been delivered. -/
def State.stepGrad (s : State) (n : Nat) (j : DrainJob) (srcs : List Src) : Option (State × Nat × Bool × List Int × Int) :=
  let o := j.op
  if o.tin.fmt = 4 then
    match s.takeBlocks n o o.tin false [j.next] j.blocks j.skew with
    | some (s1, k, sk, [b]) => some (s1, k, sk, b.1, (b.2 : Int) - 39)
    | _ => none
  else if s.gatherReady n o.tin srcs then
    let (xs, s1) := s.gather n o.tin srcs
    some (s1, j.blocks, j.skew, xs, o.eb)
  else none

/-- Block q of a STEP. The generator advances for every element, those behind a mismatch too, and LFSR_STATE follows it (R359). -/
def State.stepRow (s : State) (n : Nat) (j : DrainJob) : State :=
  let o := j.op
  let els := o.blockEls j.next
  let srcs := els.map (fun c => Src.mem c.1 c.2.1 c.2.2.1 c.2.2.2)
  match s.stepGrad n j srcs with
  | none => s.jobWaits n j
  | some (s1, k, sk, gs, eg) =>
    match (match o.aux with
      | some a => s1.takeBlocks n o a false [j.next] j.next sk
      | none => none) with
    | some (s2, _, sk2, [m]) =>
      let ue := if j.zero || j.skew then none
        else ((if o.tin.fmt = 4 then s.blocksUe n o.tin [j.next] j.blocks else s.srcUe n o.tin srcs).or
          (match o.aux with
            | some a => s.blocksUe n a [j.next] j.next
            | none => none)).or (if sk2 then none else s.stepUe n o els gs eg)
      match ue with
      | some a => s.drainFails n j 0x11 a
      | none =>
        let (s3, l) := if sk2 || j.zero then (s2, (List.range els.length).foldl (fun l _ => lfsrNext l) j.lfsr)
          else s2.stepBlock n o j.next gs eg m j.lfsr
        (s3.rput (coreReg n 0x338) (wd l)).updateNext n { j with blocks := k, skew := sk2, lfsr := l }
    | _ => s.jobWaits n j

/-- A row of UPDATE: up to four blocks of 16 elements; here one block. -/
def State.updateRow (s : State) (n : Nat) (j : DrainJob) : State :=
  let o := j.op
  if o.mode = 0 then s.stepRow n j
  else
    let srcs := (o.blockEls j.next).map (fun c => Src.mem c.1 c.2.1 c.2.2.1 c.2.2.2)
    if !(s.gatherReady n o.tin srcs && (o.mode = 2 || s.rowRoom n o [])) then s.jobWaits n j
    else
      match (if j.zero then none else s.srcUe n o.tin srcs) with
      | some a => s.drainFails n j 0x11 a
      | none =>
        let (xs, s1) := s.gather n o.tin srcs
        if o.mode = 2 then s1.updateNext n { j with got := j.got ++ xs }
        else (s1.encodeBlock n o j.next (if j.zero then xs.map (fun _ => 0) else xs) o.eb).updateNext n j

/-- A row of the head job. -/
def State.drainHead (s : State) (n : Nat) (j : DrainJob) : State :=
  let o := j.op
  if j.tile then
    let row := s.tileRow n j
    if !s.rowRoom n o row then s
    else
      match (if j.zero then none else s.chainUe n o row) with
      | some a => s.drainFails n j 0x11 a
      | none => ((s.drainSamples n o row j.zero).bump64 (coreReg n 0x90) 1).jobNext n j 1
  else
    -- the first element waits for the outputs of the context's instructions before (R177)
    if j.next = 0 && o.dep && !s.ctxDrained n o.ctx o.outSlots then s.jobWaits n j
    else if o.opcode = 0x22 then s.updateRow n j
    else if o.opcode = 8 && (o.tin.fmt = 4 || o.tin.fmt = 6) then s.copyRow n j
    else s.elemRow n j

/-- DRAIN_ROW: one row of the drain of core n, or what an upset in it does. -/
def drainRow (n : Nat) (u : Upset) (s : State) : State :=
  if !s.coreRuns n then s
  else
    match (s.core n).drain with
    | [] => s
    | j :: _ =>
      match u with
      | .none => s.drainHead n j
      | .lockstep => s.lockstep n
      | .ecc true a => s.drainFails n j 0x11 a
      | .ecc false a => (s.raiseEcc 0x10 a).drainHead n j
      | .parity lane | .flip lane _ =>
        let v := s.resLast n lane j.op.ctx 0
        ((s.bumpCore n 2).rput (coreReg n 0x44) (wd v)).drainFails n j 0x20 (j.walk.detail v)

/-! ## PUBLICATION (R360 to R362) -/

/-- A context has a data macro-instruction under way on the array: a tile of its walk has begun and the walk is not over. -/
def State.midWalk (s : State) (n c : Nat) : Bool :=
  match tfind (s.core n).walks c with
  | some w => w.begun
  | none => false

/-- Set bits [lo+len-1:lo] of a run of bytes. -/
def State.setBits (s : State) (a lo len v : Nat) : State :=
  let o := lo / 8
  let k := (lo % 8 + len + 7) / 8
  let old := s.rdLE (a + o) k
  s.wr (a + o) (bytesLE k (old - nfld old (lo % 8) len * 2 ^ (lo % 8) + v % 2 ^ len * 2 ^ (lo % 8)))

/-- Write centroid k of a codebook word with its residue. -/
def State.putCentroid (s : State) (n w k : Nat) (v : Int) : State :=
  (s.setBits (cbAt n w) (12 * k) 12 (toU 12 v)).setBits (cbAt n w + 24) (3 * k) 3 (mod7 v)

/-- The codebook words of an UPDATE (Table 13.4), from the master weights in position order, and how many they are. -/
def State.pubWords (s : State) (n : Nat) (o : Op) (vs : List Int) : State × Nat :=
  let w := if o.mode = 2 then o.tin else o.tout
  let at' (i : Nat) : Nat := o.f 0x3A 2 + 8 + i
  let tEn := nbit (o.f 0x3C 2) 15
  let tw (i : Nat) : Nat := o.f 0x3C 2 % 2 ^ 14 + 8 + i
  if o.pub = 1 then
    let val (x c : Nat) : Int := sat 12 (rheShift (vs.getD (x * w.c + c) 0) o.pubSh)
    let s1 := (List.range w.w).foldl (fun s x => (List.range w.c).foldl (fun s c =>
      let a := s.putCentroid n (at' c) x (val x c)
      if tEn then a.putCentroid n (tw x) c (val x c) else a) s) s
    (s1, w.c + (if tEn then w.w else 0))
  else
    let s1 := (List.range w.c).foldl (fun s c =>
      s.wr (cbAt n (o.f 0x3A 2) + 4 * c) (bytesLE 4 (toU 32 (sat 32 (vs.getD c 0 * ((2 ^ o.pubSh : Nat) : Int)))))) s
    (s1, ceilDiv w.c 8)

/-- PUBLICATION: a context's UPDATE has finished, every other context is between data macro-instructions, and no tile is being
replayed. Shadow registers are loaded anew, so that every tile that starts after it uses the new words. -/
def publication (n : Nat) (s : State) : State :=
  if !s.coreRuns n then s
  else
    match [0, 1, 2, 3].find? (fun c => (s.ctx n c).publish.isSome && !s.ctxFenced n c) with
    | none => s
    | some c =>
      match (s.ctx n c).publish with
      | none => s
      | some (o, ws) =>
        if [0, 1, 2, 3].any (fun d => d != c && s.midWalk n d) || (s.core n).replay.isSome then s
        else
          let (s1, k) := s.pubWords n o ws
          let s2 := s1.putCore n { s1.core n with ahead := none }
          ((s2.bump64 (coreReg n 0x328) k).modCtx n c (fun x => { x with publish := none })).wake n

/-- DRAIN_ROW (05 R145). -/
def execDrainRow (t core : Nat) (upset : Upset) (s : State) : Host.Outcome State Fault Refusal :=
  .next (drainRow core upset (s.advance t))

/-- PUBLICATION (13 R362). -/
def execPublication (t core : Nat) (s : State) : Host.Outcome State Fault Refusal := .next (publication core (s.advance t))

end Sys2Proof.Machine
end

