-- ==== Sys2Proof/Machine/Control.lean ====
section
/-! DEFINITION. Fetch and the control macro-instructions (spec/07 R177 to R180, Table 7.3; spec/10 R255 to R264, R274): MACRO_FETCH,
CLAIM, WAIT_SEM, SIGNAL_SEM, LOOP and END, and the commands by which a signal reaches its semaphore and a claim its answer. -/

namespace Sys2Proof.Machine

/-! ## Fetch (05 R151) -/

/-- Vault address of macro-instruction i of a context (R176). -/
def State.macroAt (s : State) (n c i : Nat) : Nat :=
  vaultAt n + ((s.rget (coreReg n (0x30 + 4 * c))).toNat + 64 * i) % 0x40_0000

/-- MACRO_FETCH: the next 64 bytes of a context's program enter its queue, unless it is full or fetch must wait (R180). An
uncorrectable error in them, or in the queue's entry (05 R131), fences the core (notes/assumptions/17.md). `ecc` tells of an error in
the entry: correctable, or with `true` uncorrectable. -/
def macroFetch (n c : Nat) (ecc : Option Bool) (s : State) : State :=
  let x := s.ctx n c
  if !(s.ctxRuns n c && decide (c < 4) && decide (x.queue.length < s.mqEntries n c) && x.fetchFree) then s
  else
    let i := x.fetchNext
    let a := s.macroAt n c i
    let e := s.queueEntry n c x.fetched
    if s.poisonedIn a 64 || ecc = some true then s.fenceCore n { cls := 0x11, action := 3, unit := n, detail := memOffset a }
    else
      let s1 := if ecc = some false then s.raise { cls := 0x10, action := 1, unit := n, detail := memOffset a } else s
      (State.queueWritten (s1.modCtx n c (fun x => { x with queue := x.queue ++ [(i, s.rd a 64)], fetched := x.fetched + 1 }))
        (mqAt n e)).wake n

/-! ## Checks of control instructions (R187, R274, R179) -/

/-- Table 7.3: ranges, and unused fields 0. -/
def ctlFieldsOk (r : List Byte) : Bool :=
  let b (i : Nat) := leAt r i 1
  zerosAt r 0x0C 52 &&
    match b 0 with
    | 0x10 => b 1 == 0 && decide (leAt r 2 2 < 256) && decide (b 4 < 4) && decide (b 5 ≤ 62) && leAt r 6 2 == 0 && boundWf (leAt r 8 4)
    | 0x11 => decide (b 1 < 2) && decide (leAt r 2 2 < 1024) && decide (b 4 < 2) && b 5 != 0 && zerosAt r 6 6
    | 0x12 => decide (b 1 < 4) && decide (leAt r 2 2 < 1024) && decide (b 4 < 2) && b 5 != 0 && zerosAt r 6 6
    | 0x13 => b 1 == 0 && decide (leAt r 2 2 < 4) && decide (1 ≤ b 4) && decide (b 4 ≤ 62) && b 5 == 0 && boundWf (leAt r 8 4)
    | 0x14 => decide (b 1 < 2) && zerosAt r 2 10
    | _ => false

/-- R274: the link is enabled, the context has the role, COUNT and the flags fit. -/
def State.ctlLinkOk (s : State) (n c : Nat) (r : List Byte) : Bool :=
  let m := 4 * n + c
  let d := s.link (leAt r 2 2)
  let full := leAt r 4 1 == 0
  match leAt r 0 1 with
  | 0x10 => let d := s.link (s.ctrLink (leAt r 2 2)); d.en && d.prods.contains m
  | 0x11 => d.en && (if full then d.cons.contains m else d.prods.contains m) && decide (leAt r 5 1 ≤ d.slots)
      && (full || !nbit (leAt r 1 1) 0)
  | 0x12 => d.en && (if full then d.prods.contains m else d.cons.contains m) && decide (leAt r 5 1 ≤ d.slots)
      && (full || !nbit (leAt r 1 1) 1) && (!full || !d.claimed || leAt r 5 1 == 1)
  | _ => true

/-- The value of the bound word of a LOOP or CLAIM: 0 to 65,535; a word that does not resolve fails as check 2 does
(notes/assumptions/18.md). -/
def State.ctlBound (s : State) (n c : Nat) (r : List Byte) : Chk Nat :=
  match s.bound (s.ctx n c).stripe none (leAt r 8 4) with
  | none => .error (shapeE 2 0)
  | some v => if 0 ≤ v ∧ v ≤ 65535 then .ok v.toNat else .error (shapeE 2 v.toNat)

/-- Check 16: loops nest up to 4 deep, each within the outer one, on different index registers and without END; a CLAIM
writes no index register of an enclosing loop. -/
def State.ctlLoopOk (s : State) (n c i : Nat) (r : List Byte) : Bool :=
  let ls := (s.ctx n c).loops
  let body := leAt r 4 1
  match leAt r 0 1 with
  | 0x10 => ls.all (fun l => l.idx != leAt r 4 1)
  | 0x13 => decide (ls.length < 4) && ls.all (fun l => l.idx != leAt r 2 2 && decide (i + body ≤ l.last))
      && (List.range body).all (fun k => memByte s.mem (s.macroAt n c (i + 1 + k)) != 0x14#8)
  | _ => true

/-- The checks of a control instruction, in order; the result is its bound, 0 where it has none. -/
def State.ctlCheck (s : State) (n c i : Nat) (r : List Byte) : Chk Nat := do
  need (ctlFieldsOk r && s.ctlLinkOk n c r) (fmtE 1 0)
  let v ← if leAt r 0 1 = 0x10 || leAt r 0 1 = 0x13 then s.ctlBound n c r else .ok 0
  need (s.ctlLoopOk n c i r) (fmtE 16 0)
  .ok v

/-- Issue the control instruction at the head of the issuing context, if `want` accepts it: its checks, then `act` with the
context, its index, its bytes and its bound. A word of its queue entry that is held in error fences the core (05 R131). -/
def State.issueCtl (n : Nat) (want : List Byte → Bool) (act : Nat → Nat → List Byte → Nat → State → State) (s : State) : State :=
  let c := (s.core n).cur
  if !s.ctxRuns n c then s
  else
    match s.head n c with
    | none => s
    | some (i, r) =>
      if !(want r || !knownOpcode r) then s
      else if s.ctxBusy n c then s.coreWaits n
      else
        match s.headUe n c with
        | some a => s.fenceHead n a
        | none =>
          match s.ctlCheck n c i r with
          | .error e => s.issueFail n c i r e
          | .ok v => act c i r v s

/-! ## LOOP and END (R179, R180) -/

/-- LOOP. -/
def State.loopIssue (n c i : Nat) (r : List Byte) (count : Nat) (s : State) : State :=
  let idx := leAt r 2 2
  let body := leAt r 4 1
  let s1 := (s.bump64 (coreReg n 0xA0) 1).modCtx n c (fun x =>
    { x with queue := x.queue.drop 1, idx := lset x.idx idx (leAt r 6 2), blocked := false })
  let s2 := s1.modCtx n c (fun x =>
    if count = 0 then x.after (i + body)
    else { x with fetchAt := i + 1, loops := { idx, first := i + 1, last := i + body, left := count } :: x.loops })
  s2.wake n

/-- The stripe that a context of the last stage has worked on has passed it (09 R239). -/
def State.passStripe (s : State) (n c : Nat) : State :=
  let x := s.ctx n c
  match x.stripe with
  | some t =>
    if x.lastSeen && s.lastStage (4 * n + c) then
      let srcs := s.tagSources t
      { s with flights := s.flights.map (fun f =>
        if srcs.contains f.source && f.frame == t.frame && !f.passes.contains (4 * n + c, t.stripe) then
          { f with passes := (4 * n + c, t.stripe) :: f.passes, metAt := s.now }
        else f) }
    else s
  | none => s

/-- END: with RESTART issue and fetch go back to CTX_PROG; without, the context stops until the next re-arm. -/
def State.endIssue (n c _i : Nat) (r : List Byte) (_v : Nat) (s : State) : State :=
  let again := nbit (leAt r 1 1) 0
  (((s.passStripe n c).bump64 (coreReg n 0xA0) 1).modCtx n c (fun x =>
    { x with queue := x.queue.drop 1, fetchAt := 0, ended := !again, blocked := false })).pick n

/-! ## WAIT_SEM (R256, R258, R184) -/

/-- Segments of one stripe among those admitted. -/
def sameStripe (t : Option Tag) (ts : List (Option Tag)) : List Tag :=
  match t with
  | some t => ts.filterMap (fun u => match u with
    | some u => if u.same t then some u else none
    | none => none)
  | none => []

/-- What admitted segments leave with the context: a stripe latched with SET_STRIPE, and their marks (R260). -/
def Ctx.takeIn (x : Ctx) (setStripe : Bool) (ts : List (Option Tag)) : Ctx :=
  let y := if setStripe then
      { x with stripe := (ts.head?).getD none, segs := 0, poisoned := false, late := false, lastSeen := false }
    else x
  let us := sameStripe y.stripe ts
  { y with poisoned := y.poisoned || us.any (·.poisoned), late := y.late || us.any (·.late)
           lastSeen := y.lastSeen || us.any (·.last) }

/-- WAIT_SEM. -/
def State.waitIssue (n c i : Nat) (r : List Byte) (_v : Nat) (s : State) : State :=
  let l := waitLink r
  let full := waitFull r
  let k := waitCount r
  let m := 4 * n + c
  if !s.canWait l full m k then
    ((s.modCtx n c (fun x => { x with blocked := true })).noteWait (s.linkPart l)).pick n
  else
    let set := nbit (leAt r 1 1) 0
    let ts := if full then s.admitTags l m k (s.ctx n c).stripe else []
    let slot := tget 0 (s.lnk l).admitted m % max (s.link l).slots 1
    let s1 := (if set then s.passStripe n c else s).takeWait l full m k
    let s2 := ts.foldl (fun s t => match t with
      | some t => if t.poisoned then s.markTag t fPoisoned else s
      | none => s) s1
    let s3 := if full then s2.modCtx n c (fun x => { x.takeIn set ts with origins := tput x.origins l slot }) else s2
    ((s3.issued n c i).noteAdvance (s.linkPart l)).wake n

/-! ## SIGNAL_SEM and the semaphores (R254, R257, R264) -/

/-- SIGNAL_SEM: with AFTER_DRAIN it waits until every output write of the context has been accepted; then the signal is on its
way to the link's semaphore. -/
def State.signalIssue (n c i : Nat) (r : List Byte) (_v : Nat) (s : State) : State :=
  if nbit (leAt r 1 1) 0 && !s.ctxDrained n c [] then s.coreWaits n
  else
    let x := s.ctx n c
    let full := waitFull r
    let k := waitCount r
    let g : Signal :=
      { link := waitLink r, full, member := 4 * n + c, count := k, endStripe := nbit (leAt r 1 1) 1, index := i
        tag := x.stripe.map (fun t => { t with poisoned := x.poisoned, late := x.late }), seg := x.segs
        claim := x.claim.map (fun c => { c with tag := { c.tag with poisoned := x.poisoned, late := x.late } }) }
    let s1 := { s with signals := s.signals ++ [g] }
    ((s1.modCtx n c (fun x => if full then { x with segs := (x.segs + k) % 65536 } else x)).issued n c i).wake n

/-- A refused signal (R257): FORMAT, and the context stops. -/
def State.refuseSignal (s : State) (g : Signal) : State :=
  (s.stopCtx (g.member / 4) (g.member % 4) 0x32
    (0x20 + 0x12 * 256 + g.member % 4 * 2 ^ 16 + g.index % 65536 * 2 ^ 32 + g.link * 2 ^ 48)).pick (g.member / 4)

/-- A signal takes effect. -/
def State.applySignal (s : State) (g : Signal) : State :=
  let d := s.link g.link
  let x := s.lnk g.link
  if x.fenced then s
  else if g.full && d.claimed then
    match g.claim with
    | some c =>
      if c.tile = 0xFFFF || c.counter != d.counter then s.refuseSignal g
      else if x.fullOk d (s.completeRun g.link c) then s.complete g.link (g.member / 4) c
      else s.refuseSignal g
    | none => s.refuseSignal g
  else if g.full then
    if x.fullOk d g.count then s.publishAll g.link g.tags else s.refuseSignal g
  else if x.emptyOk d g.member g.count then s.signalEmpty g.link g.member g.count
  else s.refuseSignal g

/-- A control array's word of a link is read in error (14 R368): corrected, or the link becomes FENCED. The array has no addresses, so
the detail is a free value (notes/assumptions/174.md). -/
def State.ctrlEcc (s : State) (die l : Nat) (t : Option Tag) (ecc : Option Bool) : State :=
  match ecc with
  | none => s
  | some ue =>
    let (v, s1) := s.freeN
    if !ue then s1.raise { cls := 0x10, action := 1, unit := 0x1004 + die, detail := v % 2 ^ 64 }
    else
      let s2 := match t with
        | some t => s1.markTag t fDetected
        | none => s1
      (s2.raise { cls := 0x11, action := 2, unit := 0x1004 + die, detail := v % 2 ^ 64, frame := tagFrame t }).fenceLinks
        (fun i _ => i == l)

/-- SEMAPHORE_UPDATE: the oldest signal takes effect, and what waits for it can go on. `ecc` tells of an error in the semaphore:
correctable, or with `true` uncorrectable. -/
def semaphoreUpdate (ecc : Option Bool) (s : State) : State :=
  match s.signals with
  | [] => s
  | g :: r => ((State.ctrlEcc { s with signals := r } (s.link g.link).semDie g.link g.tag ecc).applySignal g).wakeAll

/-! ## CLAIM (R262) -/

/-- The tag of a context without a current stripe: it names no stripe (notes/assumptions/19.md). -/
def Tag.noStripe : Tag :=
  { source := 4096, fold := false, epoch := 0, frame := 0, stripe := 0, lines := 0, last := false, poisoned := false, late := false
    seg := 0 }

/-- CLAIM: the stripe and LIMIT go to the counter; the context waits for the answer. -/
def State.claimIssue (n c _i : Nat) (r : List Byte) (limit : Nat) (s : State) : State :=
  let w := leAt r 2 2
  let ask : ClaimAsk := { counter := w, tag := (s.ctx n c).stripe.getD Tag.noStripe, limit }
  (if (s.ctx n c).asked.isSome then s
   else (s.modCtx n c (fun x => { x with asked := some ask, blocked := true })).noteWait (s.linkPart (s.ctrLink w))).pick n

/-- The claim is answered: the tile, or 0xFFFF for exhausted, goes to idx[IDX]; an index of at least the CLAIM's LIMIT skips SKIP
instructions, whose loops are left with them (07 R179). -/
def State.claimTake (s : State) (n c i : Nat) (r : List Byte) (a : ClaimAsk) (tile seq : Nat) : State :=
  let skip := if a.limit ≤ tile then leAt r 5 1 else 0
  ((s.bump64 (coreReg n 0xA0) 1).modCtx n c (fun x =>
    let y := { x with
      queue := x.queue.drop 1, asked := none, blocked := false, idx := lset x.idx (leAt r 4 1) tile
      claim := some { counter := a.counter, tag := a.tag, tile, seq, crc := crcMore 0 [] }
      loops := x.loops.filter (fun l => decide (i + skip ≤ l.last)) }
    y.after (i + skip))).wake n

/-- An exhausted answer returns its credit (R263). -/
def State.returnCredit (s : State) (l : Nat) : State :=
  let x := s.lnk l
  (s.putLnk l { x with returned := (x.returned + 1) % 65536 }).noteAdvance (s.linkPart l)

/-- CLAIM_ANSWER: the counter answers the claim of a context; not ready leaves it waiting. `ecc` tells of an error in the counter:
correctable, or with `true` uncorrectable. -/
def claimAnswer (n c : Nat) (stuck : Bool) (ecc : Option Bool) (s0 : State) : State :=
  if !s0.ctxRuns n c then s0
  else
    match (s0.ctx n c).asked, s0.head n c with
    | some a, some (i, r) =>
      let l := s0.ctrLink a.counter
      let s := s0.ctrlEcc (a.counter / 64) l (s0.ctx n c).stripe ecc
      let w := tget WorkCtr.init s.wctrs a.counter
      if (s.lnk l).fenced then
        let s1 := { s with wctrs := tput s.wctrs a.counter { w with seq := (w.seq + 1) % 2 ^ 32 } }
        ((s1.claimTake n c i r a 0xFFFF w.seq).returnCredit l).wakeAll
      else
        match w.answer a.tag a.limit stuck with
        | (.notReady, _) => s
        | (.exhausted q, w') =>
          let s1 := { s with wctrs := tput s.wctrs a.counter w' }
          ((s1.claimTake n c i r a 0xFFFF q).returnCredit l).wakeAll
        | (.tile k q, w') =>
          let fresh := match w.cur with
            | some u => !u.same a.tag
            | none => true
          let s1 := { s with wctrs := tput s.wctrs a.counter w' }
          let s2 := if fresh then s1.beginStripe l a.tag a.limit else s1
          ((s2.useSlot l a.tag k).claimTake n c i r a k q).noteAdvance (s.linkPart l)
    | _, _ => s0

/-! ## The commands -/

/-- MACRO_FETCH (05 R151). -/
def execMacroFetch (t core ctx : Nat) (ecc : Option Bool) (s : State) : Host.Outcome State Fault Refusal :=
  .next (macroFetch core ctx ecc (s.advance t))
/-- CLAIM (07 R179, 10 R262). -/
def execClaim (t core : Nat) (s : State) : Host.Outcome State Fault Refusal :=
  .next ((s.advance t).issueCtl core (isOp 0x10) (State.claimIssue core))
/-- WAIT_SEM (10 R256). -/
def execWaitSem (t core : Nat) (s : State) : Host.Outcome State Fault Refusal :=
  .next ((s.advance t).issueCtl core (isOp 0x11) (State.waitIssue core))
/-- SIGNAL_SEM (10 R254, R256). -/
def execSignalSem (t core : Nat) (s : State) : Host.Outcome State Fault Refusal :=
  .next ((s.advance t).issueCtl core (isOp 0x12) (State.signalIssue core))
/-- LOOP (07 R179). -/
def execLoop (t core : Nat) (s : State) : Host.Outcome State Fault Refusal :=
  .next ((s.advance t).issueCtl core (isOp 0x13) (State.loopIssue core))
/-- END with RESTART = 0 (07 R180). -/
def execEndStop (t core : Nat) (s : State) : Host.Outcome State Fault Refusal :=
  .next ((s.advance t).issueCtl core (fun r => isOp 0x14 r && !nbit (leAt r 1 1) 0) (State.endIssue core))
/-- END with RESTART = 1 (07 R180). -/
def execEndRestart (t core : Nat) (s : State) : Host.Outcome State Fault Refusal :=
  .next ((s.advance t).issueCtl core (fun r => isOp 0x14 r && nbit (leAt r 1 1) 0) (State.endIssue core))
/-- SEMAPHORE_UPDATE (10 R254). -/
def execSemaphoreUpdate (t : Nat) (ecc : Option Bool) (s : State) : Host.Outcome State Fault Refusal :=
  .next (semaphoreUpdate ecc (s.advance t))
/-- CLAIM_ANSWER (10 R262). -/
def execClaimAnswer (t core ctx : Nat) (stuck : Bool) (ecc : Option Bool) (s : State) : Host.Outcome State Fault Refusal :=
  .next (claimAnswer core ctx stuck ecc (s.advance t))

end Sys2Proof.Machine
end

