-- ==== Sys2Proof/Machine/Final.lean ====
section
/-! DEFINITION. The end of a frame: when its Frame Record is final (spec/09_drain_chains_finish_and_transmit.md R239), the deadline of
spec/10 R270 and R271, and the records of NOTIFY channels (spec/12 R341). -/

namespace Sys2Proof.Machine

/-- The members of a chain's last stage: the consumers of the links that lead to it. -/
def State.lastMembers (s : State) (chain : Nat) : List Nat :=
  (s.linkIds.filter (fun l => (s.link l).chain == chain && (s.link l).consStage + 1 == s.chainStages chain)).flatMap
    (fun l => (s.link l).cons)

/-- Every stripe of the frame has been taken by the front stage and has passed every member of the last stage. -/
def State.passedAll (s : State) (f : Flight) : Bool :=
  let e := s.src f.source
  (List.range e.stripes).all (fun j => (s.lastMembers e.chain).all (fun m => f.passes.contains (m, j)))

/-- A write issued for the frame has not been accepted. -/
def State.writesOut (s : State) (f : Flight) : Bool :=
  s.mems.reqs.any (fun q => q.write && match q.client with
    | .strm r k => match (s.strm r k).stripe with
      | some t => (s.tagSources t).contains f.source && t.frame == f.frame
      | none => false
    | .dma c => (s.chan c).jobs.any (fun j => j.id == q.epoch && j.frame == some (f.source, f.frame))
    | .tap t => (tget [] s.front.tapQ t).any (fun w => w.source == f.source && w.frame == f.frame && decide (w.accepted < w.issued))
    | .ingress p => (s.ing' p).queue.any (fun w => w.source == f.source && w.frame == f.frame && decide (w.accepted < w.issued))
    | .aux id => match s.findAux id with
      | some a => a.use == .frameRecord ((a.use.chan).getD 0) f.source f.frame
      | none => false)

/-- The conditions of R239. A frame that was stopped needs only the writes already issued for it; nothing else waives a condition,
so that a frame whose chain ends in a fenced context waits for the re-arm that clears the fence (notes/assumptions/27.md). -/
def State.finalReady (s : State) (f : Flight) : Bool :=
  if f.stopped then !s.writesOut f && !f.isOpen
  else
    f.recWritten && decide ((s.src f.source).stripes ≤ f.taken) && s.passedAll f && f.outsLeft == 0 && f.tapsLeft == [] && f.endsLeft == []

/-- The frame is late by R270: by its last output's acceptance, or without one by the moment the last of the other conditions was
met. -/
def State.lateFrame (s : State) (f : Flight) : Bool :=
  let off := (s.src f.source).deadlineOffset
  off != 0 && decide (f.expectAt + off < f.lastOut.getD f.metAt)

/-- The DEADLINE_MISS record of a frame late under R269 or R270 (R271). -/
def State.missRecord (s : State) (f : Flight) : State :=
  let d (stage stripe : Nat) : Nat := f.source + stage % 16 * 2 ^ 12 + stripe % 65536 * 2 ^ 16 + min f.lateSegs m32 * 2 ^ 32
  match f.lateFirst with
  | some (stage, stripe, l) =>
    let link := if stage = 0 then s.chainFirst (s.src f.source).chain else l
    let m := (s.link link).cons.headD 0
    s.raise { cls := 0x60, action := 2, unit := m / 4 + m % 4 * 256, detail := d stage stripe, frame := some (f.source, f.frame)
              hasCtx := true }
  | none => s.raise { cls := 0x60, action := 2, unit := unitIo, detail := d 0xF 0, frame := some (f.source, f.frame) }

/-- The 128 bytes of a NOTIFY record. -/
def State.notifyBytes (s : State) (f : Flight) (c seq : Nat) : List Byte :=
  s.recBytes f ++ bytesLE 4 seq ++ bytesLE 1 c ++ bytesLE 3 0 ++ bytesLE 8 (f.plate + b2n f.plateHost * 2 ^ 63)
    ++ List.replicate 48 0

/-- Every RUNNING NOTIFY channel that covers the source writes a record and raises its vector once it has been accepted. -/
def State.notify (s : State) (f : Flight) : State :=
  (List.range 32).foldl (fun s c =>
    let x := s.chan c
    if s.chKind c = 3 && x.state == .running && s.chCovers c f.source then
      let seq := (x.seq + 1) % 2 ^ 32
      (s.putChan c { x with seq }).addAux (.record c (s.chMsix c)) true true (bit (s.chCfg c) 5)
        (s.cring c + seq % 2 ^ s.crLog c * 128) 128 (s.notifyBytes f c seq)
    else s) s

/-- FRAME_RECORD_FINAL: once every condition is met, the deadline is judged, the record is rewritten with its REC_CRC, and the
frame is over. -/
def frameRecordFinal (src fr : Nat) (s : State) : State :=
  match s.flight src fr with
  | none => s
  | some f0 =>
    if !s.finalReady f0 then s
    else
      let late := s.lateFrame f0
      let f := { f0 with flags := if late then f0.flags ||| fDeadline else f0.flags, recWritten := true }
      let s1 := (if late then s.bumpEph 3 else s).putFlight f
      let s2 := s1.putRec f
      let s3 := if late || f.lateSegs != 0 then s2.missRecord f else s2
      let s4 := s3.notify f
      { s4 with flights := s4.flights.filter (fun g => !(g.source == src && g.frame == fr)) }

/-- FRAME_RECORD_FINAL (09 R239). -/
def execFrameRecordFinal (t src frame : Nat) (s : State) : Host.Outcome State Fault Refusal :=
  .next (frameRecordFinal src frame (s.advance t))

end Sys2Proof.Machine
end

