-- ==== Sys2Proof/Machine/Crypto.lean ====
section
/-! DEFINITION. The cryptographic functions that the image format names (spec/02_leneno_image_and_start.md R45 to R50):
SHA-384 (FIPS 180-4), ECDSA on P-384 (FIPS 186-5) and AES-256-GCM (FIPS 197, SP 800-38D), as their standards define them. -/

namespace Sys2Proof.Machine

/-! ## SHA-384 -/

/-- The 80 round constants: the first 64 bits of the fractional parts of the cube roots of the first 80 primes, number i in bits
64i + 63 to 64i. -/
def shaTable : Nat :=
  0xab1c5ed5da6d8118923f82a4af194f9b59f111f1b605d0193956c25bf348b538e9b5dba58189dbbcb5c0fbcfec4d3b2f7137449123ef65cd428a2f98d728ae22
  + 0xc19bf174cf6926949bdc06a725c7123580deb1fe3b1696b172be5d74f27b896f550c7dc3d5ffb4e2243185be4ee4b28c12835b0145706fbed807aa98a3030242 * 2 ^ 512
  + 0x76f988da831153b55cb0a9dcbd41fbd44a7484aa6ea6e4832de92c6f592b0275240ca1cc77ac9c650fc19dc68b8cd5b5efbe4786384f25e3e49b69c19ef14ad2 * 2 ^ 1024
  + 0x142929670a0e6e7006ca6351e003826fd5a79147930aa725c6e00bf33da88fc2bf597fc7beef0ee4b00327c898fb213fa831c66d2db43210983e5152ee66dfab * 2 ^ 1536
  + 0x92722c851482353b81c2c92e47edaee6766a0abb3c77b2a8650a73548baf63de53380d139d95b3df4d2c6dfc5ac42aed2e1b21385c26c92627b70a8546d22ffc * 2 ^ 2048
  + 0x106aa07032bbd1b8f40e35855771202ad69906245565a910d192e819d6ef5218c76c51a30654be30c24b8b70d0f89791a81a664bbc423001a2bfe8a14cf10364 * 2 ^ 2560
  + 0x682e6ff3d6b2b8a35b9cca4f7763e3734ed8aa4ae3418acb391c0cb3c5c95a6334b0bcb5e19b48a82748774cdf8eeb991e376c085141ab5319a4c116b8d2d0c8 * 2 ^ 3072
  + 0xc67178f2e372532bbef9a3f7b2c67915a4506cebde82bde990befffa23631e288cc702081a6439ec84c87814a1f0ab7278a5636f43172f60748f82ee5defb2fc * 2 ^ 3584
  + 0x1b710b35131c471b113f9804bef90dae0a637dc5a2c898a606f067aa72176fbaf57d4f7fee6ed178eada7dd6cde0eb1ed186b8c721c0c207ca273eceea26619c * 2 ^ 4096
  + 0x6c44198c4a4758175fcb6fab3ad6faec597f299cfc657e2a4cc5d4becb3e42b6431d67c49c100d4c3c9ebe0a15c9bebc32caab7b40c7249328db77f523047d84 * 2 ^ 4608

/-- The initial hash value of SHA-384: the same of the square roots of the 9th to the 16th prime. -/
def shaInit : Nat :=
  0x47b5481dbefa4fa4db0c2e0d64f98fa78eb44a876858151167332667ffc00b31152fecd8f70e59399159015a3070dd17629a292a367cd507cbbb9d5dc1059ed8

/-- Word i of a table. -/
def tableWord (t i : Nat) : BitVec 64 := BitVec.ofNat 64 (t / 2 ^ (64 * i))

/-- The sum modulo 2 of the rotations of a word by several amounts. -/
def rotXor (w : BitVec 64) (amounts : List Nat) : BitVec 64 := amounts.foldl (fun v n => v ^^^ w.rotateRight n) 0

/-- The message schedule, latest word first: each new word from those 2, 7, 15 and 16 places back. -/
def shaSched : Nat → List (BitVec 64) → List (BitVec 64)
  | 0, r => r
  | n + 1, r =>
    let back (i : Nat) : BitVec 64 := r.getD (i - 1) 0
    let near := rotXor (back 2) [19, 61] ^^^ (back 2 >>> 6)
    let far := rotXor (back 15) [1, 8] ^^^ (back 15 >>> 7)
    shaSched n ((back 16 + back 7 + near + far) :: r)

/-- One round on the eight working words, a first; `kw` is the round constant plus the schedule word. -/
def shaRound (v : List (BitVec 64)) (kw : BitVec 64) : List (BitVec 64) :=
  let x (i : Nat) : BitVec 64 := v.getD i 0
  let choose := x 6 ^^^ (x 4 &&& (x 5 ^^^ x 6))
  let agree := (x 0 &&& x 1) ||| (x 2 &&& (x 0 ||| x 1))
  let up := kw + x 7 + choose + rotXor (x 4) [14, 18, 41]
  (up + agree + rotXor (x 0) [28, 34, 39]) :: x 0 :: x 1 :: x 2 :: (x 3 + up) :: (v.drop 4).take 3

/-- One block of 128 bytes. -/
def shaBlock (v : List (BitVec 64)) (bs : List Byte) : List (BitVec 64) :=
  let first := (List.range 16).map (fun i => BitVec.ofNat 64 (ofBytesBE (slice bs (8 * i) 8)))
  let kws := (shaSched 64 first.reverse).reverse.zipIdx.map (fun p => p.1 + tableWord shaTable p.2)
  List.zipWith (· + ·) v (kws.foldl shaRound v)

/-- Big-endian bytes of a number. -/
def bytesBE (n v : Nat) : List Byte := (bytesLE n v).reverse

/-- The padded message: a 1 bit, zeros up to whole blocks of 1024 bits, the length in 128 bits. -/
def shaPad (m : List Byte) : List Byte :=
  let fill := 127 - (m.length + 16) % 128
  m ++ (0x80 :: List.replicate fill 0) ++ bytesBE 16 (8 * m.length)

def shaBlocks : Nat → List Byte → List (BitVec 64) → List (BitVec 64)
  | 0, _, v => v
  | n + 1, bs, v => shaBlocks n (bs.drop 128) (shaBlock v (bs.take 128))

/-- SHA-384 as a 384-bit number, first byte highest: six of the eight words. -/
def sha384 (m : List Byte) : Nat :=
  let p := shaPad m
  let v := shaBlocks (p.length / 128) p ((List.range 8).map (tableWord shaInit))
  (v.take 6).foldl (fun n x => n * 2 ^ 64 + x.toNat) 0

/-! ## ECDSA on P-384 -/

def p384P : Nat := 2 ^ 384 - 2 ^ 128 - 2 ^ 96 + 2 ^ 32 - 1
def p384N : Nat := 0xffffffffffffffffffffffffffffffffffffffffffffffffc7634d81f4372ddf581a0db248b0a77aecec196accc52973
def p384B : Nat := 0xb3312fa7e23ee7e4988e056be3f82d19181d9c6efe8141120314088f5013875ac656398d8a2ed19d2a85c8edd3ec2aef
def p384G : Nat × Nat :=
  (0xaa87ca22be8b05378eb1c71ef320ad746e1d3b628ba79b9859f741e082542a385502f25dbf55296c3a545e3872760ab7,
   0x3617de4a96262c6f5d9e98bf9292dc29f8f41dbd289a147ce9da3113b5f0b8c00a60b1ce1d7e819d7a431d7c90ea0e5f)

/-- b^e mod m by squaring, on at most `fuel` bits of e. -/
def powMod (m : Nat) : Nat → Nat → Nat → Nat
  | 0, _, _ => 1 % m
  | fuel + 1, b, e =>
    if e = 0 then 1 % m
    else
      let h := powMod m fuel (b * b % m) (e / 2)
      if e % 2 = 1 then b * h % m else h

/-- The inverse modulo a prime below 2^384. -/
def invMod (m a : Nat) : Nat := powMod m 384 (a % m) (m - 2)

/-- A point of the curve in Jacobian coordinates: x / z² and y / z³, each coordinate below p; z = 0 is the point at infinity. -/
structure EcPoint where
  x : Nat
  y : Nat
  z : Nat
  deriving DecidableEq, Repr

def ecInf : EcPoint := { x := 1, y := 1, z := 0 }
def ecOf (q : Nat × Nat) : EcPoint := { x := q.1 % p384P, y := q.2 % p384P, z := 1 }

def ecOn (q : Nat × Nat) : Bool :=
  decide (q.1 < p384P) && decide (q.2 < p384P) && q.2 * q.2 % p384P == (q.1 * q.1 * q.1 + (p384P - 3) * q.1 + p384B) % p384P

/-- Product and difference modulo p. -/
def mulP (a b : Nat) : Nat := a * b % p384P
def subP (a b : Nat) : Nat := (a + p384P - b) % p384P

/-- Twice a point; the curve's a is −3. -/
def ecDouble (p : EcPoint) : EcPoint :=
  let d := mulP p.z p.z
  let g := mulP p.y p.y
  let b := mulP p.x g
  let m := mulP (3 * subP p.x d) (p.x + d)
  let x := subP (mulP m m) (8 * b % p384P)
  { x, y := subP (mulP m (subP (4 * b % p384P) x)) (8 * mulP g g % p384P), z := mulP (2 * p.y) p.z }

def ecAdd (p q : EcPoint) : EcPoint :=
  if p.z = 0 then q
  else if q.z = 0 then p
  else
    let zp := mulP p.z p.z
    let zq := mulP q.z q.z
    let u := mulP p.x zq
    let s := mulP p.y (mulP q.z zq)
    let h := subP (mulP q.x zp) u
    let r := subP (mulP q.y (mulP p.z zp)) s
    if h = 0 then (if r = 0 then ecDouble p else ecInf)
    else
      let h2 := mulP h h
      let v := mulP u h2
      let h3 := mulP h h2
      let x := subP (subP (mulP r r) h3) (2 * v % p384P)
      { x, y := subP (mulP r (subP v x)) (mulP s h3), z := mulP h (mulP p.z q.z) }

/-- k times a point, on at most `fuel` bits of k. -/
def ecMul : Nat → Nat → EcPoint → EcPoint
  | 0, _, _ => ecInf
  | fuel + 1, k, p =>
    if k = 0 then ecInf
    else
      let h := ecMul fuel (k / 2) (ecDouble p)
      if k % 2 = 1 then ecAdd p h else h

/-- The signature (r, s) over the hash e verifies under a public key. -/
def ecdsaOk (q : Nat × Nat) (r s e : Nat) : Bool :=
  if r = 0 || p384N ≤ r || s = 0 || p384N ≤ s || !ecOn q then false
  else
    let w := invMod p384N s
    let t := ecAdd (ecMul 384 (e * w % p384N) (ecOf p384G)) (ecMul 384 (r * w % p384N) (ecOf q))
    t.z != 0 && mulP t.x (invMod p384P (mulP t.z t.z)) % p384N == r

/-! ## AES-256 -/

/-- Doubling in GF(2^8). -/
def gfDouble (b : Byte) : Byte := (b <<< 1) ^^^ (if b.getLsbD 7 then 0x1b else 0)

/-- The S-box of FIPS 197, entry x in bits 8x + 7 to 8x. -/
def aesTable : Nat :=
  0x16bb54b00f2d99416842e6bf0d89a18cdf2855cee9871e9b948ed9691198f8e19e1dc186b95735610ef6034866b53e708a8bbd4b1f74dde8c6b4a61c2e2578ba * 2 ^ 1536
  + 0x08ae7a65eaf4566ca94ed58d6d37c8e779e4959162acd3c25c2406490a3a32e0db0b5ede14b8ee4688902a22dc4f816073195d643d7ea7c41744975fec130ccd * 2 ^ 1024
  + 0xd2f3ff1021dab6bcf5389d928f40a351a89f3c507f02f94585334d43fbaaefd0cf584c4a39becb6a5bb1fc20ed00d153842fe329b3d63b52a05a6e1b1a2c8309 * 2 ^ 512
  + 0x75b227ebe28012079a059618c323c7041531d871f1e5a534ccf73f362693fdb7c072a49cafa2d4adf04759fa7dc982ca76abd7fe2b670130c56f6bf27b777c63
def aesSbox (x : Byte) : Byte := BitVec.ofNat 8 (aesTable / 2 ^ (8 * x.toNat))

def xorBytes (a b : List Byte) : List Byte := (a.zip b).map (fun p => p.1 ^^^ p.2)

/-- Round constant i: 2^(i-1) in GF(2^8). -/
def aesRcon : Nat → Byte
  | 0 => 0x8d
  | n + 1 => gfDouble (aesRcon n)

/-- Words 8 to 59 of the key schedule; the list holds the words so far, latest first. -/
def aesExpand : Nat → Nat → List (List Byte) → List (List Byte)
  | 0, _, r => r
  | n + 1, i, r =>
    let t := r.headD []
    let u := if i % 8 = 0 then
        match t with
        | a :: rest => xorBytes ((rest ++ [a]).map aesSbox) [aesRcon (i / 8), 0, 0, 0]
        | [] => []
      else if i % 8 = 4 then t.map aesSbox else t
    aesExpand n (i + 1) (xorBytes (r.getD 7 []) u :: r)

/-- The 15 round keys of a 32-byte key. -/
def aesKeys (key : List Byte) : List (List Byte) :=
  let w := (aesExpand 52 8 ((List.range 8).map (fun i => slice key (4 * i) 4)).reverse).reverse
  (List.range 15).map (fun i => (w.drop (4 * i)).take 4 |>.flatten)

/-- ShiftRows on the 16 bytes of a block, column by column. -/
def aesShift (b : List Byte) : List Byte := (List.range 16).map (fun i => b.getD ((i + 4 * (i % 4)) % 16) 0)

def aesMixCol (c : List Byte) : List Byte :=
  (List.range 4).map (fun i =>
    let at' (k : Nat) : Byte := c.getD ((i + k) % 4) 0
    gfDouble (at' 0) ^^^ gfDouble (at' 1) ^^^ at' 1 ^^^ at' 2 ^^^ at' 3)
def aesMix (b : List Byte) : List Byte := (List.range 4).flatMap (fun i => aesMixCol (slice b (4 * i) 4))

/-- The block cipher under a key schedule. -/
def aesBlock (ks : List (List Byte)) (b : List Byte) : List Byte :=
  let s0 := xorBytes b (ks.headD [])
  let s1 := ((ks.drop 1).take 13).foldl (fun s k => xorBytes (aesMix (aesShift (s.map aesSbox))) k) s0
  xorBytes (aesShift (s1.map aesSbox)) (ks.getD 14 [])

/-! ## GCM with a 12-byte nonce -/

/-- Product in GF(2^128), bits numbered as GCM numbers them: bit 0 is the most significant. -/
def ghashMul : Nat → BitVec 128 → BitVec 128 → BitVec 128 → BitVec 128
  | 0, _, _, z => z
  | n + 1, x, v, z =>
    ghashMul n (x <<< 1) ((v >>> 1) ^^^ (if v.getLsbD 0 then 0xe1000000000000000000000000000000 else 0))
      (if x.getLsbD 127 then z ^^^ v else z)

def ghash (h : BitVec 128) : Nat → List Byte → BitVec 128 → BitVec 128
  | 0, _, y => y
  | n + 1, bs, y => ghash h n (bs.drop 16) (ghashMul 128 (y ^^^ BitVec.ofNat 128 (ofBytesBE (slice bs 0 16))) h 0)

def pad16 (bs : List Byte) : List Byte := bs ++ List.replicate ((16 - bs.length % 16) % 16) 0

/-- The key stream from counter value c on, applied to the text. -/
def gcmCtr (ks : List (List Byte)) (nonce : List Byte) : Nat → Nat → List Byte → List Byte
  | 0, _, _ => []
  | n + 1, c, bs => xorBytes (bs.take 16) (aesBlock ks (nonce ++ bytesBE 4 c)) ++ gcmCtr ks nonce n (c + 1) (bs.drop 16)

/-- Decryption: the plaintext, and whether the tag is right. -/
def gcmOpen (key nonce aad ct tag : List Byte) : List Byte × Bool :=
  let ks := aesKeys key
  let h := BitVec.ofNat 128 (ofBytesBE (aesBlock ks (List.replicate 16 0)))
  let txt := pad16 aad ++ pad16 ct ++ bytesBE 8 (8 * aad.length) ++ bytesBE 8 (8 * ct.length)
  let y := ghash h (txt.length / 16) txt 0
  let t := xorBytes (bytesBE 16 y.toNat) (aesBlock ks (nonce ++ bytesBE 4 1))
  (gcmCtr ks nonce (ct.length / 16 + 1) 2 ct, t == tag)

end Sys2Proof.Machine
end

