-- ==== Sys2Proof/Machine/PowerStates.lean ====
section
/-! DEFINITION. Power states (spec/16_power_modes_and_supplies.md R418 to R423): the requests of POWER.PWR_REQ, the steps of
entry and wake, and the retention area. -/

namespace Sys2Proof.Machine

/-- Move an interval of memory: its bytes and their error state go, and the source is left zero. -/
def State.moveMem (s : State) (src dst n : Nat) : State :=
  let s1 := { s with
    mem := memCopy s.mem src dst n
    poison := s.poison.filter (fun w => decide (w + 8 ≤ dst) || decide (dst + n ≤ w))
      ++ (s.poison.filter (fun w => decide (src ≤ w) && decide (w < src + n))).map (fun w => w - src + dst) }
  s1.zero src (src + n)

/-- The 2 MiB of core n in the retention area. -/
def State.retainAt (s : State) (n : Nat) : Nat := s.retainBase + n * 0x20_0000

/-- Step 4 of entry: the core-local space of every core is saved; from now on the area is a protected range (R419). -/
def State.saveCores (s : State) : State :=
  let s1 := { s with boot := { s.boot with retention := some { lo := s.retainBase, hi := s.retainBase + retainLen } } }
  (List.range 144).foldl (fun s n => s.moveMem (localAt n) (s.retainAt n) 0x20_0000) s1

/-- CORE counters and status registers, which restart at 0 after DEEP_SLEEP (R422). -/
def coreStatusReg (a : Nat) : Bool :=
  let o := a % 0x1_0000
  decide (0x100_0000 ≤ a) && decide (a < 0x190_0000)
    && (o == 0x44 || o == 0x48 || o == 0x4C || (decide (0x80 ≤ o) && decide (o < 0xE4))
      || (decide (0x300 ≤ o) && decide (o < 0x314)) || (decide (0x320 ≤ o) && decide (o < 0x340)))

/-- Step 5 of wake: every core's space is restored; one whose saved copy has an uncorrectable error raises ECC_UE and is fenced
(R423). The area is zeroed, and its protected range closes. -/
def State.restoreCores (s : State) : State :=
  let s1 := (List.range 144).foldl (fun (s : State) n =>
    if s.poisonedIn (s.retainAt n) 0x20_0000 then
      let a := (s.poison.filter (fun w => decide (s.retainAt n ≤ w) && decide (w < s.retainAt n + 0x20_0000))).headD 0
      (s.fenceCore n { cls := 0x11, action := 3, unit := n, detail := a }).moveMem (s.retainAt n) (localAt n) 0x20_0000
    else s.moveMem (s.retainAt n) (localAt n) 0x20_0000) s
  let s2 := s1.zero s1.retainBase (s1.retainBase + retainLen)
  { s2 with
    boot := { s2.boot with retention := none }
    regs := s2.regs.filter (fun e => !coreStatusReg e.1)
    pace := { s2.pace with cores := [] } }

def State.putTrans (s : State) (t : Option Transition) : State := { s with pwr := { s.pwr with trans := t } }

/-- POWER.PWR_REQ (R418): accepted while STATE is RUNNING with no transition in progress; DEEP_SLEEP needs a retention area, and
is reached from RUN or SLEEP. A request for the present state starts nothing. -/
def State.powerRequest (s : State) (code : Nat) : State :=
  if !s.live || !s.running || s.pwr.trans.isSome then s
  else
    match s.pwr.state, code with
    | .run, 1 =>
      { s with eph := { s.eph with cutoff := some s.now } }.putTrans (some { target := .sleep, wake := false, step := 2, since := s.now })
    | .run, 2 =>
      if s.retainEn then
        { s with eph := { s.eph with cutoff := some s.now } }.putTrans (some { target := .deep, wake := false, step := 2, since := s.now })
      else s
    | .sleep, 2 =>
      if s.retainEn then s.putTrans (some { target := .deep, wake := false, step := 4, since := s.now }) else s
    | .sleep, 0 => s.putTrans (some { target := .run, wake := true, step := 3, since := s.now })
    | .deep, 0 => s.putTrans (some { target := .run, wake := true, step := 2, since := s.now })
    | _, _ => s

/-- The transition goes on with a step. -/
def State.atStep (s : State) (t : Transition) (n : Nat) : State := s.putTrans (some { t with step := n })

/-- A transition ends: IBI 0x03 (17 R442). -/
def State.endTrans (s : State) (p : PState) : State :=
  { s with pwr := { s.pwr with state := p, trans := none } }.applyGates.raiseIbi 3

/-- POWER_ENTRY_DRAIN_TIMEOUT: frames not final 100 ms after the request are stopped. -/
def powerEntryDrainTimeout (s : State) : State :=
  match s.pwr.trans with
  | none => s
  | some t =>
    if !s.live || t.wake || t.step ≠ 2 || s.now < t.since + 100_000_000 then s else (s.stopFrames false).cancelStreams

/-- The islands over which the cores are saved are clocked. -/
def State.saveReady (s : State) : Bool := savePlls.all (fun n => !s.pllEn n || nbit s.clk.locked n)

/-- POWER_ENTRY_STEP_DONE: the step in progress of Table 16.5 is complete. -/
def powerEntryStepDone (s : State) : State :=
  match s.pwr.trans with
  | none => s
  | some t =>
    if !s.live || t.wake then s
    else
      match t.step with
      | 2 => if s.flights.isEmpty then s.stopTx.atStep t 3 else s
      | 3 =>
        if s.dmaRests && s.tx.all (fun e => e.2.sending.isNone) then s.atStep t (if t.target = .deep then 4 else 6) else s
      | 4 => if s.pwr.state = .sleep && !s.saveReady then s else s.saveCores.atStep t 5
      | 5 => ({ s with pwr := { s.pwr with dies := 0, saved := true } }.updTarget).atStep t 6
      | _ => s.endTrans t.target

/-- Every PLL that RUN needs has locked. -/
def State.pllsReady (s : State) : Bool :=
  (List.range 8).all (fun n => !s.pllEn n || s.gatedIn .run n || nbit s.clk.locked n)

/-- WAKE_STEP_DONE: the step in progress of Table 16.6 is complete. -/
def wakeStepDone (s : State) : State :=
  match s.pwr.trans with
  | none => s
  | some t =>
    if !s.live || !t.wake then s
    else
      match t.step with
      | 2 =>
        let d := if s.boot.profile = 2 then 2 ^ fld (s.rget 0x20) 2 2 else 15
        ({ s with pwr := { s.pwr with dies := d, saved := false } }.updTarget).atStep t 3
      | 3 => if s.pllsReady then s.atStep t 4 else s
      | 4 => ({ s with mems := { s.mems with selfRefresh := 0 } }).atStep t (if s.boot.retention.isSome then 5 else 6)
      | 5 => s.restoreCores.atStep t 6
      | _ =>
        let s1 := s.endTrans .run
        ({ s1 with eph := { s1.eph with cutoff := none } }.txArm.skipSlots).wakeAll

/-! ## The commands -/

/-- POWER_ENTRY_DRAIN_TIMEOUT (16 R420). -/
def execPowerEntryDrainTimeout (t : Nat) (s : State) : Host.Outcome State Fault Refusal :=
  .next (powerEntryDrainTimeout (s.advance t))
/-- POWER_ENTRY_STEP_DONE (16 R420). -/
def execPowerEntryStepDone (t : Nat) (s : State) : Host.Outcome State Fault Refusal := .next (powerEntryStepDone (s.advance t))
/-- WAKE_STEP_DONE (16 R421). -/
def execWakeStepDone (t : Nat) (s : State) : Host.Outcome State Fault Refusal := .next (wakeStepDone (s.advance t))

end Sys2Proof.Machine
end

