-- ==== Sys2Proof/Machine/Power.lean ====
section
/-! DEFINITION. Supplies and temperature (spec/16_power_modes_and_supplies.md): AVSBus, rail dips, thermal samples, and the
switchover of the always-on domain. Power-state transitions are in Machine/PowerStates.lean, resets in Machine/Reset.lean. -/

namespace Sys2Proof.Machine

/-- AVS_PERIOD: every 1 ms the target is sent and a read-back requested, once the first target has been sent (R411). -/
def avsPeriod (s : State) : State :=
  if s.live && s.boot.sensed then s.outs [.avsTarget s.pwr.target, .avsRead] else s

/-- AVS_RESPONSE: a transaction succeeds with the regulator's voltage and current, or fails (R411). -/
def avsResponse (good : Bool) (mv amp : Nat) (s : State) : State :=
  if !(s.live && s.boot.sensed) then s
  else if good then
    { s with pwr := { s.pwr with avsFails := 0, avsMv := mv % 1024, avsAmp := amp % 1024, avsErr := false, inControl := true } }
  else
    let n := s.pwr.avsFails + 1
    { s with pwr := { s.pwr with
      avsFails := n
      avsErr := s.pwr.avsErr || decide (3 ≤ n)
      inControl := s.pwr.inControl && decide (n < 3) } }

/-- The VDD_CORE monitor is off in DEEP_SLEEP until the rail has settled on wake (R418). -/
def State.monOff (s : State) (n : Nat) : Bool := n == 0 && s.pwr.saved

/-- Note a voltage in MON_MIN (R415). -/
def Pwr.noteMin (p : Pwr) (n mv : Nat) : Pwr := { p with monMin := tput p.monMin n (min mv (tget 0xFFF p.monMin n)) }

/-- RAIL_DIP_START: rail n has stayed below its warning level for 200 ns; `mv` is the voltage measured (R415). -/
def railDipStart (n mv : Nat) (s : State) : State :=
  if s.held || 8 ≤ n || nbit s.pwr.dips n || s.monOff n then s
  else
    let s1 := { s with pwr := { s.pwr.noteMin n mv with dips := nset s.pwr.dips n, monEvent := nset s.pwr.monEvent n } }
    let s2 := s1.markAll fSupply
    s2.raise { cls := 0x03, action := 2, unit := 0x6000 + n, detail := s.railWarn n % 4096 + (mv % 4096) * 2 ^ 16 }

/-- RAIL_DIP_END: the rail has stayed above its warning level plus 10 mV for 1 µs; `lowest` is the lowest voltage of the
dip. Frames that began during the dip are marked too (R415). -/
def railDipEnd (n lowest : Nat) (s : State) : State :=
  if s.held || 8 ≤ n || !nbit s.pwr.dips n then s
  else
    let s1 := s.markAll fSupply
    { s1 with pwr := { s1.pwr.noteMin n lowest with dips := nclr s1.pwr.dips n } }

/-- VBAT_LOW: MON_EVENT bit 8, with no record and no event (R424). -/
def vbatLow (mv : Nat) (s : State) : State :=
  if s.held then s else { s with pwr := { s.pwr.noteMin 8 mv with monEvent := nset s.pwr.monEvent 8, vbatLow := true } }

/-- THERM_STATUS bits of a sample: every die above WARN (R417). -/
def thermWarn (s : State) (d : Nat) (t : Int) : Nat :=
  if ((fld (s.rget 0x2_0440) 0 8 : Nat) : Int) * 8 < t then 2 ^ d else 0

/-- A sample below the reset limit: THERM and THERM_STATUS (R417). Temperatures are in 0.125 °C. -/
def State.thermNote (s : State) (ts : List Int) : State :=
  let ps := (List.range 9).zip ts
  { s with pwr := { s.pwr with
    therm := ps.foldl (fun m p => tput m p.1 p.2) s.pwr.therm
    thermBits := s.pwr.thermBits ||| ps.foldl (fun b p => b ||| thermWarn s p.1 p.2) 0 } }

/-- VBAT_SWITCHOVER: VDD_1V8 has fallen below 1,620 mV; on VBAT alone only the Chronograph, RESET_CAUSE and the latch run
(R424), and the MGMT port starts afresh when VDD_1V8 returns. -/
def vbatSwitch (s : State) : State :=
  if s.aon.powered && !s.aon.onVbat then { s with aon := { s.aon with onVbat := true }, mgmt := Mgmt.init } else s

/-- VDD_1V8_RESTORED: VDD_1V8 has been above 1,680 mV for 1 ms (R424). -/
def vddRestored (s : State) : State :=
  if s.aon.powered && s.aon.onVbat then { s with aon := { s.aon with onVbat := false } } else s

/-- A read of MON_MIN[n] returns the lowest voltage and clears it (RC, Table 16.8): back to the reset value 0xFFF. -/
def State.monMinRead (s : State) (n : Nat) : Word × State :=
  (wd (tget 0xFFF s.pwr.monMin n), { s with pwr := { s.pwr with monMin := tdel s.pwr.monMin n } })

/-! ## The commands -/

/-- AVS_PERIOD (16 R411). -/
def execAvsPeriod (t : Nat) (s : State) : Host.Outcome State Fault Refusal := .next (avsPeriod (s.advance t))
/-- AVS_RESPONSE (16 R411). -/
def execAvsResponse (t : Nat) (good : Bool) (mv : Nat) (amp : Nat) (s : State) : Host.Outcome State Fault Refusal :=
  .next (avsResponse good mv amp (s.advance t))
/-- RAIL_DIP_START (16 R415). -/
def execRailDipStart (t : Nat) (n : Nat) (mv : Nat) (s : State) : Host.Outcome State Fault Refusal :=
  .next (railDipStart n mv (s.advance t))
/-- RAIL_DIP_END (16 R415). -/
def execRailDipEnd (t : Nat) (n : Nat) (lowest : Nat) (s : State) : Host.Outcome State Fault Refusal :=
  .next (railDipEnd n lowest (s.advance t))
/-- VBAT_LOW (16 R424). -/
def execVbatLow (t : Nat) (mv : Nat) (s : State) : Host.Outcome State Fault Refusal := .next (vbatLow mv (s.advance t))
/-- VBAT_SWITCHOVER (16 R424). -/
def execVbatSwitchover (t : Nat) (s : State) : Host.Outcome State Fault Refusal := .next (vbatSwitch (s.advance t))
/-- VDD_1V8_RESTORED (16 R424). -/
def execVdd1v8Restored (t : Nat) (s : State) : Host.Outcome State Fault Refusal := .next (vddRestored (s.advance t))

end Sys2Proof.Machine
end

