-- ==== Sys2Proof/Machine/RegRead.lean ====
section
/-! DEFINITION. Register reads (spec/18_register_map.md): the registers whose value follows other state, the rules of the paths
(02 R40, 17 R437, R441, 18 R455), the latches of 64-bit registers (00 R12, 17 R447), and what a read clears. -/

namespace Sys2Proof.Machine

/-! ## Registers that follow other state -/

/-- MON_COUNT (15 Table 15.8): LAST, MIN and MAX; a read clears MIN and MAX. -/
def State.monCount (s : State) : Word :=
  wd (s.clk.monLast + s.clk.monMin * 2 ^ 9 + s.clk.monMax * 2 ^ 18)

/-- GLOBAL, computed registers (Tables 17.4, 18.3, 16.10, 1.10). -/
def State.readGlobal (s : State) (a : Nat) : Option Word :=
  if a = 0x10 then
    some (wd (s.boot.phase.code + s.pwr.state.code * 16 + b2n s.pwr.trans.isSome * 64 + b2n s.flt.nmiPending * 128
      + b2n (decide (s.flt.cores ≠ [])) * 256 + s.boot.profile * 512 + b2n s.clk.onRc * 2048 + b2n s.host.linkUp * 4096
      + b2n s.chr.valid * 8192))
  else if a = 0x40 then some 0
  else if a = 0x44 then some (wd (s.boot.locks % 64))
  else if a = 0x50 then some (wd s.aon.cause)
  else if a = 0x100 then some (wd Config.serial.toNat)
  else if a = 0x104 then some (wd (Config.serial.toNat / 2 ^ 32))
  else if a = 0x108 then some (if Config.engineeringSample then 0x5345 else 0x544C)
  else if 0x120 ≤ a && a < 0x168 then
    let n := (a - 0x120) / 8
    if a % 8 = 0 then
      let w := (Config.dieLot n).toNat
      some (wd (nfld w 0 24 + (1 + nfld w 24 5 % 25) * 2 ^ 24 + nfld w 29 3 * 2 ^ 29))
    else some (wd ((Config.diePlace n).toNat + (if n < 4 then 0 else if n < 8 then 1 else 2) * 2 ^ 16))
  else if a = 0x200 then some (setFld (s.rget 0x200) 16 12 (if s.boot.profile = 2 then 750 else 1050))
  else if a = 0x20C then some (wd s.pace.winSeq)
  else if 0x300 ≤ a && a < 0x310 then some (marginWord (tget (0, 0, false) s.pace.die ((a - 0x300) / 4)))
  else if 0x400 ≤ a && a < 0x500 then some (marginWord (tget (0, 0, false) s.pace.part ((a - 0x400) / 4)))
  else none
where
  marginWord (m : Nat × Nat × Bool) : Word := wd (m.1 + m.2.1 * 2 ^ 16 + b2n m.2.2 * 2 ^ 31)

/-- CLOCK, computed registers (Tables 15.6 to 15.8). -/
def State.readClock (s : State) (a : Nat) : Option Word :=
  if a = 0x1_0000 then
    some (wd (b2n s.clk.ampOk + b2n s.boot.xoStable * 2 + b2n s.clk.onRc * 4 + b2n s.clk.xoOk * 8 + b2n s.clk.rcFault * 16
      + (s.clk.locked % 256) * 256))
  else if a = 0x1_0014 then some s.monCount
  else if 0x1_0100 ≤ a && a < 0x1_0200 && a % 0x20 = 0 then some (s.pllCfg ((a - 0x1_0100) / 0x20))
  else none

/-- POWER, computed registers (Table 16.8). -/
def State.readPower (s : State) (a : Nat) : Option Word :=
  if a = 0x2_0000 then some (wd (s.pwr.state.code + 4 * b2n s.pwr.trans.isSome))
  else if a = 0x2_0010 then some (wd s.pwr.target)
  else if a = 0x2_0018 then
    some (wd (s.pwr.avsMv + s.pwr.avsAmp * 2 ^ 16 + b2n s.pwr.avsErr * 2 ^ 30 + b2n s.pwr.inControl * 2 ^ 31))
  else if 0x2_0100 ≤ a && a < 0x2_0148 then
    let n := (a - 0x2_0100) / 8
    if a % 8 = 0 then some (wd (s.railWarn n)) else some (wd (railReset n))
  else if a = 0x2_0200 then some (wd s.pwr.monEvent)
  else if a = 0x2_0204 then some (wd s.pwr.dips)
  else if 0x2_0240 ≤ a && a < 0x2_0264 then some (s.monMinRead ((a - 0x2_0240) / 4)).1
  else if 0x2_0400 ≤ a && a < 0x2_0424 then some (wd (toU 16 (tget 0 s.pwr.therm ((a - 0x2_0400) / 4))))
  else if a = 0x2_0444 then
    some (wd (s.pwr.thermBits + ((List.range 9).foldl (fun b d => b ||| thermWarn s d (tget 0 s.pwr.therm d)) 0) * 2 ^ 16))
  else none

/-- BOOT, computed registers (Tables 2.9 to 2.12). -/
def State.readBoot (s : State) (a : Nat) : Option Word :=
  let b := s.boot
  match a with
  | 0x3_0000 => some (wd (b.phase.code + b.src * 16 + b.slot * 64 + b2n b.fallback * 128 + b.attempts * 256))
  | 0x3_0004 => some (wd (b.straps.bootSrc + b.straps.xtalDly * 4 + b.straps.mgmtAddr * 16))
  | 0x3_0008 => some (wd (b.errCause + b.errSlot * 256 + b.errRecord * 2 ^ 16))
  | 0x3_000C => some (wd b.svn)
  | 0x3_001C => some 0
  | 0x3_0020 => some (wd b.loadBytes)
  | 0x3_0024 => some (wd b.build)
  | 0x3_0028 => some (wd b.loadTime)
  | 0x3_002C => some (wd b.armCheck)
  | _ => none

/-- SECURITY, computed registers (Table 17.5). -/
def State.readSecurity (s : State) (a : Nat) : Option Word :=
  if a = 0x4_0000 then some s.keyStatus
  else if a = 0x4_0020 then some (wd (b2n s.sec.debugEn))
  else if a = 0x4_0024 then
    some (wd (b2n s.debugOpen + 2 * b2n s.sec.debugUsed
      + 4 * b2n (s.jtag == .extest || s.jtag == .clamp || s.jtag == .highz)))
  else if a = 0x4_0108 then some 0
  else if a = 0x4_010C then some s.fuseStatus
  else if a = 0x4_0200 then
    some (wd ((match s.mgmt.dynAddr with | some d => d % 128 + 128 | none => 0) + 256 * b2n s.mgmt.i3c + 512 * b2n s.mgmt.err))
  else if 0x4_0400 ≤ a && a < 0x4_0800 then some (s.fuseRead ((a - 0x4_0400) / 4))
  else none

/-- CHRONO, computed registers (Table 17.6), with what the reading path has latched (R447). -/
def State.readChrono (s : State) (l : Latches) (a : Nat) : Option Word :=
  let c := s.chr
  match a with
  | 0x5_0000 =>
    some (wd (b2n c.valid + 2 * b2n c.fine + 4 * b2n c.xtStopped + 8 * b2n c.stepped
      + 16 * (match c.pps with | .off => 0 | .acquiring => 1 | .locked => 2 | .holdover => 3)
      + 64 * b2n c.lost + 128 * b2n c.setPending))
  | 0x5_0004 => some c.cfg
  | 0x5_0010 => some (wd c.frac)
  | 0x5_0014 => some (match l.cal with | some (sec, _, _) => wd sec | none => 0)
  | 0x5_0018 => some (match l.cal with | some (sec, _, _) => wd (sec / 2 ^ 32) | none => 0)
  | 0x5_0020 => some (wd c.ns)
  | 0x5_0024 => some (wd (c.ns / 2 ^ 32))
  | 0x5_0030 => some (match l.cal with | some (_, d, _) => d | none => 0)
  | 0x5_0034 => some (match l.cal with | some (_, _, t) => t | none => 0)
  | 0x5_0040 => some (wd c.setFrac)
  | 0x5_0044 => some (wd c.setSec)
  | 0x5_0048 => some (wd (c.setSec / 2 ^ 32))
  | 0x5_0060 => some (wd c.ppsLast)
  | 0x5_0064 => some (wd (c.ppsLast / 2 ^ 32))
  | 0x5_0068 => some (wd (toU 32 c.ppsErr))
  | 0x5_006C => some (wd (toU 32 c.freq))
  | 0x5_0070 => some (wd (toU 32 c.slew))
  | _ => none

/-- Bits b of a 32-bit map word: the elements 32k + b of a list of indices. -/
def mapWord (l : List Nat) (k : Nat) : Word := wd (mapBits l k)

/-- FAULT, computed registers (Tables 14.7, 14.8). -/
def State.readFlt (s : State) (a : Nat) : Option Word :=
  let f := s.flt
  if a = 0x6_0000 then
    some (wd (b2n f.nmiPending + 2 * b2n (decide (256 < f.seq)) + (f.cores.length % 256) * 4))
  else if a = 0x6_0004 then some (wd f.seq)
  else if a = 0x6_0008 then some (wd f.nmiSeq)
  else if a = 0x6_000C then some 0
  else if a = 0x6_0020 then some (wd s.evtStatus)
  else if a = 0x6_0040 then some (wd (min 0xFFFF ((s.now - f.scrubAt) / 1_000_000)))
  else if a = 0x6_0048 then some (wd f.scrubPasses)
  else if a = 0x6_004C then some (wd (f.scrubPasses / 2 ^ 32))
  else if 0x6_0080 ≤ a && a < 0x6_0094 then some (mapWord f.cores ((a - 0x6_0080) / 4))
  else if 0x6_00A0 ≤ a && a < 0x6_00B4 then some (mapWord f.hist ((a - 0x6_00A0) / 4))
  else if 0x6_00C0 ≤ a && a < 0x6_0108 then
    some (mapWord (f.ctxs ++ (f.cores.map (fun n => [4 * n, 4 * n + 1, 4 * n + 2, 4 * n + 3])).flatten) ((a - 0x6_00C0) / 4))
  else if 0x6_1000 ≤ a && a < 0x6_3000 then
    match tfind f.log ((a - 0x6_1000) / 32) with
    | some r => some (wd (leAt r.bytes (a % 32) 4))
    | none => some 0
  else none


/-- INGRESS, computed registers (03 Table 3.9). -/
def State.readIngress (s : State) (a : Nat) : Option Word :=
  let n := (a - 0x8_0000) / 0x1000
  match a % 0x1000 with
  | 0x010 => some (s.portStatus n)
  | 0x014 => some (wd (s.ing' n).peak)
  | 0x180 => some (wd (s.ing' n).bytes)
  | 0x184 => some (wd ((s.ing' n).bytes / 2 ^ 32))
  | _ => none

/-- SENSCTL, computed registers (03 Table 3.9). -/
def State.readSensctl (s : State) (a : Nat) : Option Word :=
  if a < 0xA_1000 then
    let n := (a - 0xA_0000) / 0x100
    match a % 0x100 with
    | 0x08 => some (s.scRdata n).1
    | 0x0C => some (s.scStatus n)
    | 0x14 => some (s.scIbi n).1
    | 0x18 => some (wd (s.sp n).ibiLast)
    | 0x20 => some (wd (s.sp n).nacks)
    | 0x24 => some (wd (s.sp n).ibiLost)
    | _ => none
  else
    match a with
    | 0xA_2100 => some s.glStatus
    | 0xA_2104 => some (wd s.trig.period)
    | 0xA_2108 => some (wd s.trig.edgeNs)
    | 0xA_210C => some (wd (s.trig.edgeNs / 2 ^ 32))
    | _ => none

/-- TRANSMIT, computed registers (09 Table 9.7). -/
def State.readTransmit (s : State) (a : Nat) : Option Word :=
  let n := (a - 0xE_0000) / 0x1000
  match a % 0x1000 with
  | 0x010 => some (s.txStatus n)
  | 0x014 => some (wd (s.port n).peak)
  | _ => none

/-- HOSTLINK and its channels, computed registers (12 Tables 12.13 to 12.16). -/
def State.readHost (s : State) (a : Nat) : Option Word :=
  if a = 0x10_0000 then
    let h := s.host
    some (wd (b2n h.linkUp + (if h.linkUp then h.gen * 2 + h.width * 16 else 0) + 512 * b2n s.degraded + 1024 * b2n h.cfg.msixEn))
  else if 0x10_9000 ≤ a then some (mapWord s.host.pend ((a - 0x10_9000) / 4))
  else if 0x10_1000 ≤ a && a < 0x10_3000 then
    let c := (a - 0x10_1000) / 0x100
    let ch := s.chan c
    match a % 0x100 with
    | 0x28 => some (s.chStatus c)
    -- records that are still on their way are not written
    | 0x2C => some (wd ((ch.seq + 2 ^ 32 - (s.mems.aux.filter (fun a => a.use.isRecord c)).length) % 2 ^ 32))
    | 0x30 => some (wd ch.errAddr)
    | 0x34 => some (wd (ch.errAddr / 2 ^ 32))
    | 0x38 => some (wd ch.errInfo)
    | _ => none
  else none

/-- Word w of a stream slot (11 Table 11.12). -/
def Strm.word (x : Strm) (w : Nat) : Word :=
  let c (i : Nat) : Nat := x.saved.getD i 0 % 65536
  match w with
  | 0 => wd (b2n x.active + 2 * b2n x.write + 4 * b2n x.halted + 8 * b2n x.cancelling + x.epoch % 256 * 2 ^ 8 + x.desc % 65536 * 2 ^ 16)
  | 1 => wd (c 0 + c 1 * 65536)
  | 2 => wd (c 2 + c 3 * 65536)
  | 3 => wd (c 4)
  | 4 => wd (x.roff % 65536)
  | _ => 0

/-- Halted slots of a requester; 145 reads 0. -/
def State.haltBits (s : State) (r : Nat) : Nat :=
  if 144 < r then 0 else (List.range 16).foldl (fun m k => if (s.strm r k).halted then nset m k else m) 0

/-- MEMORY, computed registers (11 Table 11.11). -/
def State.readMemory (s : State) (a : Nat) : Option Word :=
  if a = 0x20_0000 then some (wd (s.mems.ready % 4 + 4 * b2n s.flushBusy + s.mems.pf.length % 128 * 8))
  else if a = 0x20_0020 then some s.pfInfoRead.1
  else if a = 0x20_0024 then some (wd s.mems.pfAddr)
  else if a = 0x20_0028 then some (wd (s.mems.pfAddr / 2 ^ 32))
  else if a = 0x20_004C then some (wd s.mems.scqSeq)
  else if a = 0x20_0110 then some (s.tagsInUse 0)
  else if a = 0x20_0114 then some (s.tagsInUse 1)
  else if 0x20_0200 ≤ a && a < 0x20_0324 then
    let k := (a - 0x20_0200) / 4
    some (wd (s.haltBits (2 * k) + s.haltBits (2 * k + 1) * 65536))
  else if 0x20_0400 ≤ a && a < 0x20_04A0 then some ((s.strm 144 ((a - 0x20_0400) / 0x20)).word (a % 0x20 / 4))
  else none

/-- PART_STATUS (10 Table 10.7). -/
def State.partStatus (s : State) (p : Nat) : Word :=
  let cs := s.partCores p
  let dies := cs.foldl (fun m n => nset m (dieOf n)) 0
  wd (b2n (!cs.isEmpty) + 2 * b2n (s.realTime p) + 4 * b2n (s.partClass p == 3) + cs.length * 8 + dies * 2 ^ 11)

/-- EPHEMERIS, computed registers (10 Table 10.7, 04 Table 4.4). -/
def State.readEph (s : State) (a : Nat) : Option Word :=
  if a = 0x40_0000 then some (wd (b2n s.eph.t0.isSome + s.eph.queue.length * 2))
  else if a = 0x40_0008 then some (wd s.eph.t0Ns)
  else if a = 0x40_000C then some (wd (s.eph.t0Ns / 2 ^ 32))
  else if a = 0x40_0028 then some (wd s.eph.stall)
  else if a = 0x40_002C then some (wd (s.eph.stall / 2 ^ 32))
  else if 0x40_0500 ≤ a && a < 0x40_0600 then some (s.partStatus ((a - 0x40_0500) / 4))
  else if 0x4A_0000 ≤ a && a < 0x4A_1000 then
    let c := tget WorkCtr.init s.wctrs ((a - 0x4A_0000) / 0x10)
    match a % 0x10 with
    | 4 => some (wd (c.next % 65536 + c.limit % 65536 * 65536))
    | 8 => some (wd c.seq)
    | 12 => some (match c.cur with
        | some t => wd (t.source + 4096 * b2n t.fold + t.stripe * 65536)
        | none => 0)
    | _ => none
  else if 0x4B_0000 ≤ a && a < 0x4C_0000 then
    let l := (a - 0x4B_0000) / 0x10
    let x := s.lnk l
    let d := s.link l
    match a % 0x10 with
    | 0 =>
      let far := d.cons.foldl (fun m c => max m (x.availFull c)) 0
      some (wd (x.sigFull + m16 ((x.sigFull : Int) - far) * 65536))
    | 4 => some (wd ((if d.en && s.past14 then x.sigEmpty d else 0) + x.waitEmpty * 65536))
    | 8 => some (wd (b2n x.fenced))
    | _ => none
  else if 0x50_0000 ≤ a && a < 0xD0_0000 then some (s.psRead ((a - 0x50_0000) / 0x800) (a % 0x800))
  else none

/-- CORE, computed registers (05 Tables 5.7, 5.8, 01 Table 1.6, 11 R309). -/
def State.readCore (s : State) (a : Nat) : Option Word :=
  let n := (a - 0x100_0000) / 0x1_0000
  let off := a % 0x1_0000
  let p := tget PaceCore.init s.pace.cores n
  if off = 0 then some (wd (n + dieOf n * 2 ^ 8 + n % 36 * 2 ^ 10))
  else if off = 4 then
    let k := s.core n
    some (wd (b2n (s.coreBusy n) + 2 * b2n (s.coreFenced n) + 4 * b2n p.probe + k.cur * 8 + 32 * b2n k.waiting
      + 64 * b2n (s.coreDraining n) + (List.range 4).foldl (fun m c => if s.canIssue n c then nset m c else m) 0 * 2 ^ 8))
  else if 0x100 ≤ off && off < 0x300 then some ((s.strm n ((off - 0x100) / 0x20)).word (off % 0x20 / 4))
  else if off = 0xF00 then some (wd p.cyc)
  else if off = 0xF04 then some (wd (p.cyc / 2 ^ 32))
  else if off = 0xF08 then some (wd p.us)
  else if off = 0xF0C then some (wd (p.us / 2 ^ 32))
  else if off = 0xF10 then some (wd p.done)
  else if off = 0xF14 then some (wd (p.done / 2 ^ 32))
  else if off = 0xF18 then some (wd (p.last + b2n p.valid * 2 ^ 31))
  else none

/-- PAGEMAP: half of an entry, in HBM (11 R298). -/
def State.readPagemap (s : State) (a : Nat) : Word := wd (s.rdLE (s.pmEntry ((a - 0x200_0000) / 8) + a % 8) 4)

/-- The computed value of an address, if its register follows other state. -/
def State.computed (s : State) (l : Latches) (a : Nat) : Option Word :=
  if a < 0x1_0000 then s.readGlobal a
  else if a < 0x2_0000 then s.readClock a
  else if a < 0x3_0000 then s.readPower a
  else if a < 0x4_0000 then s.readBoot a
  else if a < 0x5_0000 then s.readSecurity a
  else if a < 0x6_0000 then s.readChrono l a
  else if a < 0x8_0000 then s.readFlt a
  else if a < 0xA_0000 then s.readIngress a
  else if a < 0xC_0000 then s.readSensctl a
  else if a < 0xE_0000 then (if a = 0xC_0040 then some s.feStatus else none)
  else if a < 0x10_0000 then s.readTransmit a
  else if a < 0x20_0000 then s.readHost a
  else if a < 0x40_0000 then s.readMemory a
  else if a < 0x100_0000 then s.readEph a
  else if a < 0x190_0000 then s.readCore a
  else if 0x200_0000 ≤ a then some (s.readPagemap a)
  else none

/-! ## Paths -/

/-- The latches of a path; the image has none. -/
def State.lat (s : State) (p : Path) : Latches :=
  match p with
  | .image => Latches.init
  | .mgmt => s.latMgmt
  | .dbg => s.latDbg
  | .bar0 => s.latBar0
def State.putLat (s : State) (p : Path) (l : Latches) : State :=
  match p with
  | .image => s
  | .mgmt => { s with latMgmt := l }
  | .dbg => { s with latDbg := l }
  | .bar0 => { s with latBar0 := l }

/-- A path carries register accesses now: BAR0 over the link, MGMT while VDD_1V8 and its clock run, a probe while debug is open,
and an image while it is loaded. -/
def State.pathUp (s : State) (p : Path) : Bool :=
  match p with
  | .image => s.live && s.boot.load.isSome
  | .mgmt => s.live && s.boot.rcRunning && !s.aon.onVbat && !s.clk.rcFault
  | .dbg => s.live && s.jtag == .dbgAccess && s.debugOpen
  | .bar0 => s.barUp

/-- The block's clock runs, as MGMT reads before step 14 need it (17 R441). -/
def State.blockClocked (s : State) (a : Nat) : Bool :=
  let on (n : Nat) : Bool := s.pllEn n && nbit s.clk.locked n
  if a < 0x8_0000 then true
  else if a < 0xA_0000 then on 3
  else if a < 0xC_0000 then on 7
  else if a < 0xE_0000 then on 3
  else if a < 0x10_0000 then on 4
  else if a < 0x20_0000 then on 2
  else if a < 0x40_0000 then on 0 && on 1
  else if a < 0x100_0000 then on 7
  else true

/-- A CORE register of a core whose compute die is powered down reads 0 and ignores writes (18 R455). -/
def State.dieGone (s : State) (a : Nat) : Bool :=
  decide (0x100_0000 ≤ a) && decide (a < 0x190_0000) && !s.diePowered (dieOf ((a - 0x100_0000) / 0x1_0000))

/-- A CORE register between the power-up of the compute dies in a wake from DEEP_SLEEP and the restoring of core state: it is as
after reset, and takes no write (07 R197, 16 R419, notes/assumptions/64.md). -/
def State.coreOut (s : State) (a : Nat) : Bool :=
  decide (0x100_0000 ≤ a) && decide (a < 0x190_0000) && s.pwr.state == .deep && s.boot.retention.isSome

/-- GLOBAL, BOOT, FAULT and CHRONO: the blocks that BAR0 reaches before step 14 (02 R40). -/
def earlyBlock (a : Nat) : Bool :=
  decide (a < 0x1_0000) || (decide (0x3_0000 ≤ a) && decide (a < 0x4_0000)) || (decide (0x5_0000 ≤ a) && decide (a < 0x8_0000))

/-- A read on a path reaches the register at an address. -/
def State.readable (s : State) (p : Path) (a : Nat) : Bool :=
  (rowOf a).isSome && !s.dieGone a &&
    (s.past14 || match p with
      | .image => true
      | .bar0 => earlyBlock a
      | _ => s.blockClocked a)

/-! ## 64-bit registers (R12, R447) -/

/-- The low word of a 64-bit register: a row of two addresses (18 R453). The calendar registers have a latch of their own. -/
def pairLow (a : Nat) : Bool :=
  a == 0x100 || a == 0x5_0020 || a == 0x5_0044 || a == 0x5_0060 || a == 0x6_0048
    || (decide (0x8_0000 ≤ a) && decide (a < 0x9_0000) && a % 0x1000 == 0x180) || a == 0xA_2108
    || a == 0xC_0010 || a == 0xC_0020 || a == 0xC_0080 || a == 0xC_0088
    || (decide (0xE_0000 ≤ a) && decide (a < 0xE_4000) && a % 0x1000 == 0x180) || a == 0x10_0180 || a == 0x10_0188
    || (decide (0x10_1000 ≤ a) && decide (a < 0x10_3000)
      && (a % 0x100 == 0x10 || a % 0x100 == 0x18 || a % 0x100 == 0x30 || a % 0x100 == 0x40))
    || a == 0x20_0010 || a == 0x20_0024 || a == 0x20_0040
    || (decide (0x20_4000 ≤ a) && decide (a < 0x20_4880) && a % 8 == 0)
    || a == 0x40_0008 || a == 0x40_0028 || a == 0x40_0080
    || (decide (0x100_0000 ≤ a) && decide (a < 0x190_0000) && a % 8 == 0
      && ((decide (0x80 ≤ a % 0x1_0000) && decide (a % 0x1_0000 < 0xA8)) || (decide (0x320 ≤ a % 0x1_0000) && decide (a % 0x1_0000 < 0x330))
        || (decide (0xF00 ≤ a % 0x1_0000) && decide (a % 0x1_0000 < 0xF18))))

/-- The value of a register without what a read does. -/
def State.peek (s : State) (l : Latches) (a : Nat) : Word :=
  match s.computed l a with
  | some w => w
  | none =>
    if keepsRaw a then
      match rowOf a with
      | some r => wd ((s.rget a).toNat &&& r.rw)
      | none => 0
    else s.rget a

/-- What a read clears or pops (RC registers, PF_INFO, SC_RDATA, SC_IBI). -/
def State.readClears (s : State) (a : Nat) : State :=
  if a = 0x1_0014 then { s with clk := { s.clk with monMin := 0, monMax := 0, monAny := false } }
  else if 0x2_0240 ≤ a && a < 0x2_0264 then (s.monMinRead ((a - 0x2_0240) / 4)).2
  else if 0x8_0000 ≤ a && a < 0x9_0000 && a % 0x1000 = 0x14 then
    let n := (a - 0x8_0000) / 0x1000
    -- the peak since a read begins at the present occupancy (notes/assumptions/57.md)
    s.putIng n { s.ing' n with peak := (s.ing' n).used }
  else if 0xA_0000 ≤ a && a < 0xA_1000 && a % 0x100 = 0x08 then (s.scRdata ((a - 0xA_0000) / 0x100)).2
  else if 0xA_0000 ≤ a && a < 0xA_1000 && a % 0x100 = 0x14 then (s.scIbi ((a - 0xA_0000) / 0x100)).2
  else if 0xE_0000 ≤ a && a < 0xE_4000 && a % 0x1000 = 0x14 then
    let n := (a - 0xE_0000) / 0x1000
    s.putPort n { s.port n with peak := (s.port n).bytes }
  else if a = 0x20_0020 then s.pfInfoRead.2
  else
    match rowOf a with
    | some r => if r.rc = 0 then s else s.rput a (wd ((s.rget a).toNat &&& (m32 - r.rc)))
    | none => s

/-- A register is read on a path that reaches it. -/
def State.readHere (s : State) (p : Path) (a : Nat) : Word × State :=
  let l := s.lat p
  if (a = 0x20_0100 || a = 0x20_0104) && nbit s.mems.ready ((a - 0x20_0100) / 4) then
    -- the stack's own temperature readout is a free value (notes/assumptions/5.md)
    let (w, s1) := s.freeW
    (wd (1 + 2 * b2n (s.refreshing ((a - 0x20_0100) / 4)) + 4 + fld w 0 8 * 256), s1)
  else if a = 0x2_0204 && s.pwr.vbatLow then
    -- no command tells when VBAT rises again: bit 8 of MON_LIVE is a free value once VBAT has been low
    let (w, s1) := s.freeW
    (wd (s.pwr.dips % 256 + fld w 0 1 * 256), s1)
  else
    match tfind l.high a with
    | some w => (w, s.putLat p { l with high := tdel l.high a })
    | none =>
      let v := s.peek l a
      let s1 := s.readClears a
      if a = 0x5_0010 then
        let sec := s.chr.sec
        (v, s1.putLat p { l with cal := some (sec, calDate sec, calTime sec) })
      else if pairLow a && p != .image then (v, s1.putLat p { l with high := tput l.high (a + 4) (s.peek l (a + 4)) })
      else (v, s1)

/-- A register read on a path: 0 where the path does not reach a register. -/
def State.readReg (s : State) (p : Path) (a : Nat) : Word × State :=
  if !s.readable p a then (0, s) else if s.coreOut a then (resetVal a, s) else s.readHere p a

/-- The path's number in the record of outputs. -/
def pathNum : Path → Nat
  | .image => 0 | .mgmt => 1 | .dbg => 2 | .bar0 => 3

/-- The answer to a read over the link carries 4 bytes (12 Table 12.13). -/
def State.linkTx (s : State) (p : Path) : State := if p = .bar0 then s.bump64 0x10_0188 4 else s

/-- A read command: the word goes out on its path. A read over the link sends 4 bytes; one that the BARs do not accept is an
Unsupported Request. -/
def State.readOut (s : State) (p : Path) (a : Nat) : State :=
  if !s.pathUp p then (if p == .bar0 && s.host.linkUp then s.out (.unsupported a) else s)
  else
    let (w, s1) := s.readReg p a
    (s1.linkTx p).out (.readWord (pathNum p) a w)

/-- A read of two DWORDs over the link: accepted in the PAGEMAP window, where it reads an entry as one unit (12 R316). -/
def State.readOutWide (s : State) (a : Nat) : State :=
  if s.pathUp .bar0 && decide (0x200_0000 ≤ a) && a % 8 == 0 && (rowOf a).isSome then
    let lo := (s.readReg .bar0 a).1
    let hi := (s.readReg .bar0 (a + 4)).1
    (s.bump64 0x10_0188 8).out (.readBytes 3 a (bytesLE 4 lo.toNat ++ bytesLE 4 hi.toNat) false)
  else bar0Bad a false 8 s

end Sys2Proof.Machine
end

