-- ==== Sys2Proof/Machine/RegWrite.lean ====
section
/-! DEFINITION. Register writes (spec/18_register_map.md R452 to R456): which path reaches which register when (00 R9, 02 R40, 17
R437, R441), locks (17 R433, R434), the access codes of 00 R11, and what a write to each register does; then the commands that
are accesses to registers. -/

namespace Sys2Proof.Machine

/-! ## Who may write (R453, R455) -/

/-- The fuse registers of SECURITY, which MGMT reaches before step 14 (17 R441). -/
def fuseBlock (a : Nat) : Bool := decide (0x4_0100 ≤ a) && decide (a < 0x4_0110)

/-- BOOT, FAULT and CHRONO (17 R441). -/
def mgmtEarly (a : Nat) : Bool :=
  (decide (0x3_0000 ≤ a) && decide (a < 0x4_0000)) || (decide (0x5_0000 ≤ a) && decide (a < 0x8_0000)) || fuseBlock a

/-- A write on a path reaches the register at an address. -/
def State.writable (s : State) (p : Path) (a : Nat) : Bool :=
  (rowOf a).isSome && !s.dieGone a && !s.coreOut a &&
    (s.past14 || match p with
      | .image => true
      | .bar0 => earlyBlock a
      | _ => mgmtEarly a)

/-- The gate of a register lets a write on a path through (R453). -/
def State.gateOpen (s : State) (g : Gate) (p : Path) (a : Nat) : Bool :=
  match g with
  | .any => true
  | .img => p == Path.image || !s.past14
  | .imgMgmt => p == Path.image || p == Path.mgmt
  | .mgmt => p == Path.mgmt
  | .stopped =>
    let c := (a - 0x10_1000) / 0x100
    p == Path.image || ((s.chan c).state == .stopped && s.chKind c != 0)

/-! ## Counter clears (14 R385) -/

/-- The counters that a CNT_CLEAR clears: the first counter and how many, the first SAT register and how many. -/
def clearGroup (a : Nat) : Option (Nat × Nat × Nat × Nat) :=
  let blk (off n : Nat) : Option (Nat × Nat × Nat × Nat) := some (a - off, n, a - 4, 1)
  if a = 0x6_0210 then some (0x6_0400, 128, 0x6_0200, 4)
  else if 0x8_0000 ≤ a && a < 0x9_0000 && a % 0x1000 = 0x144 then blk 0x44 15
  else if a = 0xC_0144 then blk 0x44 4
  else if 0xE_0000 ≤ a && a < 0xE_4000 && a % 0x1000 = 0x144 then blk 0x44 6
  else if a = 0x10_0144 then blk 0x44 6
  else if 0x10_1000 ≤ a && a < 0x10_3000 && a % 0x100 = 0x64 then blk 0x14 3
  else if a = 0x20_00C4 then blk 0x44 7
  else if a = 0x40_0144 then blk 0x44 6
  else if 0x100_0000 ≤ a && a < 0x190_0000 && a % 0x1_0000 = 0xE4 then blk 0x24 4
  else if 0x100_0000 ≤ a && a < 0x190_0000 && a % 0x1_0000 = 0x314 then blk 0x14 4
  else none

/-- Clear the counters and SAT bits of a group. -/
def State.clearCounters (s : State) (g : Nat × Nat × Nat × Nat) : State :=
  (s.rforget g.1 (g.1 + 4 * g.2.1)).rforget g.2.2.1 (g.2.2.1 + 4 * g.2.2.2)

/-! ## Registers whose write is more than storing fields -/

/-- With IDLE_PROBE 0 no core runs its probe (01 R25): a microsecond in which one ends is not filled by it. -/
def State.probesGate (s : State) : State :=
  if bit (s.rget 0x200) 8 then s
  else { s with pace := { s.pace with cores := s.pace.cores.map (fun (e : Nat × PaceCore) =>
    (e.1, { e.2 with probe := false, waited := e.2.waited || e.2.probe })) } }

/-- PACE_CTRL (01 Table 1.7): a WIN outside 4 to 16 leaves the register unchanged; a change of WIN discards the window (R27). -/
def State.writePace (s : State) (w : Word) : State :=
  let win := fld w 0 5
  if win < 4 || 16 < win then s
  else
    let old := s.rget 0x200
    let s1 := (s.rput 0x200 (wd (w.toNat &&& 0x31F))).probesGate
    if fld old 0 5 = win then s1 else { s1 with pace := { s1.pace with discard := true } }

/-- BOOT_CTRL actions (02 Table 2.11), after MODE and SRC have been set. -/
def State.bootActions (s : State) (p : Path) (w : Word) : State :=
  let c := s.rget 0x3_0010
  let s1 := if bit w 0 then s.bootGo else s
  let s2 := if bit w 1 then s1.rearmRequest (bit c 2) (fld c 4 2) else s1
  if bit w 8 then s2.pushGo p else s2

/-- ALERT_ACK (14 R378). -/
def State.alertAck (s : State) (w : Word) : State :=
  if w.toNat = s.flt.nmiSeq && s.flt.nmiPending then { s with flt := { s.flt with nmiPending := false } } else s

/-- Clear elements of a list of indices by the 1 bits of a map word. -/
def clearMap (l : List Nat) (k : Nat) (w : Word) : List Nat := l.filter (fun n => !(n / 32 == k && bit w (n % 32)))

/-- CHRONO registers (17 Table 17.6). -/
def State.writeChrono (s : State) (p : Path) (a : Nat) (w : Word) : State :=
  let c := s.chr
  match a with
  | 0x5_0000 =>
    { s with chr := { c with xtStopped := c.xtStopped && !bit w 2, stepped := c.stepped && !bit w 3, lost := c.lost && !bit w 6 } }
  | 0x5_0040 | 0x5_0044 | 0x5_0048 => if s.setAllowed p then s.putChrono a w else s
  | 0x5_004C =>
    let s1 := if bit w 0 then s.chronoSet p else s
    if bit w 1 then s1.chronoSetAtPps p else s1
  | 0x5_006C =>
    let v := sx 32 w.toNat
    if c.mode = 2 || v < -200000 || 200000 < v then s else s.putChrono a w
  | _ => s.putChrono a w

/-- CH_CTRL (12 Table 12.9): the bits act in the order of the table. -/
def State.writeChCtrl (s : State) (c : Nat) (w : Word) : State :=
  let s1 := if bit w 0 then chStart c s else s
  let s2 := if bit w 1 then chStop c s1 else s1
  let s3 := if bit w 2 then chAbort c s2 else s2
  let s4 := if bit w 3 then chRestart c s3 else s3
  if bit w 4 then chResetIdx c s4 else s4

/-- What a write does where it does more than store the row's fields; `none` for every other register. -/
def State.writeSpecial (s : State) (p : Path) (a : Nat) (w : Word) : Option State :=
  match clearGroup a with
  | some g => some (if bit w 0 then s.clearCounters g else s)
  | none =>
    if a = 0x200 then some (s.writePace w)
    else if isPllCfg a then some (s.pllCfgWrite ((a - 0x1_0100) / 0x20) w)
    else if a = 0x1_0144 then some (s.sscWrite 2 w)
    else if a = 0x1_01A4 then some (s.sscWrite 5 w)
    else if 0x1_0300 ≤ a && a < 0x1_0340 then some (s.mclkWrite ((a - 0x1_0300) / 4) w)
    else if a = 0x2_0004 then some (s.powerRequest (fld w 0 2))
    else if a = 0x2_0200 then
      some { s with pwr := { s.pwr with monEvent := s.pwr.monEvent - (s.pwr.monEvent &&& w.toNat) } }
    else if a = 0x2_0444 then
      some { s with pwr := { s.pwr with thermBits := s.pwr.thermBits - (s.pwr.thermBits &&& w.toNat) } }
    else if a = 0x3_001C then some (s.stageWord w)
    else if a = 0x4_0024 then some { s with sec := { s.sec with debugUsed := s.sec.debugUsed && !bit w 1 } }
    else if a = 0x4_0108 then some (if bit w 0 then s.fuseProgram p else s)
    else if a = 0x4_0200 then some { s with mgmt := { s.mgmt with err := s.mgmt.err && !bit w 9 } }
    else if 0x5_0000 ≤ a && a < 0x6_0000 then some (s.writeChrono p a w)
    else if a = 0x6_000C then some (s.alertAck w)
    else if 0x6_00A0 ≤ a && a < 0x6_00B4 then
      some { s with flt := { s.flt with hist := clearMap s.flt.hist ((a - 0x6_00A0) / 4) w } }
    else if 0xA_0000 ≤ a && a < 0xA_1000 && a % 0x100 = 0x04 then some (scCmdWrite ((a - 0xA_0000) / 0x100) w s)
    else if 0xA_0000 ≤ a && a < 0xA_1000 && a % 0x100 = 0x10 then
      some (if bit w 0 then scFlush ((a - 0xA_0000) / 0x100) s else s)
    else if a = 0xA_2100 then some { s with trig := { s.trig with lost := s.trig.lost && !bit w 1 } }
    else if 0x10_1000 ≤ a && a < 0x10_3000 && a % 0x100 = 0x20 then some (s.writeChCtrl ((a - 0x10_1000) / 0x100) w)
    else if 0x10_1000 ≤ a && a < 0x10_3000 && a % 0x100 = 0x24 then
      some (chDoorbell ((a - 0x10_1000) / 0x100) (fld w 0 16) s)
    else if a = 0x20_0018 then some (if bit w 0 then pmFlush s else s)
    else if a = 0x20_0030 then some (resumeWrite w s)
    else if a = 0x20_0034 then some (cancelWrite w s)
    else if a = 0x40_0028 || a = 0x40_002C then
      let m := w.toNat * (if a = 0x40_0028 then 1 else 2 ^ 32)
      some { s with eph := { s.eph with stall := s.eph.stall - (s.eph.stall &&& m) } }
    else if 0x50_0000 ≤ a && a < 0xD0_0000 && a % 0x800 = 4 then
      some (psCtrl ((a - 0x50_0000) / 0x800) (bit w 0) (bit w 1) (bit w 2) s)
    else none

/-- Store the fields of a row, those of a locked mask left as they are, and clear the W1C bits written with 1. -/
def State.writePlain (s : State) (p : Path) (r : RegRow) (locked a : Nat) (w : Word) : State :=
  if r.w1c ≠ 0 then s.rput a (wd ((s.rget a).toNat - ((s.rget a).toNat &&& w.toNat &&& r.w1c)))
  else
    match s.rawVal a with
    | none => s
    | some old =>
      let m := r.rw - (r.rw &&& locked)
      let new := if keepsRaw a && p == Path.image then w else wd ((old.toNat - (old.toNat &&& m)) + (w.toNat &&& m))
      let s1 := s.putRaw a new
      if a = 0x3_0010 then s1.bootActions p w else if 0x10_8000 ≤ a && a < 0x10_9000 then s1.flushMsix else s1

/-- While a re-arm runs, the windows of parameter sets and the Page Map ignore the paths of software (02 R63, 04 R122, 11 R298). -/
def State.windowShut (s : State) (p : Path) (a : Nat) : Bool :=
  s.boot.phase == .rearming && p != Path.image && (decide (0x200_0000 ≤ a) || (decide (0x50_0000 ≤ a) && decide (a < 0xD0_0000)))

/-- The lock bit set over fields of a row, and their mask. -/
def State.rowLock (s : State) (r : RegRow) : Option (Nat × Nat) :=
  match r.lock with
  | some (b, m) => if nbit s.boot.locks b then some (b, m) else none
  | none => none

/-- A write would change a field that a lock bit protects (17 R434, 02 R64). -/
def State.lockBroken (s : State) (a : Nat) (w : Word) : Option Nat :=
  match rowOf a with
  | none => none
  | some r =>
    match s.rowLock r, s.rawVal a with
    | some (b, m), some old => if (old.toNat &&& m) = (w.toNat &&& m) then none else some b
    | _, _ => none

/-- A write that reaches its register. -/
def State.writeHere (s : State) (p : Path) (a : Nat) (w : Word) : State :=
  match rowOf a with
  | none => s
  | some r =>
    let locked := match s.rowLock r with
      | some (_, m) => m
      | none => 0
    if !s.gateOpen r.gate p a || s.windowShut p a then s
    else
      match s.writeSpecial p a w with
      | some s1 => s1
      | none => s.writePlain p r locked a w

/-- A register write on a path: a locked field that would change keeps its value and raises LOCK_VIOLATION, unless the path is
an image's, whose records are checked before they are applied (02 R64). -/
def State.writeReg (s : State) (p : Path) (a : Nat) (w : Word) : State :=
  if !s.writable p a then s
  else
    let s1 := match s.lockBroken a w with
      | some b => if p == Path.image then s else s.lockViolation a b (Path.origin p)
      | none => s
    (s1.writeHere p a w).noteEvt s1.evtStatus

/-! ## Writes of an image (02 R55, 17 R429) -/

/-- Addresses that no image record may name: the BOOT block, LOCK_SET, PLL_CFG of the PLLs that fuses set, and reserved
addresses. -/
def badTarget (a : Nat) : Bool :=
  (decide (0x3_0000 ≤ a) && decide (a < 0x4_0000)) || a == 0x40 || a == 0x1_0100 || a == 0x1_0120 || a == 0x1_0140 || a == 0x1_01E0
    || (rowOf a).isNone

/-- FUSE_CMD.PROGRAM by an image: the request is checked and queued. A refused request fails the load with BAD_TARGET, a 65th
with FORMAT_ERR; once KEYS is locked the write is ignored, with RESULT REFUSED. -/
def State.imageFuse (s : State) (h : Header) : State × Option Nat :=
  if nbit s.boot.locks 0 then ({ s with sec := { s.sec with result := 1 } }, none)
  else
    let r := s.fuseReq
    if s.fuseRefused r || fuseSelfRevokes r h then (s, some 8)
    else if 64 ≤ s.sec.queue.length then (s, some 1)
    else ({ s with sec := { s.sec with queue := s.sec.queue ++ [r] } }, none)

/-- Remember the value that a register held before the load (R59 action 4). -/
def State.saveReg (s : State) (a : Nat) : State :=
  match s.boot.load, s.rawVal a with
  | some l, some v =>
    if l.saved.any (fun e => e.1 == a) then s
    else { s with boot := { s.boot with load := some { l with saved := (a, v) :: l.saved } } }
  | _, _ => s

/-- One register write of an image in load; the second part is the cause that fails the load. -/
def State.imageWrite (s : State) (a : Nat) (w : Word) : State × Option Nat :=
  match s.boot.load with
  | none => (s, none)
  | some l =>
    if a = 0x4_0108 then (if bit w 0 then s.imageFuse l.hdr else (s, none))
    else ((s.saveReg a).writeReg .image a w, none)

/-- A write over the link carries 4 bytes (12 Table 12.13). -/
def State.linkRx (s : State) (p : Path) : State := if p = .bar0 then s.bump64 0x10_0180 4 else s

/-- A write command on a path that is up; a write of an image acts while it is loaded. -/
def State.writeIn (s : State) (p : Path) (a : Nat) (w : Word) : State :=
  if !s.pathUp p then s
  else if p = .image then
    match s.boot.load with
    | some l =>
      if badTarget a || (s.lockBroken a w).isSome then s
      else
        match s.imageWrite a w with
        | (s1, none) => s1
        | (s1, some cause) => s1.loadFail cause l.index l.offset
    | none => s
  else (s.linkRx p).writeReg p a w

/-! ## The commands that are register writes -/

/-- A write of two DWORDs over the link: accepted in the PAGEMAP window, where it writes an entry as one unit (12 R316). -/
def State.writeInWide (s : State) (a : Nat) (lo hi : Word) : State :=
  if s.pathUp .bar0 && decide (0x200_0000 ≤ a) && a % 8 == 0 && (rowOf a).isSome then
    (s.writeIn .bar0 a lo).writeIn .bar0 (a + 4) hi
  else bar0Bad a true 8 s

/-- REGISTER_WRITE (00 R11): any register that no other row of the table names; with a second DWORD, a Page Map entry. -/
def execRegisterWrite (t : Nat) (path : Path) (addr : Nat) (value : Word) (high : Option Word) (s : State) :
    Host.Outcome State Fault Refusal :=
  .next (match high with
    | some w => (s.advance t).writeInWide addr value w
    | none => (s.advance t).writeIn path addr value)
/-- GO (02 R482). -/
def execGo (t : Nat) (path : Path) (s : State) : Host.Outcome State Fault Refusal :=
  let s := s.advance t
  .next (s.writeIn path 0x3_0010 (wd (1 + ((s.rget 0x3_0010).toNat &&& 0x34))))
/-- STAGE_DATA (02 R62). -/
def execStageData (t : Nat) (path : Path) (value : Word) (s : State) : Host.Outcome State Fault Refusal :=
  .next ((s.advance t).writeIn path 0x3_001C value)
/-- PUSH_GO (02 R62). -/
def execPushGo (t : Nat) (path : Path) (s : State) : Host.Outcome State Fault Refusal :=
  let s := s.advance t
  .next (s.writeIn path 0x3_0010 (wd (0x100 + ((s.rget 0x3_0010).toNat &&& 0x34))))
/-- REARM (02 R63). -/
def execRearm (t : Nat) (path : Path) (abort : Bool) (s : State) : Host.Outcome State Fault Refusal :=
  let s := s.advance t
  .next (s.writeIn path 0x3_0010 (wd (2 + 4 * b2n abort + ((s.rget 0x3_0010).toNat &&& 0x30))))
/-- SC_CMD (03 R95). -/
def execScCmd (t : Nat) (path : Path) (port : Nat) (value : Word) (s : State) : Host.Outcome State Fault Refusal :=
  .next ((s.advance t).writeIn path (0xA_0004 + 0x100 * port) value)
/-- SC_FLUSH (03 R95). -/
def execScFlush (t : Nat) (path : Path) (port : Nat) (s : State) : Host.Outcome State Fault Refusal :=
  .next ((s.advance t).writeIn path (0xA_0010 + 0x100 * port) 1)
/-- COMMIT (04 R123). -/
def execCommit (t : Nat) (path : Path) (src : Nat) (discard : Bool) (s : State) : Host.Outcome State Fault Refusal :=
  .next ((s.advance t).writeIn path (psAt src + 4) (wd (1 + 4 * b2n discard)))
/-- NEXT (04 R123). -/
def execNext (t : Nat) (path : Path) (src : Nat) (discard : Bool) (s : State) : Host.Outcome State Fault Refusal :=
  .next ((s.advance t).writeIn path (psAt src + 4) (wd (3 + 4 * b2n discard)))
/-- DISCARD (04 R123). -/
def execDiscard (t : Nat) (path : Path) (src : Nat) (s : State) : Host.Outcome State Fault Refusal :=
  .next ((s.advance t).writeIn path (psAt src + 4) 4)
/-- PACE_CTRL_WRITE (01 R27). -/
def execPaceCtrlWrite (t : Nat) (path : Path) (value : Word) (s : State) : Host.Outcome State Fault Refusal :=
  .next ((s.advance t).writeIn path 0x200 value)
/-- PM_FLUSH (11 R299). -/
def execPmFlush (t : Nat) (path : Path) (s : State) : Host.Outcome State Fault Refusal :=
  .next ((s.advance t).writeIn path 0x20_0018 1)
/-- RESUME (11 R302). -/
def execResume (t : Nat) (path : Path) (value : Word) (s : State) : Host.Outcome State Fault Refusal :=
  .next ((s.advance t).writeIn path 0x20_0030 value)
/-- CANCEL (11 R304). -/
def execCancel (t : Nat) (path : Path) (value : Word) (s : State) : Host.Outcome State Fault Refusal :=
  .next ((s.advance t).writeIn path 0x20_0034 value)
/-- MSIX_MASK_WRITE (12 R320). -/
def execMsixMaskWrite (t : Nat) (path : Path) (addr : Nat) (value : Word) (s : State) : Host.Outcome State Fault Refusal :=
  .next ((s.advance t).writeIn path addr value)
/-- CH_DOORBELL (12 R324). -/
def execChDoorbell (t : Nat) (path : Path) (ch : Nat) (value : Word) (s : State) : Host.Outcome State Fault Refusal :=
  .next ((s.advance t).writeIn path (chanReg ch 0x24) value)
/-- START (12 R343). -/
def execStart (t : Nat) (path : Path) (ch : Nat) (s : State) : Host.Outcome State Fault Refusal :=
  .next ((s.advance t).writeIn path (chanReg ch 0x20) 1)
/-- STOP (12 R343). -/
def execStop (t : Nat) (path : Path) (ch : Nat) (s : State) : Host.Outcome State Fault Refusal :=
  .next ((s.advance t).writeIn path (chanReg ch 0x20) 2)
/-- ABORT (12 R343). -/
def execAbort (t : Nat) (path : Path) (ch : Nat) (s : State) : Host.Outcome State Fault Refusal :=
  .next ((s.advance t).writeIn path (chanReg ch 0x20) 4)
/-- RESTART (12 R343). -/
def execRestart (t : Nat) (path : Path) (ch : Nat) (s : State) : Host.Outcome State Fault Refusal :=
  .next ((s.advance t).writeIn path (chanReg ch 0x20) 8)
/-- RESET_IDX (12 R343). -/
def execResetIdx (t : Nat) (path : Path) (ch : Nat) (s : State) : Host.Outcome State Fault Refusal :=
  .next ((s.advance t).writeIn path (chanReg ch 0x20) 16)
/-- ALERT_ACK (14 R378). -/
def execAlertAck (t : Nat) (path : Path) (value : Word) (s : State) : Host.Outcome State Fault Refusal :=
  .next ((s.advance t).writeIn path 0x6_000C value)
/-- CNT_CLEAR (14 R385). -/
def execCntClear (t : Nat) (path : Path) (addr : Nat) (value : Word) (s : State) : Host.Outcome State Fault Refusal :=
  .next (if (clearGroup addr).isSome then (s.advance t).writeIn path addr value else s.advance t)
/-- PLL_CFG_WRITE (15 R397). -/
def execPllCfgWrite (t : Nat) (path : Path) (n : Nat) (value : Word) (s : State) : Host.Outcome State Fault Refusal :=
  .next ((s.advance t).writeIn path (0x1_0100 + 0x20 * n) value)
/-- SSC_CFG_WRITE (15 R401). -/
def execSscCfgWrite (t : Nat) (path : Path) (n : Nat) (value : Word) (s : State) : Host.Outcome State Fault Refusal :=
  .next ((s.advance t).writeIn path (0x1_0104 + 0x20 * n) value)
/-- MCLK_CFG_WRITE (15 R403). -/
def execMclkCfgWrite (t : Nat) (path : Path) (n : Nat) (value : Word) (s : State) : Host.Outcome State Fault Refusal :=
  .next ((s.advance t).writeIn path (0x1_0300 + 4 * n) value)
/-- PWR_REQ_RUN (16 R421). -/
def execPwrReqRun (t : Nat) (path : Path) (s : State) : Host.Outcome State Fault Refusal :=
  .next ((s.advance t).writeIn path 0x2_0004 0)
/-- PWR_REQ_SLEEP (16 R420). -/
def execPwrReqSleep (t : Nat) (path : Path) (s : State) : Host.Outcome State Fault Refusal :=
  .next ((s.advance t).writeIn path 0x2_0004 1)
/-- PWR_REQ_DEEP_SLEEP (16 R420). -/
def execPwrReqDeepSleep (t : Nat) (path : Path) (s : State) : Host.Outcome State Fault Refusal :=
  .next ((s.advance t).writeIn path 0x2_0004 2)
/-- PROGRAM (17 R429). -/
def execProgram (t : Nat) (path : Path) (s : State) : Host.Outcome State Fault Refusal :=
  .next ((s.advance t).writeIn path 0x4_0108 1)
/-- SET (17 R446). -/
def execSet (t : Nat) (path : Path) (s : State) : Host.Outcome State Fault Refusal :=
  .next ((s.advance t).writeIn path 0x5_004C 1)
/-- SET_AT_PPS (17 R446). -/
def execSetAtPps (t : Nat) (path : Path) (s : State) : Host.Outcome State Fault Refusal :=
  .next ((s.advance t).writeIn path 0x5_004C 2)

/-! ## The commands that are register reads -/

/-- SC_RDATA_READ (03 R95). -/
def execScRdataRead (t : Nat) (path : Path) (port : Nat) (s : State) : Host.Outcome State Fault Refusal :=
  .next ((s.advance t).readOut path (0xA_0008 + 0x100 * port))
/-- SC_IBI_READ (03 R97). -/
def execScIbiRead (t : Nat) (path : Path) (port : Nat) (s : State) : Host.Outcome State Fault Refusal :=
  .next ((s.advance t).readOut path (0xA_0014 + 0x100 * port))
/-- PART_MARGIN_LOW_READ (01 R28). -/
def execPartMarginLowRead (t : Nat) (path : Path) (p : Nat) (s : State) : Host.Outcome State Fault Refusal :=
  .next ((s.advance t).readOut path (0x500 + 4 * p))
/-- PF_INFO_READ (11 R301). -/
def execPfInfoRead (t : Nat) (path : Path) (s : State) : Host.Outcome State Fault Refusal :=
  .next ((s.advance t).readOut path 0x20_0020)
/-- CHRONO_FRAC_READ (17 R447). -/
def execChronoFracRead (t : Nat) (path : Path) (s : State) : Host.Outcome State Fault Refusal :=
  .next ((s.advance t).readOut path 0x5_0010)
/-- LOW_WORD_READ (00 R12); of two DWORDs, a Page Map entry (12 R316). -/
def execLowWordRead (t : Nat) (path : Path) (addr : Nat) (wide : Bool) (s : State) : Host.Outcome State Fault Refusal :=
  .next (if wide then (s.advance t).readOutWide addr else (s.advance t).readOut path addr)
/-- BUF_PEAK_READ (03 R102). -/
def execBufPeakRead (t : Nat) (path : Path) (port : Nat) (s : State) : Host.Outcome State Fault Refusal :=
  .next ((s.advance t).readOut path (0x8_0014 + 0x1000 * port))
/-- TXQ_PEAK_READ (09 R248). -/
def execTxqPeakRead (t : Nat) (path : Path) (port : Nat) (s : State) : Host.Outcome State Fault Refusal :=
  .next ((s.advance t).readOut path (0xE_0014 + 0x1000 * port))
/-- MON_COUNT_READ (15 R391). -/
def execMonCountRead (t : Nat) (path : Path) (s : State) : Host.Outcome State Fault Refusal :=
  .next ((s.advance t).readOut path 0x1_0014)
/-- MON_MIN_READ (16 R415). -/
def execMonMinRead (t : Nat) (path : Path) (n : Nat) (s : State) : Host.Outcome State Fault Refusal :=
  .next ((s.advance t).readOut path (0x2_0240 + 4 * n))
/-- RESPLIT_LAST_READ (07 R192). -/
def execResplitLastRead (t : Nat) (path : Path) (core : Nat) (s : State) : Host.Outcome State Fault Refusal :=
  .next ((s.advance t).readOut path (coreReg core 0x4C))

end Sys2Proof.Machine
end

