-- ==== Sys2Proof/Machine/Image.lean ====
section
/-! DEFINITION. Loading a Leneno image (spec/02_leneno_image_and_start.md R45 to R57): the header's checks, the records in their
order, and the ARM record that ends the image. The bytes of an image in the staging region are read there; those of an NVM image
come with the command. -/

namespace Sys2Proof.Machine

/-! ## The header (R46, R47) -/

/-- MAGIC: 4C 4E 4E 4F. -/
def magicOk (h : List Byte) : Bool := ofBytesBE (slice h 0 4) == 0x4C4E4E4F

/-- The header's integer fields (Table 2.3). -/
def Header.ofBytes (h : List Byte) : Header :=
  { advanceSvn := leAt h 6 2 % 2 == 1, svn := leAt h 0x10 4, length := leAt h 0x14 4, buildId := leAt h 0x18 4
    keySlot := leAt h 0x1C 1, aesSlot := leAt h 0x1D 1 }

/-- Check 1, but for the placement. -/
def hdrFormatOk (h : List Byte) : Bool :=
  let f := Header.ofBytes h
  magicOk h && leAt h 4 2 == 1 && decide (leAt h 6 2 ≤ 1) && zerosAt h 0x1E 2 && zerosAt h 0x50 16 && zerosAt h 0xC0 64
    && zerosAt h 0x160 160 && pushLenOk f.length && decide (f.svn ≤ 127) && decide (f.keySlot ≤ 3)
    && (decide (f.aesSlot ≤ 3) || f.aesSlot == 0xFF)

/-- IMAGE_LENGTH equals PUSH_LEN for a staged image; an NVM image lies within an NVM whose density is known. -/
def State.placed (s : State) (f : Header) : Bool :=
  if 2 ≤ s.boot.src then f.length == (s.rget 0x3_0014).toNat
  else s.boot.nvm.density == 0 || decide (s.boot.slot * 2 ^ 28 + f.length ≤ s.boot.nvm.density)

/-- KEY_USE allows a slot from a bit up: a re-arm must have its bit (17 R432). -/
def State.keyUse (s : State) (b : Nat) : Bool := s.boot.rearm.isNone || bit (s.rget 0x4_0010) b

/-- The cause of the first check of Table 2.4 that fails, or 0. -/
def State.headerCause (s : State) (h : List Byte) : Nat :=
  let f := Header.ofBytes h
  let k := f.keySlot
  let a := f.aesSlot
  if s.boot.src < 2 && !magicOk h then 0xC
  else if !(hdrFormatOk h && s.placed f) then 1
  else if leAt h 8 4 != 0x5C01_9440 || leAt h 0xC 4 % 2 == 0 then 2
  else if !(s.keyValid k && !s.keyRevoked k && sha384 (slice h 0x60 96) == ofBytesBE (s.fuseBytes (12 * k) 48) && s.keyUse k) then 3
  else if !ecdsaOk (ofBytesBE (slice h 0x60 48), ofBytesBE (slice h 0x90 48)) (ofBytesBE (slice h 0x100 48))
      (ofBytesBE (slice h 0x130 48)) (sha384 (slice h 0 0x100)) then 4
  else if f.svn < s.rollback then 5
  else if !(a == 0xFF || (s.aesValid a && !s.aesRevoked a && s.keyUse (8 + a))) then 3
  else 0

/-- How the NVM is read after SFDP (R36): the interface of the boot source with the command of its parameter table, else 1S-1S-1S
with 0x13. -/
def nvmOf (src : Nat) (sfdp : Option Sfdp) : Nvm :=
  match sfdp with
  | some f =>
    match f.read with
    | some (c, d) => { mode := if src = 0 then .octal else .quad, code := c, dummy := d, density := f.density }
    | none => { Nvm.init with density := f.density }
  | none => Nvm.init

/-- The first location of an NVM is about to be read: the software reset pair, SFDP, and the enable sequence of 8D-8D-8D where it
is used (R36). -/
def State.nvmOpen (s : State) (sfdp : Option Sfdp) : State :=
  let v := nvmOf s.boot.src sfdp
  let s1 := { s with boot := { s.boot with nvm := v, fallback := v.mode == NvmMode.single } }
  s1.outs ([Out.nvmCommand 0x66, Out.nvmCommand 0x99, Out.nvmCommand 0x5A] ++ (if v.mode = NvmMode.octal then [Out.nvmOctal] else []))

/-- Bytes of an NVM image are read from an offset on, with the command that SFDP gave (R36); a staged image takes none. -/
def State.nvmRead (s : State) (off n : Nat) : State :=
  let v := s.boot.nvm
  if 2 ≤ s.boot.src then s else s.out (.nvmRead v.mode v.code v.dummy (s.boot.slot * 2 ^ 28 + off) n)

/-- The header of the straps' primary image is being read and checked: from the first microsecond tick of MEM_INIT until it has
passed or failed, STATE reads HEADER (R38 step 10; notes/assumptions/37.md). -/
def State.headerTick (s : State) : State :=
  let b := s.boot
  if s.live && b.phase == .memInit && b.load.isNone && decide (b.straps.bootSrc < 2) then
    { s with boot := { b with phase := .header, src := b.straps.bootSrc, slot := 0 } }
  else s

/-- Where the header of an image is awaited, and the state with its source and slot: the straps' primary while the memories are
zeroed, the location chosen before, or the new image of a re-arm. -/
def State.headerDue (s : State) : Option State :=
  let b := s.boot
  if !s.live || b.load.isSome then none
  else
    match b.phase with
    | .memInit => if b.straps.bootSrc < 2 then some { s with boot := { b with src := b.straps.bootSrc, slot := 0 } } else none
    | .header => if b.src < 2 || b.pushed then some s else none
    | .rearming =>
      match b.rearm with
      | some r =>
        if r.step == .image && (r.src < 2 || b.pushed) then
          some { s with boot := { b with src := r.src, slot := if r.src < 2 then 0 else 1 } }
        else none
      | none => none
    | _ => none

/-- The load of an image whose header has passed; the engine takes its copy of the key (17 R430). -/
def State.startLoad (s : State) (h : List Byte) : State :=
  let f := Header.ofBytes h
  let l : Load :=
    { hdr := f, index := 1, offset := 0x200, expect := ofBytesBE (slice h 0x20 48), wait := none, delay := none
      seenLock := false, lockBits := 0, ranges := [], saved := []
      key := if f.aesSlot = 0xFF then 0 else ofBytesLE (s.fuseBytes (56 + 8 * f.aesSlot) 32) }
  { s with boot := { s.boot with load := some l } }

/-- IMAGE_HEADER: `data` is what the NVM returns; `sfdp` is what its SFDP tables told, `none` where they are unreadable, and counts
at the primary location, where they are read (R36, R47). A re-arm from an NVM whose controller GATE_RUN stops fails with NVM (15
R404). -/
def imageHeader (data : List Byte) (sfdp : Option Sfdp) (s : State) : State :=
  match s.headerDue with
  | none => s
  | some s1 =>
    let staged := decide (2 ≤ s1.boot.src)
    let h := if staged then s1.rd stageBase 0x200 else slice data 0 0x200
    let dead := s1.boot.rearm.isSome && !staged && s1.gatedIn .run 8
    let s0 := { s1 with boot := { s1.boot with attempts := min 255 (s1.boot.attempts + 1), loadBytes := 0x200 } }
    let s2 := if dead || staged then s0 else (if s0.boot.slot = 0 then s0.nvmOpen sfdp else s0).nvmRead 0 0x200
    let cause := if dead then 0xC else s2.headerCause h
    if cause != 0 then s2.loadFail cause 0 0
    else
      let s3 := s2.startLoad h
      if s3.boot.phase = .rearming then s3
      else s3.setPhase (if s3.boot.memDone then .loading else .memInit)

/-! ## Records (R48 to R54) -/

/-- A record descriptor (Table 2.5). -/
structure RecDesc where
  typ : Nat
  flags : Nat
  rsv : Nat
  length : Nat
  target : Nat
  count : Nat
  next : Nat
  deriving DecidableEq, Repr

def readDesc (b : List Byte) : RecDesc :=
  { typ := leAt b 0 1, flags := leAt b 1 1, rsv := leAt b 2 2, length := leAt b 4 4, target := leAt b 8 4, count := leAt b 12 4
    next := ofBytesBE (slice b 16 48) }

/-- ENC and ZERO. -/
def RecDesc.enc (d : RecDesc) : Bool := nbit d.flags 0
def RecDesc.zero (d : RecDesc) : Bool := nbit d.flags 1

/-- Descriptor, stored payload and padding. -/
def RecDesc.total (d : RecDesc) : Nat := 64 + ceilDiv d.length 64 * 64

/-- The device address of a MEM_LOAD, if all its bytes lie in one space (Table 2.7). -/
def loadAddr (target count : Nat) : Option Nat :=
  let o := target % 2 ^ 28 * 256
  let within (base size : Nat) : Option Nat := if o + count ≤ size then some (base + o) else none
  match target / 2 ^ 28 with
  | 0 => within 0 (2 ^ 34)
  | 1 => within (2 ^ 34) (2 ^ 34 - 2 ^ 28)
  | 2 => within (vaultAt 0) (144 * 0x40_0000)
  | 3 => within (poolAt 0) (4 * 0x100_0000)
  | 4 => if o < 144 * 0x20_0000 && decide (o % 0x20_0000 + count ≤ 0x18_2000) then some (localAt 0 + o) else none
  | _ => none

/-- The flags that a TYPE allows, and its field limits (Table 2.6). An ARM record whose NEXT_HASH is not zero fails as a field
outside its limit: the spec names no cause (DESIGN CHOICE, notes/assumptions/39.md). -/
def RecDesc.fieldsOk (d : RecDesc) : Bool :=
  match d.typ with
  | 0x01 => decide (d.flags ≤ 1) && d.target == 0 && d.count % 8 == 0 && decide (8 ≤ d.count) && decide (d.count ≤ 65536)
  | 0x02 => decide (d.flags ≤ 1) && d.target % 4 == 0 && d.count % 4 == 0 && decide (4 ≤ d.count) && decide (d.count ≤ 65536)
  | 0x03 => decide (d.flags ≤ 2) && d.count % 256 == 0 && decide (256 ≤ d.count) && (loadAddr d.target d.count).isSome
  | 0x04 => d.flags == 0 && d.target == 0 && d.count == 16
  | 0x05 => d.flags == 0 && decide (d.target ≤ 1_000_000) && d.count == 0
  | 0x0E => d.flags == 0 && d.target == 0 && decide (d.length ≤ 2 ^ 24)
  | 0x0F => d.flags == 0 && decide (d.target < 64) && d.count == 0
  | 0x10 => d.flags == 0 && decide (d.target ≤ 1) && d.count == 0 && d.next == 0
  | _ => false

/-- The descriptor checks of R53 and R54. An ENC record in an image whose AES_SLOT is 0xFF fails here: the spec gives it no cause
(DESIGN CHOICE, notes/assumptions/40.md). -/
def RecDesc.ok (d : RecDesc) (l : Load) : Bool :=
  let e := l.offset + d.total
  d.rsv == 0 && d.fieldsOk
    && d.length == (if d.zero then 0 else if d.enc then d.count + 32 else d.count)
    && (!d.enc || l.hdr.aesSlot != 0xFF)
    && decide (e ≤ l.hdr.length) && ((e == l.hdr.length) == (d.typ == 0x10))
    && (!l.seenLock || d.typ == 0x0F || d.typ == 0x10)

/-- A range joined to a rising list of ranges; adjacent and overlapping ones merge (R56). -/
def addRange (g : Range) : List Range → List Range
  | [] => [g]
  | h :: r =>
    if g.hi < h.lo then g :: h :: r
    else if h.hi < g.lo then h :: addRange g r
    else addRange { lo := min g.lo h.lo, hi := max g.hi h.hi } r

/-- The record that is next fails the load. -/
def State.recordFail (s : State) (cause : Nat) : State :=
  match s.boot.load with
  | some l => s.loadFail cause l.index l.offset
  | none => s

/-- The record in progress, n bytes with its padding, is complete. -/
def State.recordDone (s : State) (n : Nat) : State :=
  match s.boot.load with
  | some l => { s with boot := { s.boot with load := some { l with index := l.index + 1, offset := l.offset + n, wait := none, delay := none } } }
  | none => s

def State.putLoad (s : State) (l : Load) : State := { s with boot := { s.boot with load := some l } }

/-- Records are taken: the memories are zeroed, and no WAIT or DELAY holds the load. -/
def State.recordDue (s : State) : Option Load :=
  match s.boot.load with
  | some l =>
    if s.live && (s.boot.phase == .loading || s.boot.phase == .rearming) && l.wait.isNone && l.delay.isNone then some l else none
  | none => none

/-- The bytes of the next record: n of them. -/
def State.recordBytes (s : State) (l : Load) (data : List Byte) (n : Nat) : List Byte :=
  if 2 ≤ s.boot.src then s.rd (stageBase + l.offset) n else slice data 0 n

/-- The plaintext of a record's payload, and whether its tag is right (R50). The 4 bytes after the nonce and the padding are
accepted whatever they hold: the spec names no check of them (DESIGN CHOICE, notes/assumptions/38.md). -/
def payloadOf (l : Load) (d : RecDesc) (b : List Byte) : List Byte × Bool :=
  if d.enc then gcmOpen (bytesLE 32 l.key) (slice b 64 12) (slice b 0 16) (slice b 80 d.count) (slice b (80 + d.count) 16)
  else (slice b 64 d.count, true)

/-- A MEM_LOAD is written as it arrives (R53). -/
def State.loadMem (s : State) (d : RecDesc) (pt : List Byte) : State :=
  match loadAddr d.target d.count with
  | some a => if d.zero then s.zero a (a + d.count) else s.wr a pt
  | none => s

/-- Step 13 begins with the first LOCK or ARM record: what its checks report is cleared (R481). -/
def State.step13 (s : State) (l : Load) (typ : Nat) : State :=
  if !l.seenLock && (typ == 0x0F || typ == 0x10) then
    let s1 := (((s.rput 0x9_0000 0).rput 0x40_0010 0).rput 0x20_0008 0).rput 0x10_0008 0
    { s1 with boot := { s1.boot with armCheck := 0 } }
  else s

/-- The next record, if it is of this TYPE: checked, read, and its hash and tag compared. A record whose descriptor fails ends the
load whatever its TYPE. Answers the load, the descriptor and the plaintext of an accepted record. -/
def State.takeRecord (s : State) (typ : Nat) (data : List Byte) : State × Option (Load × RecDesc × List Byte) :=
  match s.recordDue with
  | none => (s, none)
  | some l =>
    let d := readDesc (s.recordBytes l data 64)
    let s0 := (s.step13 l d.typ).nvmRead l.offset (if d.ok l then d.total else 64)
    let count (s : State) (n : Nat) : State := { s with boot := { s.boot with loadBytes := (s.boot.loadBytes + n) % 2 ^ 32 } }
    if !d.ok l then ((count s0 64).recordFail 1, none)
    else if d.typ ≠ typ then (s, none)
    else
      let b := s.recordBytes l data d.total
      let (pt, tag) := payloadOf l d b
      let s1 := if typ = 3 then (count s0 d.total).loadMem d pt else count s0 d.total
      if sha384 b ≠ l.expect then (s1.recordFail 6, none)
      else if !tag then (s1.recordFail 7, none)
      else
        let l1 := { l with expect := d.next }
        (s1.putLoad l1, some (l1, d, pt))

/-- The writes of a REG_WRITE or REG_BLOCK: every address against BAD_TARGET, then every one against LOCKED_TARGET, then all are
applied in order (R55, R64). -/
def State.applyWrites : List (Nat × Word) → State → State
  | [], s => s
  | (a, w) :: r, s =>
    match s.imageWrite a w with
    | (s1, none) => State.applyWrites r s1
    | (s1, some cause) => s1.recordFail cause

def State.regRecord (s : State) (d : RecDesc) (ws : List (Nat × Word)) : State :=
  if ws.any (fun e => badTarget e.1) then s.recordFail 8
  else if ws.any (fun e => (s.lockBroken e.1 e.2).isSome) then s.recordFail 0xB
  else (State.applyWrites ws s).recordDone d.total

/-- REG_WRITE: pairs of an address and a value. -/
def regWrite (data : List Byte) (s : State) : State :=
  match s.takeRecord 1 data with
  | (s1, some (_, d, pt)) =>
    s1.regRecord d ((List.range (d.count / 8)).map (fun i => (leAt pt (8 * i) 4, wd (leAt pt (8 * i + 4) 4))))
  | (s1, none) => s1

/-- REG_BLOCK: words to consecutive addresses from TARGET. -/
def regBlock (data : List Byte) (s : State) : State :=
  match s.takeRecord 2 data with
  | (s1, some (_, d, pt)) =>
    s1.regRecord d ((List.range (d.count / 4)).map (fun i => (d.target + 4 * i, wd (leAt pt (4 * i) 4))))
  | (s1, none) => s1

/-- MEM_LOAD: an encrypted one makes its target a protected range, of which there may be 64 after merging (R56), judged at each
record on the ranges so far (DESIGN CHOICE, notes/assumptions/41.md). -/
def memLoad (data : List Byte) (s : State) : State :=
  match s.takeRecord 3 data with
  | (s1, some (l, d, _)) =>
    match loadAddr d.target d.count with
    | some a =>
      if d.enc then
        let g := addRange { lo := a, hi := a + d.count } l.ranges
        if 64 < g.length then s1.recordFail 0xA else (s1.putLoad { l with ranges := g }).recordDone d.total
      else s1.recordDone d.total
    | none => s1
  | (s1, none) => s1

/-- One read of a WAIT: the record completes when the read meets its condition. -/
def State.waitPoll (s : State) : State :=
  match s.boot.load with
  | some l =>
    match l.wait with
    | some w =>
      let (v, s1) := s.readReg .image w.addr
      if v.toNat &&& w.mask = w.value then s1.recordDone 128 else s1
    | none => s
  | none => s

/-- A microsecond tick while a WAIT holds the load: its next read, up to the t-th tick. -/
def State.waitTick (s : State) : State :=
  match s.boot.load with
  | some l =>
    match l.wait with
    | some w =>
      if w.ticks < w.timeout then (s.putLoad { l with wait := some { w with ticks := w.ticks + 1 } }).waitPoll else s
    | none => s
  | none => s

/-- WAIT: the first read is made at once (R51). -/
def imageWait (data : List Byte) (s : State) : State :=
  match s.takeRecord 4 data with
  | (s1, some (l, _, pt)) =>
    let w : WaitRec := { addr := leAt pt 0 4, mask := leAt pt 4 4, value := leAt pt 8 4, timeout := leAt pt 12 4, ticks := 0 }
    if 1_000_000 < w.timeout then s1.recordFail 1 else (s1.putLoad { l with wait := some w }).waitPoll
  | (s1, none) => s1

/-- WAIT_TIMEOUT: the read at the t-th tick has failed too. -/
def waitTimeout (s : State) : State :=
  match s.boot.load with
  | some l =>
    match l.wait with
    | some w => if s.live && decide (w.timeout ≤ w.ticks) then s.recordFail 9 else s
    | none => s
  | none => s

/-- DELAY: TARGET microseconds. -/
def imageDelay (data : List Byte) (s : State) : State :=
  match s.takeRecord 5 data with
  | (s1, some (l, d, _)) => s1.putLoad { l with delay := some (s1.now + d.target * 1000) }
  | (s1, none) => s1

/-- DELAY_EXPIRE. -/
def delayExpire (s : State) : State :=
  match s.boot.load with
  | some l =>
    match l.delay with
    | some e => if s.live && decide (e ≤ s.now) then s.recordDone 64 else s
    | none => s
  | none => s

/-- INFO: checked for its hash only. -/
def imageInfo (data : List Byte) (s : State) : State :=
  match s.takeRecord 0x0E data with
  | (s1, some (_, d, _)) => s1.recordDone d.total
  | (s1, none) => s1

/-- LOCK: its bits are gathered; they are set with step 14 (R54). -/
def imageLock (data : List Byte) (s : State) : State :=
  match s.takeRecord 0x0F data with
  | (s1, some (l, d, _)) => (s1.putLoad { l with seenLock := true, lockBits := l.lockBits ||| d.target }).recordDone d.total
  | (s1, none) => s1

/-- ARM: the key copy is cleared, every check of step 13 runs, and step 14 follows, or the load fails once (R481). With limits of
R400 broken the spec leaves the device's behaviour undefined. -/
def imageArm (data : List Byte) (s : State) : Host.Outcome State Fault Refusal :=
  match s.takeRecord 0x10 data with
  | (s1, some (l, d, _)) =>
    let s2 := (s1.putLoad { l with key := 0 }).runChecks
    if s2.boot.armCheck ≠ 0 then .next (s2.recordFail 1)
    else if s2.clocksOk then .next (s2.step14 l (nbit d.target 0))
    else .fault .clockLimitBroken
  | (s1, none) => .next s1

/-! ## The commands -/

/-- IMAGE_HEADER (02 R47). -/
def execImageHeader (t : Nat) (data : List Byte) (sfdp : Option Sfdp) (s : State) : Host.Outcome State Fault Refusal :=
  .next (imageHeader data sfdp (s.advance t))
/-- REG_WRITE (02 R55). -/
def execRegWrite (t : Nat) (data : List Byte) (s : State) : Host.Outcome State Fault Refusal := .next (regWrite data (s.advance t))
/-- REG_BLOCK (02 R55). -/
def execRegBlock (t : Nat) (data : List Byte) (s : State) : Host.Outcome State Fault Refusal := .next (regBlock data (s.advance t))
/-- MEM_LOAD (02 R53, R56). -/
def execMemLoad (t : Nat) (data : List Byte) (s : State) : Host.Outcome State Fault Refusal := .next (memLoad data (s.advance t))
/-- WAIT (02 R51). -/
def execWait (t : Nat) (data : List Byte) (s : State) : Host.Outcome State Fault Refusal := .next (imageWait data (s.advance t))
/-- WAIT_TIMEOUT (02 R51). -/
def execWaitTimeout (t : Nat) (s : State) : Host.Outcome State Fault Refusal := .next (waitTimeout (s.advance t))
/-- DELAY (02 R51). -/
def execDelay (t : Nat) (data : List Byte) (s : State) : Host.Outcome State Fault Refusal := .next (imageDelay data (s.advance t))
/-- DELAY_EXPIRE (02 R51). -/
def execDelayExpire (t : Nat) (s : State) : Host.Outcome State Fault Refusal := .next (delayExpire (s.advance t))
/-- INFO (02 R51). -/
def execInfo (t : Nat) (data : List Byte) (s : State) : Host.Outcome State Fault Refusal := .next (imageInfo data (s.advance t))
/-- LOCK (02 R54). -/
def execLock (t : Nat) (data : List Byte) (s : State) : Host.Outcome State Fault Refusal := .next (imageLock data (s.advance t))
/-- ARM (02 R54, R481). -/
def execArm (t : Nat) (data : List Byte) (s : State) : Host.Outcome State Fault Refusal := imageArm data (s.advance t)

end Sys2Proof.Machine
end

