-- ==== Sys2Proof/Machine/Reset.lean ====
section
/-! DEFINITION. Resets (spec/02_leneno_image_and_start.md R33; spec/16_power_modes_and_supplies.md R416, R417): what the device
is while it is held in reset, and reset release. -/

namespace Sys2Proof.Machine

/-- A fuse word is being programmed: the bits of a counter word are programmed in ascending order, those of another word in any
(17 R427, R429). How far the programming has come is a free value (notes/assumptions/5.md). -/
def State.fuseBreak (s : State) : State :=
  match s.sec.busy with
  | none => s
  | some r =>
    if 96 ≤ r.word then
      let (k, s1) := s.freeN
      s1.burn { r with value := r.value &&& (2 ^ (k % 33) - 1) }
    else
      let (w, s1) := s.freeW
      s1.burn { r with value := r.value &&& w.toNat }

/-- EN of DEBUG_CTRL at reset (17 R436). -/
def State.debugAtReset (s : State) : Bool := fld (s.fuse 48) 0 4 == 0 && !s.debugDisable

/-- The device goes into reset: every block but the always-on domain takes its reset state; the fuses keep their bits, and the
straps keep their levels (R33). -/
def State.enterReset (s : State) : State :=
  if s.held then s
  else
    let f := s.fuseBreak
    { State.reset with
      now := f.now, pending := f.pending, outbox := f.outbox, freeCount := f.freeCount, held := true
      pinResetN := f.pinResetN, pinPwrgood := f.pinPwrgood, railHold := f.railHold, jtag := f.jtag
      boot := Boot.init f.boot.straps f.now, aon := f.aon, chr := f.chr, mgmt := f.mgmt
      sec := { Sec.blank with fuses := f.sec.fuses } }

/-- A cause that the always-on domain notes. -/
def State.noteCause (s : State) (m : Nat) : State :=
  if s.aon.powered then { s with aon := { s.aon with causes := s.aon.causes ||| m } } else s

/-- A JTAG instruction holds the device in reset (17 R435). -/
def jtagHolds (j : JtagInstr) : Bool :=
  match j with
  | .extest | .clamp | .highz => true
  | _ => false

/-- Reset release is due: both pins high, no JTAG instruction and no monitor holds the device, and VDD_1V8 supplies it. -/
def State.mayRelease (s : State) : Bool :=
  s.held && s.pinResetN && s.pinPwrgood && !s.railHold && !jtagHolds s.jtag && s.aon.powered && !s.aon.onVbat

/-- The SUPPLY_RESET record, the first after the reset that it caused. The spec gives its class no detail, which is a free
value. -/
def State.supplyRecord (s : State) : State :=
  match s.aon.supply with
  | none => s
  | some (rail, time) =>
    let (v, s1) := ({ s with aon := { s.aon with supply := none } } : State).freeN
    s1.raiseAt { cls := 0x04, action := 2, unit := 0x6000 + rail, detail := v % 2 ^ 64 } time

/-- Reset release: start-up begins at step 1 with the straps latched, and RESET_CAUSE is latched (Table 16.10). -/
def State.release (s : State) (straps : Straps) : State :=
  let s1 := { s with
    held := false, usTicks := 0, boot := Boot.init straps s.now
    aon := { s.aon with cause := s.aon.causes, causes := 0 }
    sec := { s.sec with debugEn := s.debugAtReset }
    pwr := { s.pwr with therm := [] }
    flt := { s.flt with scrubAt := s.now } }
  s1.supplyRecord

/-- RESET_ASSERT: PWRGOOD or RESET_N goes low. -/
def resetAssert (pwrgood : Bool) (s : State) : State :=
  let low := if pwrgood then !s.pinPwrgood else !s.pinResetN
  if low then s
  else
    let s1 := s.noteCause (if pwrgood then 4 else 2)
    ({ s1 with pinPwrgood := s.pinPwrgood && !pwrgood, pinResetN := s.pinResetN && pwrgood }).enterReset

/-- RESET_RELEASE: the later of the two pins rises. Rails that are not above their warning levels keep the device in reset. -/
def resetRelease (bootSrc xtalDly mgmtAddr : Nat) (railsOk : Bool) (s : State) : State :=
  if !s.held || (s.pinResetN && s.pinPwrgood) then s
  else
    let s1 := { s with pinResetN := true, pinPwrgood := true, railHold := s.railHold || !railsOk }
    if s1.mayRelease then s1.release { bootSrc := bootSrc % 4, xtalDly := xtalDly % 4, mgmtAddr := mgmtAddr % 8 } else s1

/-- SUPPLY_RESET: a rail of indices 0 to 7 has stayed below its reset level for 100 ns. Of several, the first since the last
release is the one named; a device that is already in reset is not reset by it. -/
def supplyReset (n : Nat) (s : State) : State :=
  if 8 ≤ n || s.monOff n then s
  else
    let a := s.aon
    let seen := nbit a.causes 3
    let s1 := if seen then s else s.noteCause (8 + n * 16)
    let s2 := if s.held || seen || !a.powered then s1 else { s1 with aon := { s1.aon with supply := some (n, s.ns) } }
    ({ s2 with railHold := true }).enterReset

/-- The dies at or above the reset limit of 125 °C, in units of 0.125 °C. -/
def hotDie (ts : List Int) : Option Nat := ts.findIdx? (fun x => decide (1000 ≤ x))

/-- THERMAL_SAMPLE: the temperatures of the logic dies; at 125 °C the device resets with the lowest such die named. While it is
held in reset the temperatures decide when it may be released. -/
def thermalSample (ts : List Int) (s : State) : State :=
  if s.held then { s with pwr := { s.pwr with therm := ((List.range 9).zip ts).foldl (fun m p => tput m p.1 p.2) s.pwr.therm } }
  else
    match hotDie (ts.take 9) with
    | none => s.thermNote ts
    | some d =>
      let s1 := ({ s.noteCause (2 ^ 8 + d * 2 ^ 9) with railHold := true } : State).enterReset
      { s1 with pwr := { s1.pwr with therm := ((List.range 9).zip ts).foldl (fun m p => tput m p.1 p.2) [] } }

/-- After a thermal reset every die must read at most 100 °C (R417). -/
def State.coolEnough (s : State) : Bool := !nbit s.aon.causes 8 || s.pwr.therm.all (fun e => decide (e.2 ≤ 800))

/-- SUPPLY_RESET_RELEASE: the monitors let the device go; it is released if its pins and JTAG allow it. -/
def supplyResetRelease (bootSrc xtalDly mgmtAddr : Nat) (s : State) : State :=
  if !s.held || !s.railHold || !s.coolEnough then s
  else
    let s1 := { s with railHold := false }
    if s1.mayRelease then s1.release { bootSrc := bootSrc % 4, xtalDly := xtalDly % 4, mgmtAddr := mgmtAddr % 8 } else s1

/-! ## The commands -/

/-- RESET_ASSERT (02 R33). -/
def execResetAssert (t : Nat) (pwrgood : Bool) (s : State) : Host.Outcome State Fault Refusal :=
  .next (resetAssert pwrgood (s.advance t))
/-- RESET_RELEASE (02 R33). -/
def execResetRelease (t bootSrc xtalDly mgmtAddr : Nat) (railsOk : Bool) (s : State) : Host.Outcome State Fault Refusal :=
  .next (resetRelease bootSrc xtalDly mgmtAddr railsOk (s.advance t))
/-- SUPPLY_RESET (16 R416). -/
def execSupplyReset (t n : Nat) (s : State) : Host.Outcome State Fault Refusal := .next (supplyReset n (s.advance t))
/-- THERMAL_SAMPLE (16 R417). -/
def execThermalSample (t : Nat) (temps : List Int) (s : State) : Host.Outcome State Fault Refusal :=
  .next (thermalSample temps (s.advance t))
/-- SUPPLY_RESET_RELEASE (16 R416). -/
def execSupplyResetRelease (t bootSrc xtalDly mgmtAddr : Nat) (s : State) : Host.Outcome State Fault Refusal :=
  .next (supplyResetRelease bootSrc xtalDly mgmtAddr (s.advance t))

end Sys2Proof.Machine
end

