-- ==== Sys2Proof/Machine/Jtag.lean ====
section
/-! DEFINITION. The JTAG port (spec/17_security_identity_and_time.md R435 to R437): the instructions of IEEE 1149.1, the reset that
EXTEST, CLAMP and HIGHZ hold, and debug access. The boundary-scan register is described by a BSDL file that the spec does not
hold, so that nothing of it is put out. -/

namespace Sys2Proof.Machine

/-- JTAG is served while VDD_1V8 supplies the device (19 R464). -/
def State.jtagUp (s : State) : Bool := s.aon.powered && !s.aon.onVbat

/-- An instruction becomes current. EXTEST, CLAMP and HIGHZ hold the device in reset as if RESET_N were low; when another follows,
reset release follows, with the straps at the levels last latched (notes/assumptions/35.md). -/
def State.loadInstr (s : State) (j : JtagInstr) : State :=
  if !s.jtagUp then s
  else if jtagHolds j then
    (if jtagHolds s.jtag then { s with jtag := j } else ({ s.noteCause 2 with jtag := j } : State)).enterReset
  else
    let s1 := { s with jtag := j }
    if jtagHolds s.jtag && s1.mayRelease then s1.release s.boot.straps else s1

/-- BYPASS: the one-bit register captures 0. -/
def jtagBypass (s : State) : State := if s.jtagUp then (s.loadInstr .bypass).out (.tdo 1 0) else s

/-- IDCODE: version 1, part 0x9440, the manufacturer's code, 1. -/
def jtagIdcode (s : State) : State :=
  if s.jtagUp then (s.loadInstr .idcode).out (.tdo 32 (1 + 2 * Config.jedecMfr.toNat + 0x9440 * 2 ^ 12 + 2 ^ 28)) else s

/-- TEST_LOGIC_RESET: IEEE 1149.1 makes IDCODE the current instruction. -/
def testLogicReset (s : State) : State := s.loadInstr .idcode

/-! ## Debug access (R437) -/

/-- Core-local space that can be read: what MEM_LOAD can load (02 Table 2.7). -/
def coreLocal (a n : Nat) : Bool :=
  decide (localAt 0 ≤ a) && decide (a + n ≤ localAt 144) && decide (a % 0x20_0000 + n ≤ 0x18_2000)

/-- A read of memory: core-local space, or a BAR2 offset. -/
def State.dbgRead (s : State) (a n : Nat) : State :=
  if coreLocal a n && s.past14 then
    if s.diePowered (dieOf ((a - localAt 0) / 0x20_0000)) && n != 0 then s.addAux (.bar2 2 a) false false false a n []
    else s.out (.readBytes 2 a (List.replicate n 0) false)
  else s.bar2Get 2 a n .ok

/-- DBG_ACCESS: with debug closed it behaves as BYPASS; the first after reset with debug open sets USED. -/
def dbgAccess (op : DbgOp) (s : State) : State :=
  if !s.jtagUp then s
  else
    let s1 := s.loadInstr .dbgAccess
    if !s1.pathUp .dbg then s1.out (.tdo 1 0)
    else
      let s2 := { s1 with sec := { s1.sec with debugUsed := s1.sec.debugUsed || !s1.sec.debugSeen, debugSeen := true } }
      match op with
      | .readReg a => s2.readOut .dbg a
      | .writeReg a v => s2.writeIn .dbg a v
      | .readMem a n => s2.dbgRead a n
      | .writeMem a bs => s2.bar2Put 2 a bs

/-! ## The commands -/

/-- BYPASS (17 R435). -/
def execBypass (t : Nat) (s : State) : Host.Outcome State Fault Refusal := .next (jtagBypass (s.advance t))
/-- IDCODE (17 R435). -/
def execIdcode (t : Nat) (s : State) : Host.Outcome State Fault Refusal := .next (jtagIdcode (s.advance t))
/-- SAMPLE/PRELOAD (17 R435). -/
def execSamplePreload (t : Nat) (s : State) : Host.Outcome State Fault Refusal := .next ((s.advance t).loadInstr .samplePreload)
/-- EXTEST (17 R435). -/
def execExtest (t : Nat) (s : State) : Host.Outcome State Fault Refusal := .next ((s.advance t).loadInstr .extest)
/-- CLAMP (17 R435). -/
def execClamp (t : Nat) (s : State) : Host.Outcome State Fault Refusal := .next ((s.advance t).loadInstr .clamp)
/-- HIGHZ (17 R435). -/
def execHighz (t : Nat) (s : State) : Host.Outcome State Fault Refusal := .next ((s.advance t).loadInstr .highz)
/-- DBG_ACCESS (17 R437). -/
def execDbgAccess (t : Nat) (op : DbgOp) (s : State) : Host.Outcome State Fault Refusal := .next (dbgAccess op (s.advance t))
/-- TEST_LOGIC_RESET (17 R435). -/
def execTestLogicReset (t : Nat) (s : State) : Host.Outcome State Fault Refusal := .next (testLogicReset (s.advance t))

end Sys2Proof.Machine
end

