-- ==== Sys2Proof/Machine/MgmtPort.lean ====
section
/-! DEFINITION. The MGMT port (spec/17_security_identity_and_time.md R439 to R442): write and read transactions, common command
codes and IBIs. -/

namespace Sys2Proof.Machine

/-- Addresses from which neither a write nor a read transaction advances: STAGE_DATA, SC_RDATA and SC_IBI of every port, and
PF_INFO (R440). -/
def mgmtStays (a : Nat) : Bool :=
  a == 0x3_001C || a == 0x20_0020
    || (decide (0xA_0000 ≤ a) && decide (a < 0xA_1000) && (a % 0x100 == 8 || a % 0x100 == 0x14))

def State.mgmtErr (s : State) : State := { s with mgmt := { s.mgmt with err := true } }

/-- The port answers as an I3C target once it has a dynamic address, and as an I2C target before (notes/assumptions/36.md). -/
def State.mgmtUse (s : State) : State := { s with mgmt := { s.mgmt with i3c := s.mgmt.dynAddr.isSome } }

/-- Write words from an address on. -/
def State.mgmtWords (s : State) : Nat → Nat → List Byte → State
  | 0, _, _ => s
  | n + 1, a, bs =>
    State.mgmtWords (s.writeIn .mgmt a (wd (leAt bs 0 4))) n (if mgmtStays a then a else a + 4) (bs.drop 4)

/-- MGMT_WRITE: a BAR0 address and data words. A misaligned address makes the port ignore the transaction, and surplus bytes are
discarded; both set ERR. -/
def mgmtWrite (data : List Byte) (s : State) : State :=
  if !s.pathUp .mgmt then s
  else
    let s1 := s.mgmtUse
    let a := leAt data 0 4
    if data.length < 4 || a % 4 ≠ 0 then s1.mgmtErr
    else
      let s2 := { s1 with mgmt := { s1.mgmt with addr := some a, addrAt := s1.now } }
      let s3 := if data.length % 4 = 0 then s2 else s2.mgmtErr
      s3.mgmtWords ((min data.length s.mgmt.mwl - 4) / 4) a (data.drop 4)

/-- Read words from an address on. -/
def State.mgmtGather (s : State) : Nat → Nat → List Byte × State
  | 0, _ => ([], s)
  | n + 1, a =>
    let (w, s1) := s.readReg .mgmt a
    let (bs, s2) := State.mgmtGather s1 n (if mgmtStays a then a else a + 4)
    (bytesLE 4 w.toNat ++ bs, s2)

/-- MGMT_READ: `len` bytes from the address that the last write transaction set. In I3C SDR a read that starts less than 4 µs after
that write returns 0xFF and sets ERR. -/
def mgmtRead (len : Nat) (s : State) : State :=
  if !s.pathUp .mgmt then s
  else
    let s1 := s.mgmtUse
    let n := min len s.mgmt.mrl
    if s1.mgmt.i3c && s1.mgmt.addr.isSome && decide (s1.now < s1.mgmt.addrAt + 4000) then
      s1.mgmtErr.out (.mgmtData (List.replicate n 0xFF))
    else
      let (bs, s2) := s1.mgmtGather (ceilDiv n 4) (s1.mgmt.addr.getD 0)
      s2.out (.mgmtData (bs.take n))

/-- MGMT_IBI_RETRY: the controller has NACKed the last IBI, and 1 ms has passed. -/
def mgmtIbiRetry (s : State) : State :=
  if !s.pathUp .mgmt || !s.mgmt.events then s
  else
    match s.mgmt.ibi with
    | some c => if s.mgmt.ibiAt + 1_000_000 ≤ s.now then s.putIbi c else s
    | none => s

/-! ## Common command codes (R439) -/

/-- A CCC of the controller reaches the port. -/
def State.ccc (s : State) (f : State → State) : State :=
  if s.pathUp .mgmt then f { s with mgmt := { s.mgmt with i3c := true } } else s

/-- A direct CCC needs a dynamic address; without one the port does not acknowledge. -/
def State.direct (s : State) (f : State → State) : State :=
  s.ccc (fun s => if s.mgmt.dynAddr.isSome then f s else s.out .mgmtNack)

/-- The provisional ID: manufacturer, 0, part 0x9440, MGMT_ADDR. -/
def State.pid (s : State) : Nat := Config.mipiMfr.toNat * 2 ^ 33 + 0x9440 * 2 ^ 16 + s.boot.straps.mgmtAddr * 2 ^ 12

def bcr : Nat := 0x06
def dcr : Nat := 0x00

/-- The static address (R439). -/
def State.staticAddr (s : State) : Nat := 0x48 + s.boot.straps.mgmtAddr

/-- Bytes of a value, the most significant first, as I3C sends them. -/
def msbFirst (n v : Nat) : List Byte := (bytesLE n v).reverse

def State.setDyn (s : State) (a : Option Nat) : State := { s with mgmt := { s.mgmt with dynAddr := a } }

/-- ENEC and DISEC: bit 0 of the event byte is the target's interrupts. -/
def mgmtEvents (on : Bool) (events : Nat) (s : State) : State :=
  s.ccc (fun s => if nbit events 0 then { s with mgmt := { s.mgmt with events := on } } else s)

/-- ENTDAA: a port without a dynamic address sends its provisional ID, BCR and DCR and takes the address. -/
def mgmtEntdaa (addr : Nat) (s : State) : State :=
  s.ccc (fun s =>
    if s.mgmt.dynAddr.isSome then s
    else (s.out (.mgmtData (msbFirst 6 s.pid ++ msbFirst 1 bcr ++ msbFirst 1 dcr))).setDyn (some (addr % 128)))

/-- SETDASA: to the static address of a port that has no dynamic address. -/
def mgmtSetdasa (static addr : Nat) (s : State) : State :=
  s.ccc (fun s => if s.mgmt.dynAddr.isNone && static == s.staticAddr then s.setDyn (some (addr % 128)) else s)

/-- GETSTATUS: the spec does not say what the two bytes hold (notes/assumptions/5.md). -/
def mgmtGetstatus (s : State) : State :=
  s.direct (fun s =>
    let (w, s1) := s.freeW
    s1.out (.mgmtData (msbFirst 2 w.toNat)))

/-- SETMWL and SETMRL: at most 4,096. -/
def mgmtSetLen (write : Bool) (len : Nat) (s : State) : State :=
  s.direct (fun s =>
    let n := min len 4096
    { s with mgmt := if write then { s.mgmt with mwl := n } else { s.mgmt with mrl := n } })

/-! ## The commands -/

/-- MGMT_WRITE (17 R440). -/
def execMgmtWrite (t : Nat) (data : List Byte) (s : State) : Host.Outcome State Fault Refusal := .next (mgmtWrite data (s.advance t))
/-- MGMT_READ (17 R440). -/
def execMgmtRead (t len : Nat) (s : State) : Host.Outcome State Fault Refusal := .next (mgmtRead len (s.advance t))
/-- MGMT_IBI_RETRY (17 R442). -/
def execMgmtIbiRetry (t : Nat) (s : State) : Host.Outcome State Fault Refusal := .next (mgmtIbiRetry (s.advance t))
/-- ENEC (17 R439). -/
def execEnec (t events : Nat) (s : State) : Host.Outcome State Fault Refusal := .next (mgmtEvents true events (s.advance t))
/-- DISEC (17 R439). -/
def execDisec (t events : Nat) (s : State) : Host.Outcome State Fault Refusal := .next (mgmtEvents false events (s.advance t))
/-- RSTDAA (17 R439). -/
def execRstdaa (t : Nat) (s : State) : Host.Outcome State Fault Refusal := .next ((s.advance t).ccc (fun s => s.setDyn none))
/-- ENTDAA (17 R439). -/
def execEntdaa (t addr : Nat) (s : State) : Host.Outcome State Fault Refusal := .next (mgmtEntdaa addr (s.advance t))
/-- SETDASA (17 R439). -/
def execSetdasa (t static addr : Nat) (s : State) : Host.Outcome State Fault Refusal := .next (mgmtSetdasa static addr (s.advance t))
/-- SETNEWDA (17 R439). -/
def execSetnewda (t addr : Nat) (s : State) : Host.Outcome State Fault Refusal :=
  .next ((s.advance t).direct (fun s => s.setDyn (some (addr % 128))))
/-- GETPID (17 R439). -/
def execGetpid (t : Nat) (s : State) : Host.Outcome State Fault Refusal :=
  .next ((s.advance t).direct (fun s => s.out (.mgmtData (msbFirst 6 s.pid))))
/-- GETBCR (17 R439). -/
def execGetbcr (t : Nat) (s : State) : Host.Outcome State Fault Refusal :=
  .next ((s.advance t).direct (fun s => s.out (.mgmtData (msbFirst 1 bcr))))
/-- GETDCR (17 R439). -/
def execGetdcr (t : Nat) (s : State) : Host.Outcome State Fault Refusal :=
  .next ((s.advance t).direct (fun s => s.out (.mgmtData (msbFirst 1 dcr))))
/-- GETSTATUS (17 R439). -/
def execGetstatus (t : Nat) (s : State) : Host.Outcome State Fault Refusal := .next (mgmtGetstatus (s.advance t))
/-- SETMWL (17 R439). -/
def execSetmwl (t len : Nat) (s : State) : Host.Outcome State Fault Refusal := .next (mgmtSetLen true len (s.advance t))
/-- GETMWL (17 R439). -/
def execGetmwl (t : Nat) (s : State) : Host.Outcome State Fault Refusal :=
  .next ((s.advance t).direct (fun s => s.out (.mgmtData (msbFirst 2 s.mgmt.mwl))))
/-- SETMRL (17 R439). -/
def execSetmrl (t len : Nat) (s : State) : Host.Outcome State Fault Refusal := .next (mgmtSetLen false len (s.advance t))
/-- GETMRL (17 R439): two bytes of length, and the IBI payload of one byte. -/
def execGetmrl (t : Nat) (s : State) : Host.Outcome State Fault Refusal :=
  .next ((s.advance t).direct (fun s => s.out (.mgmtData (msbFirst 2 s.mgmt.mrl ++ msbFirst 1 1))))
/-- Another direct CCC is NACKed, and another broadcast CCC is ignored (17 R439). -/
def execUnsupportedCcc (t : Nat) (direct : Bool) (s : State) : Host.Outcome State Fault Refusal :=
  .next ((s.advance t).ccc (fun s => if direct then s.out .mgmtNack else s))

end Sys2Proof.Machine
end

