-- ==== Sys2Proof/Machine/Pace.lean ====
section
/-! DEFINITION. Measuring pace (spec/01_dies_and_pace.md R24 to R30) and the microsecond tick, which also refills the buckets of
the regulators and DMA channels and polls WAIT records. -/

namespace Sys2Proof.Machine

def State.paceOf (s : State) (n : Nat) : PaceCore := tget PaceCore.init s.pace.cores n
def State.putPace (s : State) (n : Nat) (c : PaceCore) : State := { s with pace := { s.pace with cores := tput s.pace.cores n c } }

/-- The compute dies run: powered, in RUN (R26: the counters hold in SLEEP). -/
def State.paceRuns (s : State) (n : Nat) : Bool := s.diePowered (dieOf n) && s.pwr.state == .run

/-- The end of a tick interval of a core that has completed `probe` cycles of its pace probe in it. An interval is clean if cycles
were completed with no wait, or if the probe filled it. -/
def PaceCore.tick (c : PaceCore) (probe : Nat) (waiting : Bool) : PaceCore :=
  let n := if c.probe then probe else c.usCycles
  let d := { c with usCycles := 0, waited := waiting && !c.probe }
  if c.waited || n = 0 then d
  else
    { d with
      cyc := (c.cyc + n) % 2 ^ 64, us := (c.us + 1) % 2 ^ 64, winCyc := c.winCyc + n, winUs := c.winUs + 1 }

/-- MICROSECOND_TICK: `probes` gives, core by core, the cycles of the pace probes in the interval that ends. -/
def microsecondTick (probes : List Nat) (s : State) : State :=
  if !s.timebaseRuns then s
  else
    let s1 := { s with
      usTicks := s.usTicks + 1
      pace := { s.pace with cores := s.pace.cores.map (fun (e : Nat × PaceCore) =>
        (e.1, if s.paceRuns e.1 then e.2.tick (probes.getD e.1 0) (s.core e.1).waiting else e.2)) } }
    s1.regTick.dmaTick.waitTick.headerTick

/-- PACE_PROBE_START: a core that has had no work for 2 µs. The interval in which the probe starts is not filled by it. -/
def paceProbeStart (core : Nat) (s : State) : State :=
  let k := s.core core
  let c := s.paceOf core
  if s.live && decide (core < 144) && s.paceRuns core && !s.coreFenced core && bit (s.rget 0x200) 8 && k.walks.isEmpty
      && k.queued.isEmpty && k.replay.isNone && k.closed.isEmpty && k.drain.isEmpty && (List.range 4).all (fun x => !s.canIssue core x) && !c.probe
      && decide (c.lastWork + 2000 ≤ s.now) then
    s.putPace core { c with probe := true, waited := true }
  else s

/-! ## Windows (R27 to R29) -/

/-- The floor of the profile in M/s (16 Table 16.1). -/
def State.paceFloor (s : State) : Nat := if s.boot.profile = 2 then 750 else 1050

/-- The close of a window for one core. -/
def PaceCore.close (c : PaceCore) (floor : Nat) : PaceCore :=
  let d := { c with winCyc := 0, winUs := 0 }
  if c.winUs = 0 then { d with valid := false }
  else
    let l := min 0xFFFF (c.winCyc / c.winUs)
    { d with last := l, margin := min 0xFFFF (l * 4096 / floor), valid := true }

/-- The core counts towards margins: valid, powered and not fenced. -/
def State.paceCounts (s : State) (n : Nat) : Bool := (s.paceOf n).valid && !s.coreFenced n && s.diePowered (dieOf n)

/-- The least margin among cores, and the lowest-numbered core that attains it; the cores come in rising order. -/
def State.leastMargin (s : State) (ns : List Nat) : Option (Nat × Nat) :=
  (ns.filter (fun n => s.paceCounts n)).foldl (fun (b : Option (Nat × Nat)) n =>
    let m := (s.paceOf n).margin
    match b with
    | none => some (m, n)
    | some (x, y) => if m < x then some (m, n) else some (x, y)) none

/-- MARGIN, CORE and VALID of a die or partition at the close. -/
def newMargin (old : Nat × Nat × Bool) (m : Option (Nat × Nat)) : Nat × Nat × Bool :=
  match m with
  | some (x, n) => (x, n, true)
  | none => (old.1, old.2.1, false)

def State.closePart (s : State) (p : Nat) : State :=
  let m := s.leastMargin (s.partCores p)
  let s1 := { s with pace := { s.pace with part := tput s.pace.part p (newMargin (tget (0, 0, false) s.pace.part p) m) } }
  match m with
  | some (x, _) =>
    let low := (s.rget (0x500 + 4 * p)).toNat
    let s2 := if low = 0 || x < low then s1.rput (0x500 + 4 * p) (wd x) else s1
    let s3 := if x < fld (s.rget 0x208) 0 16 then s2.rset 0x204 1 else s2
    if x < 0x1000 then s3.rset 0x204 2 else s3
  | none => s1

def State.closeDie (s : State) (d : Nat) : State :=
  let m := s.leastMargin ((List.range 36).map (fun i => 36 * d + i))
  { s with pace := { s.pace with die := tput s.pace.die d (newMargin (tget (0, 0, false) s.pace.die d) m) } }

/-- PACE_WINDOW_CLOSE: at a multiple of 2^WIN ticks. A window that a change of WIN or of the profile has discarded updates
nothing. -/
def paceWindowClose (s : State) : State :=
  let len := 2 ^ fld (s.rget 0x200) 0 5
  if !s.live || s.usTicks % len != 0 || s.usTicks == s.pace.closedAt then s
  else
    let s0 := { s with pace := { s.pace with closedAt := s.usTicks, discard := false } }
    if s.pace.discard then
      { s0 with pace := { s0.pace with cores := s0.pace.cores.map (fun (e : Nat × PaceCore) => (e.1, { e.2 with winCyc := 0, winUs := 0 })) } }
    else
      let s1 := { s0 with pace := { s0.pace with
        winSeq := (s.pace.winSeq + 1) % 2 ^ 32
        cores := s0.pace.cores.map (fun (e : Nat × PaceCore) =>
          (e.1, if s.coreFenced e.1 || !s.diePowered (dieOf e.1) then { e.2 with winCyc := 0, winUs := 0 } else e.2.close s.paceFloor)) } }
      ((List.range 64).foldl State.closePart ((List.range 4).foldl State.closeDie s1)).noteEvt s.evtStatus

/-! ## The commands -/

/-- MICROSECOND_TICK (01 R24). -/
def execMicrosecondTick (t : Nat) (probes : List Nat) (s : State) : Host.Outcome State Fault Refusal :=
  .next (microsecondTick probes (s.advance t))
/-- PACE_WINDOW_CLOSE (01 R27). -/
def execPaceWindowClose (t : Nat) (s : State) : Host.Outcome State Fault Refusal := .next (paceWindowClose (s.advance t))
/-- PACE_PROBE_START (01 R25). -/
def execPaceProbeStart (t core : Nat) (s : State) : Host.Outcome State Fault Refusal := .next (paceProbeStart core (s.advance t))

end Sys2Proof.Machine
end

