-- ==== Sys2Proof/Machine/Scrub.lean ====
section
/-! DEFINITION. The scrubber (spec/14_faults_and_recovery.md R369). -/

namespace Sys2Proof.Machine

/-- A protected word that the scrubber reads: of a vault, a die pool, or an activation buffer, codebook store, drain LUT memory or
macro queue. -/
def scrubbed (a : Nat) : Bool :=
  let o := a % 0x20_0000
  a % 8 == 0 &&
    ((decide (vaultAt 0 ≤ a) && decide (a < vaultAt 144)) || (decide (poolAt 0 ≤ a) && decide (a < poolAt 4))
      || (decide (localAt 0 ≤ a) && decide (a < localAt 144)
        && (decide (o < 0x10_0000) || (decide (0x18_0000 ≤ o) && decide (o < 0x18_3000)))))

/-- The word with which a pass is complete: the scrubber reads in the order of addresses (notes/assumptions/33.md). -/
def scrubLast : Nat := mqAt 143 63 + 56

/-- SCRUB_READ: a word read well, with an error that is corrected and rewritten, or with one that is not. -/
def scrubRead (addr : Nat) (upset : ReadStatus) (s : State) : State :=
  if !(s.live && s.boot.memDone && bit (s.rget 0x6_0010) 16 && scrubbed addr) then s
  else
    let s1 :=
      if s.poison.contains addr || upset == .ue then
        let p := if s.poison.contains addr then s.poison else addr :: s.poison
        ({ s with poison := p }).raiseEcc 0x12 addr
      else if upset == .ce then s.raiseEcc 0x10 addr
      else s
    if addr = scrubLast then
      { s1 with flt := { s1.flt with scrubPasses := (s1.flt.scrubPasses + 1) % 2 ^ 64, scrubAt := s1.now } }
    else s1

/-- SCRUB_READ (14 R369). -/
def execScrubRead (t addr : Nat) (upset : ReadStatus) (s : State) : Host.Outcome State Fault Refusal :=
  .next (scrubRead addr upset (s.advance t))

end Sys2Proof.Machine
end

