-- ==== Sys2Proof/Machine/Dispatch.lean ====
section
/-! DEFINITION. The dispatch of commands: one arm per constructor, one direct call each. -/

namespace Sys2Proof.Machine

/-- The effect of a command on everything but the queue. -/
def exec (i : Instr) (s : State) : Host.Outcome State Fault Refusal :=
  match i with
  | .resetAssert t pwrgood => Sys2Proof.Machine.execResetAssert t pwrgood s
  | .resetRelease t bootSrc xtalDly mgmtAddr railsOk => Sys2Proof.Machine.execResetRelease t bootSrc xtalDly mgmtAddr railsOk s
  | .rcOscillatorStart t => Sys2Proof.Machine.execRcOscillatorStart t s
  | .vddCoreSettled t => Sys2Proof.Machine.execVddCoreSettled t s
  | .xtalAmpDetect t => Sys2Proof.Machine.execXtalAmpDetect t s
  | .xtalCountDone t => Sys2Proof.Machine.execXtalCountDone t s
  | .xtalDlyDone t => Sys2Proof.Machine.execXtalDlyDone t s
  | .xoStartTimeout t => Sys2Proof.Machine.execXoStartTimeout t s
  | .pllLocked t n => Sys2Proof.Machine.execPllLocked t n s
  | .pllUnlock t n xoFailing => Sys2Proof.Machine.execPllUnlock t n xoFailing s
  | .memInitDone t => Sys2Proof.Machine.execMemInitDone t s
  | .pcieConfigRequest t op => Sys2Proof.Machine.execPcieConfigRequest t op s
  | .imageHeader t data sfdp => Sys2Proof.Machine.execImageHeader t data sfdp s
  | .loadFailZeroed t => Sys2Proof.Machine.execLoadFailZeroed t s
  | .regWrite t data => Sys2Proof.Machine.execRegWrite t data s
  | .regBlock t data => Sys2Proof.Machine.execRegBlock t data s
  | .memLoad t data => Sys2Proof.Machine.execMemLoad t data s
  | .wait t data => Sys2Proof.Machine.execWait t data s
  | .waitTimeout t => Sys2Proof.Machine.execWaitTimeout t s
  | .delay t data => Sys2Proof.Machine.execDelay t data s
  | .delayExpire t => Sys2Proof.Machine.execDelayExpire t s
  | .info t data => Sys2Proof.Machine.execInfo t data s
  | .lock t data => Sys2Proof.Machine.execLock t data s
  | .arm t data => Sys2Proof.Machine.execArm t data s
  | .go t path => Sys2Proof.Machine.execGo t path s
  | .stageData t path value => Sys2Proof.Machine.execStageData t path value s
  | .pushGo t path => Sys2Proof.Machine.execPushGo t path s
  | .rearm t path abort => Sys2Proof.Machine.execRearm t path abort s
  | .rearmDrainTimeout t => Sys2Proof.Machine.execRearmDrainTimeout t s
  | .rearmStepDone t => Sys2Proof.Machine.execRearmStepDone t s
  | .frameStart t port vc fn ecc => Sys2Proof.Machine.execFrameStart t port vc fn ecc s
  | .frameEnd t port vc fn ecc => Sys2Proof.Machine.execFrameEnd t port vc fn ecc s
  | .longPacket t port vc dt wc ecc data crcOk => Sys2Proof.Machine.execLongPacket t port vc dt wc ecc data crcOk s
  | .shortPacketIgnored t port vc dt ecc => Sys2Proof.Machine.execShortPacketIgnored t port vc dt ecc s
  | .frameCloseTimeout t src => Sys2Proof.Machine.execFrameCloseTimeout t src s
  | .frameSlotExpire t src => Sys2Proof.Machine.execFrameSlotExpire t src s
  | .sensorCommandIssue t port => Sys2Proof.Machine.execSensorCommandIssue t port s
  | .sensorCommandDone t port rdata nack => Sys2Proof.Machine.execSensorCommandDone t port rdata nack s
  | .ibi t port addr payload => Sys2Proof.Machine.execIbi t port addr payload s
  | .hotJoin t port => Sys2Proof.Machine.execHotJoin t port s
  | .scCmd t path port value => Sys2Proof.Machine.execScCmd t path port value s
  | .scFlush t path port => Sys2Proof.Machine.execScFlush t path port s
  | .scRdataRead t path port => Sys2Proof.Machine.execScRdataRead t path port s
  | .scIbiRead t path port => Sys2Proof.Machine.execScIbiRead t path port s
  | .fsyncPulse t output => Sys2Proof.Machine.execFsyncPulse t output s
  | .genlockEdge t width => Sys2Proof.Machine.execGenlockEdge t width s
  | .genlockLost t => Sys2Proof.Machine.execGenlockLost t s
  | .commit t path src discard => Sys2Proof.Machine.execCommit t path src discard s
  | .next t path src discard => Sys2Proof.Machine.execNext t path src discard s
  | .discard t path src => Sys2Proof.Machine.execDiscard t path src s
  | .sharedStripeStart t => Sys2Proof.Machine.execSharedStripeStart t s
  | .sharedStripeDone t => Sys2Proof.Machine.execSharedStripeDone t s
  | .inlineSegmentOffer t => Sys2Proof.Machine.execInlineSegmentOffer t s
  | .microsecondTick t probes => Sys2Proof.Machine.execMicrosecondTick t probes s
  | .paceWindowClose t => Sys2Proof.Machine.execPaceWindowClose t s
  | .paceProbeStart t core => Sys2Proof.Machine.execPaceProbeStart t core s
  | .paceCtrlWrite t path value => Sys2Proof.Machine.execPaceCtrlWrite t path value s
  | .partMarginLowRead t path p => Sys2Proof.Machine.execPartMarginLowRead t path p s
  | .macroFetch t core ctx ecc => Sys2Proof.Machine.execMacroFetch t core ctx ecc s
  | .conv t core => Sys2Proof.Machine.execConv t core s
  | .dwconv t core => Sys2Proof.Machine.execDwconv t core s
  | .matmul t core => Sys2Proof.Machine.execMatmul t core s
  | .xformForward t core => Sys2Proof.Machine.execXformForward t core s
  | .xformInverse t core => Sys2Proof.Machine.execXformInverse t core s
  | .poolMax t core => Sys2Proof.Machine.execPoolMax t core s
  | .poolAverage t core => Sys2Proof.Machine.execPoolAverage t core s
  | .resampleNearest t core => Sys2Proof.Machine.execResampleNearest t core s
  | .resampleBilinear t core => Sys2Proof.Machine.execResampleBilinear t core s
  | .eltw t core => Sys2Proof.Machine.execEltw t core s
  | .copy t core => Sys2Proof.Machine.execCopy t core s
  | .bwdData t core => Sys2Proof.Machine.execBwdData t core s
  | .bwdWgt t core => Sys2Proof.Machine.execBwdWgt t core s
  | .updateStep t core => Sys2Proof.Machine.execUpdateStep t core s
  | .updateLoss t core => Sys2Proof.Machine.execUpdateLoss t core s
  | .updatePublish t core => Sys2Proof.Machine.execUpdatePublish t core s
  | .publication t core => Sys2Proof.Machine.execPublication t core s
  | .claim t core => Sys2Proof.Machine.execClaim t core s
  | .claimAnswer t core ctx stuck ecc => Sys2Proof.Machine.execClaimAnswer t core ctx stuck ecc s
  | .waitSem t core => Sys2Proof.Machine.execWaitSem t core s
  | .signalSem t core => Sys2Proof.Machine.execSignalSem t core s
  | .semaphoreUpdate t ecc => Sys2Proof.Machine.execSemaphoreUpdate t ecc s
  | .loop t core => Sys2Proof.Machine.execLoop t core s
  | .endStop t core => Sys2Proof.Machine.execEndStop t core s
  | .endRestart t core => Sys2Proof.Machine.execEndRestart t core s
  | .coreCycle t core upset => Sys2Proof.Machine.execCoreCycle t core upset s
  | .residueIntervalTimeout t core => Sys2Proof.Machine.execResidueIntervalTimeout t core s
  | .residueCompare t core => Sys2Proof.Machine.execResidueCompare t core s
  | .drainRow t core upset => Sys2Proof.Machine.execDrainRow t core upset s
  | .arbitrationGrant t point ecc => Sys2Proof.Machine.execArbitrationGrant t point ecc s
  | .readCompletion t id status => Sys2Proof.Machine.execReadCompletion t id status s
  | .writeAccept t id => Sys2Proof.Machine.execWriteAccept t id s
  | .pageMapEntryRead t id status => Sys2Proof.Machine.execPageMapEntryRead t id status s
  | .pmFlush t path => Sys2Proof.Machine.execPmFlush t path s
  | .pfInfoRead t path => Sys2Proof.Machine.execPfInfoRead t path s
  | .resume t path value => Sys2Proof.Machine.execResume t path value s
  | .cancel t path value => Sys2Proof.Machine.execCancel t path value s
  | .streamCancelDone t requester slot => Sys2Proof.Machine.execStreamCancelDone t requester slot s
  | .tagTimeout t id => Sys2Proof.Machine.execTagTimeout t id s
  | .stripeRelease t src frame stripe => Sys2Proof.Machine.execStripeRelease t src frame stripe s
  | .frameRecordFinal t src frame => Sys2Proof.Machine.execFrameRecordFinal t src frame s
  | .stallTimeout t p => Sys2Proof.Machine.execStallTimeout t p s
  | .txSlot t port strm => Sys2Proof.Machine.execTxSlot t port strm s
  | .txPacketSent t port => Sys2Proof.Machine.execTxPacketSent t port s
  | .linkUp t gen width => Sys2Proof.Machine.execLinkUp t gen width s
  | .linkDown t => Sys2Proof.Machine.execLinkDown t s
  | .hotReset t => Sys2Proof.Machine.execHotReset t s
  | .d3hot t enter => Sys2Proof.Machine.execD3hot t enter s
  | .bar2Read t addr len status => Sys2Proof.Machine.execBar2Read t addr len status s
  | .bar2Write t addr data ep => Sys2Proof.Machine.execBar2Write t addr data ep s
  | .msixMaskWrite t path addr value => Sys2Proof.Machine.execMsixMaskWrite t path addr value s
  | .pcieCompletion t tag status data => Sys2Proof.Machine.execPcieCompletion t tag status data s
  | .completionTimeout t tag => Sys2Proof.Machine.execCompletionTimeout t tag s
  | .chDoorbell t path ch value => Sys2Proof.Machine.execChDoorbell t path ch value s
  | .descriptorFetch t ch => Sys2Proof.Machine.execDescriptorFetch t ch s
  | .descriptorReceived t ch => Sys2Proof.Machine.execDescriptorReceived t ch s
  | .dmaBeat t dataPath => Sys2Proof.Machine.execDmaBeat t dataPath s
  | .sourceAccept t ch => Sys2Proof.Machine.execSourceAccept t ch s
  | .start t path ch => Sys2Proof.Machine.execStart t path ch s
  | .stop t path ch => Sys2Proof.Machine.execStop t path ch s
  | .abort t path ch => Sys2Proof.Machine.execAbort t path ch s
  | .restart t path ch => Sys2Proof.Machine.execRestart t path ch s
  | .resetIdx t path ch => Sys2Proof.Machine.execResetIdx t path ch s
  | .scrubRead t addr upset => Sys2Proof.Machine.execScrubRead t addr upset s
  | .handshakeTimeout t die pos kind => Sys2Proof.Machine.execHandshakeTimeout t die pos kind s
  | .alertAck t path value => Sys2Proof.Machine.execAlertAck t path value s
  | .cntClear t path addr value => Sys2Proof.Machine.execCntClear t path addr value s
  | .monitorWindow t count => Sys2Proof.Machine.execMonitorWindow t count s
  | .rcWindowTimeout t => Sys2Proof.Machine.execRcWindowTimeout t s
  | .pllCfgWrite t path n value => Sys2Proof.Machine.execPllCfgWrite t path n value s
  | .sscCfgWrite t path n value => Sys2Proof.Machine.execSscCfgWrite t path n value s
  | .mclkCfgWrite t path n value => Sys2Proof.Machine.execMclkCfgWrite t path n value s
  | .avsPeriod t => Sys2Proof.Machine.execAvsPeriod t s
  | .avsResponse t good mv amp => Sys2Proof.Machine.execAvsResponse t good mv amp s
  | .railDipStart t n mv => Sys2Proof.Machine.execRailDipStart t n mv s
  | .railDipEnd t n lowest => Sys2Proof.Machine.execRailDipEnd t n lowest s
  | .supplyReset t n => Sys2Proof.Machine.execSupplyReset t n s
  | .thermalSample t temps => Sys2Proof.Machine.execThermalSample t temps s
  | .pwrReqRun t path => Sys2Proof.Machine.execPwrReqRun t path s
  | .pwrReqSleep t path => Sys2Proof.Machine.execPwrReqSleep t path s
  | .pwrReqDeepSleep t path => Sys2Proof.Machine.execPwrReqDeepSleep t path s
  | .powerEntryDrainTimeout t => Sys2Proof.Machine.execPowerEntryDrainTimeout t s
  | .powerEntryStepDone t => Sys2Proof.Machine.execPowerEntryStepDone t s
  | .wakeStepDone t => Sys2Proof.Machine.execWakeStepDone t s
  | .vbatSwitchover t => Sys2Proof.Machine.execVbatSwitchover t s
  | .vdd1v8Restored t => Sys2Proof.Machine.execVdd1v8Restored t s
  | .program t path => Sys2Proof.Machine.execProgram t path s
  | .fuseProgramDone t readBack => Sys2Proof.Machine.execFuseProgramDone t readBack s
  | .bypass t => Sys2Proof.Machine.execBypass t s
  | .idcode t => Sys2Proof.Machine.execIdcode t s
  | .samplePreload t => Sys2Proof.Machine.execSamplePreload t s
  | .extest t => Sys2Proof.Machine.execExtest t s
  | .clamp t => Sys2Proof.Machine.execClamp t s
  | .highz t => Sys2Proof.Machine.execHighz t s
  | .dbgAccess t op => Sys2Proof.Machine.execDbgAccess t op s
  | .testLogicReset t => Sys2Proof.Machine.execTestLogicReset t s
  | .mgmtWrite t data => Sys2Proof.Machine.execMgmtWrite t data s
  | .mgmtRead t len => Sys2Proof.Machine.execMgmtRead t len s
  | .mgmtIbiRetry t => Sys2Proof.Machine.execMgmtIbiRetry t s
  | .enec t events => Sys2Proof.Machine.execEnec t events s
  | .disec t events => Sys2Proof.Machine.execDisec t events s
  | .rstdaa t => Sys2Proof.Machine.execRstdaa t s
  | .entdaa t addr => Sys2Proof.Machine.execEntdaa t addr s
  | .setdasa t static addr => Sys2Proof.Machine.execSetdasa t static addr s
  | .setnewda t addr => Sys2Proof.Machine.execSetnewda t addr s
  | .getpid t => Sys2Proof.Machine.execGetpid t s
  | .getbcr t => Sys2Proof.Machine.execGetbcr t s
  | .getdcr t => Sys2Proof.Machine.execGetdcr t s
  | .getstatus t => Sys2Proof.Machine.execGetstatus t s
  | .setmwl t len => Sys2Proof.Machine.execSetmwl t len s
  | .getmwl t => Sys2Proof.Machine.execGetmwl t s
  | .setmrl t len => Sys2Proof.Machine.execSetmrl t len s
  | .getmrl t => Sys2Proof.Machine.execGetmrl t s
  | .unsupportedCcc t direct => Sys2Proof.Machine.execUnsupportedCcc t direct s
  | .set t path => Sys2Proof.Machine.execSet t path s
  | .setAtPps t path => Sys2Proof.Machine.execSetAtPps t path s
  | .ppsEdge t width => Sys2Proof.Machine.execPpsEdge t width s
  | .ppsHoldover t => Sys2Proof.Machine.execPpsHoldover t s
  | .xt32Stopped t => Sys2Proof.Machine.execXt32Stopped t s
  | .chronoFracRead t path => Sys2Proof.Machine.execChronoFracRead t path s
  | .lowWordRead t path addr wide => Sys2Proof.Machine.execLowWordRead t path addr wide s
  | .bufPeakRead t path port => Sys2Proof.Machine.execBufPeakRead t path port s
  | .txqPeakRead t path port => Sys2Proof.Machine.execTxqPeakRead t path port s
  | .monCountRead t path => Sys2Proof.Machine.execMonCountRead t path s
  | .monMinRead t path n => Sys2Proof.Machine.execMonMinRead t path n s
  | .resplitLastRead t path core => Sys2Proof.Machine.execResplitLastRead t path core s
  | .registerWrite t path addr value high => Sys2Proof.Machine.execRegisterWrite t path addr value high s
  | .supplyResetRelease t bootSrc xtalDly mgmtAddr => Sys2Proof.Machine.execSupplyResetRelease t bootSrc xtalDly mgmtAddr s
  | .hsBurstEnd t port => Sys2Proof.Machine.execHsBurstEnd t port s
  | .phyErr t port => Sys2Proof.Machine.execPhyErr t port s
  | .deskew t port => Sys2Proof.Machine.execDeskew t port s
  | .bar0Bad t addr write len => Sys2Proof.Machine.execBar0Bad t addr write len s
  | .vbatLow t mv => Sys2Proof.Machine.execVbatLow t mv s
  | .powerOn t => Sys2Proof.Machine.execPowerOn t s
  | .alwaysOnPowerLoss t => Sys2Proof.Machine.execAlwaysOnPowerLoss t s

end Sys2Proof.Machine
end

