-- ==== Sys2Proof/WellFormed.lean ====
section
/-! DEFINITION. Well-formed commands: every index names something that exists (the counts of spec/18 Table 18.1 and of the
chapters), and data has the length its record or packet has. A command outside these ranges is accepted by exec and changes
nothing but the time, or acts on nothing; WellFormed says what a sender sends. -/

namespace Sys2Proof

/-- A configuration request within Table 12.1: encodings of Max_Payload_Size and Max_Read_Request_Size up to 5. -/
def CfgOp.wf : CfgOp → Bool
  | .deviceControl _ mps mrrs => decide (mps ≤ 5) && decide (mrrs ≤ 5)
  | .deviceControl2 r _ => decide (r < 16)
  | .linkControl a => decide (a < 4)
  | _ => true

/-- The operands are within their ranges. -/
def Instr.wf : Instr → Bool
  | .resetAssert _ _ => true
  | .resetRelease _ bootSrc xtalDly mgmtAddr _ => decide (bootSrc < 4) && decide (xtalDly < 4) && decide (mgmtAddr < 8)
  | .rcOscillatorStart _ => true
  | .vddCoreSettled _ => true
  | .xtalAmpDetect _ => true
  | .xtalCountDone _ => true
  | .xtalDlyDone _ => true
  | .xoStartTimeout _ => true
  | .pllLocked _ n => decide (n < 8)
  | .pllUnlock _ n _ => decide (n < 8)
  | .memInitDone _ => true
  | .pcieConfigRequest _ op => op.wf
  | .imageHeader _ data _ => data.length == 512
  | .loadFailZeroed _ => true
  | .regWrite _ data => decide (64 ≤ data.length) && data.length % 64 == 0
  | .regBlock _ data => decide (64 ≤ data.length) && data.length % 64 == 0
  | .memLoad _ data => decide (64 ≤ data.length) && data.length % 64 == 0
  | .wait _ data => decide (64 ≤ data.length) && data.length % 64 == 0
  | .waitTimeout _ => true
  | .delay _ data => decide (64 ≤ data.length) && data.length % 64 == 0
  | .delayExpire _ => true
  | .info _ data => decide (64 ≤ data.length) && data.length % 64 == 0
  | .lock _ data => decide (64 ≤ data.length) && data.length % 64 == 0
  | .arm _ data => decide (64 ≤ data.length) && data.length % 64 == 0
  | .go _ _ => true
  | .stageData _ _ _ => true
  | .pushGo _ _ => true
  | .rearm _ _ _ => true
  | .rearmDrainTimeout _ => true
  | .rearmStepDone _ => true
  | .frameStart _ port vc fn ecc => decide (port < 16) && decide (vc < 16) && decide (fn < 65536) && decide (ecc < 3)
  | .frameEnd _ port vc fn ecc => decide (port < 16) && decide (vc < 16) && decide (fn < 65536) && decide (ecc < 3)
  | .longPacket _ port vc dt wc ecc _ _ => decide (port < 16) && decide (vc < 16) && decide (dt < 64) && decide (wc < 65536) && decide (ecc < 3)
  | .shortPacketIgnored _ port vc dt ecc => decide (port < 16) && decide (vc < 16) && decide (dt < 64) && decide (ecc < 3)
  | .frameCloseTimeout _ src => decide (src < 4096)
  | .frameSlotExpire _ src => decide (src < 4096)
  | .sensorCommandIssue _ port => decide (port < 16)
  | .sensorCommandDone _ port _ _ => decide (port < 16)
  | .ibi _ port addr _ => decide (port < 16) && decide (addr < 128)
  | .hotJoin _ port => decide (port < 16)
  | .scCmd _ _ port _ => decide (port < 16)
  | .scFlush _ _ port => decide (port < 16)
  | .scRdataRead _ _ port => decide (port < 16)
  | .scIbiRead _ _ port => decide (port < 16)
  | .fsyncPulse _ output => decide (output < 4)
  | .genlockEdge _ _ => true
  | .genlockLost _ => true
  | .commit _ _ src _ => decide (src < 4096)
  | .next _ _ src _ => decide (src < 4096)
  | .discard _ _ src => decide (src < 4096)
  | .sharedStripeStart _ => true
  | .sharedStripeDone _ => true
  | .inlineSegmentOffer _ => true
  | .microsecondTick _ _ => true
  | .paceWindowClose _ => true
  | .paceProbeStart _ core => decide (core < 144)
  | .paceCtrlWrite _ _ _ => true
  | .partMarginLowRead _ _ p => decide (p < 64)
  | .macroFetch _ core ctx _ => decide (core < 144) && decide (ctx < 4)
  | .conv _ core => decide (core < 144)
  | .dwconv _ core => decide (core < 144)
  | .matmul _ core => decide (core < 144)
  | .xformForward _ core => decide (core < 144)
  | .xformInverse _ core => decide (core < 144)
  | .poolMax _ core => decide (core < 144)
  | .poolAverage _ core => decide (core < 144)
  | .resampleNearest _ core => decide (core < 144)
  | .resampleBilinear _ core => decide (core < 144)
  | .eltw _ core => decide (core < 144)
  | .copy _ core => decide (core < 144)
  | .bwdData _ core => decide (core < 144)
  | .bwdWgt _ core => decide (core < 144)
  | .updateStep _ core => decide (core < 144)
  | .updateLoss _ core => decide (core < 144)
  | .updatePublish _ core => decide (core < 144)
  | .publication _ core => decide (core < 144)
  | .claim _ core => decide (core < 144)
  | .claimAnswer _ core ctx _ _ => decide (core < 144) && decide (ctx < 4)
  | .waitSem _ core => decide (core < 144)
  | .signalSem _ core => decide (core < 144)
  | .semaphoreUpdate _ _ => true
  | .loop _ core => decide (core < 144)
  | .endStop _ core => decide (core < 144)
  | .endRestart _ core => decide (core < 144)
  | .coreCycle _ core _ => decide (core < 144)
  | .residueIntervalTimeout _ core => decide (core < 144)
  | .residueCompare _ core => decide (core < 144)
  | .drainRow _ core _ => decide (core < 144)
  | .arbitrationGrant _ point _ => decide (point < 400)
  | .readCompletion _ _ _ => true
  | .writeAccept _ _ => true
  | .pageMapEntryRead _ _ _ => true
  | .pmFlush _ _ => true
  | .pfInfoRead _ _ => true
  | .resume _ _ _ => true
  | .cancel _ _ _ => true
  | .streamCancelDone _ requester slot => decide (requester < 145) && decide (slot < 16)
  | .tagTimeout _ _ => true
  | .stripeRelease _ src _ _ => decide (src < 4096)
  | .frameRecordFinal _ src _ => decide (src < 4096)
  | .stallTimeout _ p => decide (p < 64)
  | .txSlot _ port strm => decide (port < 4) && decide (strm < 16)
  | .txPacketSent _ port => decide (port < 4)
  | .linkUp _ gen width => decide (1 ≤ gen) && decide (gen ≤ 5) && (width == 1 || width == 2 || width == 4 || width == 8 || width == 16)
  | .linkDown _ => true
  | .hotReset _ => true
  | .d3hot _ _ => true
  | .bar2Read _ _ len _ => decide (len ≤ 4096)
  | .bar2Write _ _ data _ => decide (data.length ≤ 4096)
  | .msixMaskWrite _ _ _ _ => true
  | .pcieCompletion _ tag _ _ => decide (tag < 1024)
  | .completionTimeout _ _ => true
  | .chDoorbell _ _ ch _ => decide (ch < 32)
  | .descriptorFetch _ ch => decide (ch < 32)
  | .descriptorReceived _ ch => decide (ch < 32)
  | .dmaBeat _ _ => true
  | .sourceAccept _ ch => decide (ch < 32)
  | .start _ _ ch => decide (ch < 32)
  | .stop _ _ ch => decide (ch < 32)
  | .abort _ _ ch => decide (ch < 32)
  | .restart _ _ ch => decide (ch < 32)
  | .resetIdx _ _ ch => decide (ch < 32)
  | .scrubRead _ _ _ => true
  | .handshakeTimeout _ die pos kind =>
    (decide (die < 4) || (decide (2 ≤ kind) && decide (die < 8))) && decide (pos < 36) && decide (kind < 6)
  | .alertAck _ _ _ => true
  | .cntClear _ _ _ _ => true
  | .monitorWindow _ _ => true
  | .rcWindowTimeout _ => true
  | .pllCfgWrite _ _ n _ => decide (n < 8)
  | .sscCfgWrite _ _ n _ => decide (n < 8)
  | .mclkCfgWrite _ _ n _ => decide (n < 16)
  | .avsPeriod _ => true
  | .avsResponse _ _ _ _ => true
  | .railDipStart _ n _ => decide (n < 8)
  | .railDipEnd _ n _ => decide (n < 8)
  | .supplyReset _ n => decide (n < 8)
  | .thermalSample _ temps => temps.length == 9
  | .pwrReqRun _ _ => true
  | .pwrReqSleep _ _ => true
  | .pwrReqDeepSleep _ _ => true
  | .powerEntryDrainTimeout _ => true
  | .powerEntryStepDone _ => true
  | .wakeStepDone _ => true
  | .vbatSwitchover _ => true
  | .vdd1v8Restored _ => true
  | .program _ _ => true
  | .fuseProgramDone _ _ => true
  | .bypass _ => true
  | .idcode _ => true
  | .samplePreload _ => true
  | .extest _ => true
  | .clamp _ => true
  | .highz _ => true
  | .dbgAccess _ _ => true
  | .testLogicReset _ => true
  | .mgmtWrite _ _ => true
  | .mgmtRead _ _ => true
  | .mgmtIbiRetry _ => true
  | .enec _ _ => true
  | .disec _ _ => true
  | .rstdaa _ => true
  | .entdaa _ addr => decide (addr < 128)
  | .setdasa _ static addr => decide (static < 128) && decide (addr < 128)
  | .setnewda _ addr => decide (addr < 128)
  | .getpid _ => true
  | .getbcr _ => true
  | .getdcr _ => true
  | .getstatus _ => true
  | .setmwl _ len => decide (len < 65536)
  | .getmwl _ => true
  | .setmrl _ len => decide (len < 65536)
  | .getmrl _ => true
  | .unsupportedCcc _ _ => true
  | .set _ _ => true
  | .setAtPps _ _ => true
  | .ppsEdge _ _ => true
  | .ppsHoldover _ => true
  | .xt32Stopped _ => true
  | .chronoFracRead _ _ => true
  | .lowWordRead _ path _ wide => (!wide || path == .bar0)
  | .bufPeakRead _ _ port => decide (port < 16)
  | .txqPeakRead _ _ port => decide (port < 4)
  | .monCountRead _ _ => true
  | .monMinRead _ _ n => decide (n < 9)
  | .resplitLastRead _ _ core => decide (core < 144)
  | .registerWrite _ path _ _ high => (high == none || path == .bar0)
  | .supplyResetRelease _ bootSrc xtalDly mgmtAddr => decide (bootSrc < 4) && decide (xtalDly < 4) && decide (mgmtAddr < 8)
  | .hsBurstEnd _ port => decide (port < 16)
  | .phyErr _ port => decide (port < 16)
  | .deskew _ port => decide (port < 16)
  | .bar0Bad _ _ _ _ => true
  | .vbatLow _ _ => true
  | .powerOn _ => true
  | .alwaysOnPowerLoss _ => true

/-- A well-formed command. -/
abbrev WellFormed (i : Instr) : Prop := i.wf = true

/-- The instant of a command, its first operand (notes/assumptions/2.md). -/
def Instr.time : Instr → Nat
  | .resetAssert t _ => t
  | .resetRelease t _ _ _ _ => t
  | .rcOscillatorStart t => t
  | .vddCoreSettled t => t
  | .xtalAmpDetect t => t
  | .xtalCountDone t => t
  | .xtalDlyDone t => t
  | .xoStartTimeout t => t
  | .pllLocked t _ => t
  | .pllUnlock t _ _ => t
  | .memInitDone t => t
  | .pcieConfigRequest t _ => t
  | .imageHeader t _ _ => t
  | .loadFailZeroed t => t
  | .regWrite t _ => t
  | .regBlock t _ => t
  | .memLoad t _ => t
  | .wait t _ => t
  | .waitTimeout t => t
  | .delay t _ => t
  | .delayExpire t => t
  | .info t _ => t
  | .lock t _ => t
  | .arm t _ => t
  | .go t _ => t
  | .stageData t _ _ => t
  | .pushGo t _ => t
  | .rearm t _ _ => t
  | .rearmDrainTimeout t => t
  | .rearmStepDone t => t
  | .frameStart t _ _ _ _ => t
  | .frameEnd t _ _ _ _ => t
  | .longPacket t _ _ _ _ _ _ _ => t
  | .shortPacketIgnored t _ _ _ _ => t
  | .frameCloseTimeout t _ => t
  | .frameSlotExpire t _ => t
  | .sensorCommandIssue t _ => t
  | .sensorCommandDone t _ _ _ => t
  | .ibi t _ _ _ => t
  | .hotJoin t _ => t
  | .scCmd t _ _ _ => t
  | .scFlush t _ _ => t
  | .scRdataRead t _ _ => t
  | .scIbiRead t _ _ => t
  | .fsyncPulse t _ => t
  | .genlockEdge t _ => t
  | .genlockLost t => t
  | .commit t _ _ _ => t
  | .next t _ _ _ => t
  | .discard t _ _ => t
  | .sharedStripeStart t => t
  | .sharedStripeDone t => t
  | .inlineSegmentOffer t => t
  | .microsecondTick t _ => t
  | .paceWindowClose t => t
  | .paceProbeStart t _ => t
  | .paceCtrlWrite t _ _ => t
  | .partMarginLowRead t _ _ => t
  | .macroFetch t _ _ _ => t
  | .conv t _ => t
  | .dwconv t _ => t
  | .matmul t _ => t
  | .xformForward t _ => t
  | .xformInverse t _ => t
  | .poolMax t _ => t
  | .poolAverage t _ => t
  | .resampleNearest t _ => t
  | .resampleBilinear t _ => t
  | .eltw t _ => t
  | .copy t _ => t
  | .bwdData t _ => t
  | .bwdWgt t _ => t
  | .updateStep t _ => t
  | .updateLoss t _ => t
  | .updatePublish t _ => t
  | .publication t _ => t
  | .claim t _ => t
  | .claimAnswer t _ _ _ _ => t
  | .waitSem t _ => t
  | .signalSem t _ => t
  | .semaphoreUpdate t _ => t
  | .loop t _ => t
  | .endStop t _ => t
  | .endRestart t _ => t
  | .coreCycle t _ _ => t
  | .residueIntervalTimeout t _ => t
  | .residueCompare t _ => t
  | .drainRow t _ _ => t
  | .arbitrationGrant t _ _ => t
  | .readCompletion t _ _ => t
  | .writeAccept t _ => t
  | .pageMapEntryRead t _ _ => t
  | .pmFlush t _ => t
  | .pfInfoRead t _ => t
  | .resume t _ _ => t
  | .cancel t _ _ => t
  | .streamCancelDone t _ _ => t
  | .tagTimeout t _ => t
  | .stripeRelease t _ _ _ => t
  | .frameRecordFinal t _ _ => t
  | .stallTimeout t _ => t
  | .txSlot t _ _ => t
  | .txPacketSent t _ => t
  | .linkUp t _ _ => t
  | .linkDown t => t
  | .hotReset t => t
  | .d3hot t _ => t
  | .bar2Read t _ _ _ => t
  | .bar2Write t _ _ _ => t
  | .msixMaskWrite t _ _ _ => t
  | .pcieCompletion t _ _ _ => t
  | .completionTimeout t _ => t
  | .chDoorbell t _ _ _ => t
  | .descriptorFetch t _ => t
  | .descriptorReceived t _ => t
  | .dmaBeat t _ => t
  | .sourceAccept t _ => t
  | .start t _ _ => t
  | .stop t _ _ => t
  | .abort t _ _ => t
  | .restart t _ _ => t
  | .resetIdx t _ _ => t
  | .scrubRead t _ _ => t
  | .handshakeTimeout t _ _ _ => t
  | .alertAck t _ _ => t
  | .cntClear t _ _ _ => t
  | .monitorWindow t _ => t
  | .rcWindowTimeout t => t
  | .pllCfgWrite t _ _ _ => t
  | .sscCfgWrite t _ _ _ => t
  | .mclkCfgWrite t _ _ _ => t
  | .avsPeriod t => t
  | .avsResponse t _ _ _ => t
  | .railDipStart t _ _ => t
  | .railDipEnd t _ _ => t
  | .supplyReset t _ => t
  | .thermalSample t _ => t
  | .pwrReqRun t _ => t
  | .pwrReqSleep t _ => t
  | .pwrReqDeepSleep t _ => t
  | .powerEntryDrainTimeout t => t
  | .powerEntryStepDone t => t
  | .wakeStepDone t => t
  | .vbatSwitchover t => t
  | .vdd1v8Restored t => t
  | .program t _ => t
  | .fuseProgramDone t _ => t
  | .bypass t => t
  | .idcode t => t
  | .samplePreload t => t
  | .extest t => t
  | .clamp t => t
  | .highz t => t
  | .dbgAccess t _ => t
  | .testLogicReset t => t
  | .mgmtWrite t _ => t
  | .mgmtRead t _ => t
  | .mgmtIbiRetry t => t
  | .enec t _ => t
  | .disec t _ => t
  | .rstdaa t => t
  | .entdaa t _ => t
  | .setdasa t _ _ => t
  | .setnewda t _ => t
  | .getpid t => t
  | .getbcr t => t
  | .getdcr t => t
  | .getstatus t => t
  | .setmwl t _ => t
  | .getmwl t => t
  | .setmrl t _ => t
  | .getmrl t => t
  | .unsupportedCcc t _ => t
  | .set t _ => t
  | .setAtPps t _ => t
  | .ppsEdge t _ => t
  | .ppsHoldover t => t
  | .xt32Stopped t => t
  | .chronoFracRead t _ => t
  | .lowWordRead t _ _ _ => t
  | .bufPeakRead t _ _ => t
  | .txqPeakRead t _ _ => t
  | .monCountRead t _ => t
  | .monMinRead t _ _ => t
  | .resplitLastRead t _ _ => t
  | .registerWrite t _ _ _ _ => t
  | .supplyResetRelease t _ _ _ => t
  | .hsBurstEnd t _ => t
  | .phyErr t _ => t
  | .deskew t _ => t
  | .bar0Bad t _ _ _ => t
  | .vbatLow t _ => t
  | .powerOn t => t
  | .alwaysOnPowerLoss t => t

end Sys2Proof
end

