-- ==== Sys2Proof/Safety.lean ====
section
/-! DEFINITION. What counts as a sound state, and the words in which the statements say what a command leaves alone. -/

namespace Sys2Proof.Machine

/-- Device memory is in its canonical form: addresses strictly rising, and no byte listed that reads as an unlisted one does. -/
abbrev State.memSound (s : State) : Prop := memWf s.mem = true

/-- The record of outputs has only grown: what was put out before stands behind what is new. -/
def State.outputsGrow (s s' : State) : Prop := ∃ os, s'.outbox = os ++ s.outbox

/-- A programmed bit of fuse words 0 to 127 stays programmed. -/
def State.fusesKeep (s s' : State) : Prop :=
  ∀ w i, w < 128 → (s.fuse w).getLsbD i = true → (s'.fuse w).getLsbD i = true

/-- A register write by software, out of reset, on a path that is up, to a register that the path reaches in this state of the device
(spec/18_register_map.md R453, R455). -/
def State.takes (s : State) (p : Path) (a : Nat) : Prop := p ≠ .image ∧ s.held = false ∧ s.pathUp p = true ∧ s.writable p a = true

/-- The same of a read. -/
def State.shows (s : State) (p : Path) (a : Nat) : Prop :=
  p ≠ .image ∧ s.held = false ∧ s.pathUp p = true ∧ s.readable p a = true ∧ s.coreOut a = false

/-- What reporting a fault, an event, a vector or an interrupt may change: registers, outputs, the fault log, the pending
vectors, messages and interrupt, and the instants that later limits are measured from. -/
structure Reports (z u : State) : Prop where
  rest : u = { z with
    regs := u.regs, outbox := u.outbox, flt := u.flt, clk := u.clk, pwr := u.pwr, mgmt := u.mgmt, host := u.host }
  clk : u.clk = { z.clk with lastUnlock := u.clk.lastUnlock }
  pwr : u.pwr = { z.pwr with lastWarn := u.pwr.lastWarn }
  mgmt : u.mgmt = { z.mgmt with ibi := u.mgmt.ibi, ibiAt := u.mgmt.ibiAt }
  host : u.host = { z.host with pend := u.host.pend, msgs := u.host.msgs }
  flt : u.flt = { z.flt with
    nmiPending := u.flt.nmiPending, seq := u.flt.seq, nmiSeq := u.flt.nmiSeq, log := u.flt.log, lastCe := u.flt.lastCe, lastErr := u.flt.lastErr, lastLock := u.flt.lastLock }

end Sys2Proof.Machine
end

