-- ==== Sys2Proof/Certificates/Slice0/Obligations.lean ====
section
/-! DEFINITION. The statements about the model. In each, `u` stands for the state at the command's instant, `s.advance t`:
every command acts on it, and passing time changes nothing but the instant and the count of the Chronograph
(Obligations.TimePasses). -/

open Sys2Proof Sys2Proof.Machine


/-- A step with a command at the front of the queue is exec of that command on the state whose queue is the rest. -/
def Obligations.StepRunsFront : Prop :=
  ∀ (s : State) (c : Instr) (r : List Instr), step { s with pending := c :: r } = exec c { s with pending := r }

/-- On an empty queue a step answers the same state: the model's choice (notes/assumptions/1.md), for what time brings is a command of its own. The state at an instant: the time never goes back, every field but `now` and the Chronograph is as before, an instant in the past changes nothing, and the Chronograph stands still while the always-on domain is unpowered. That time is an operand of every command is the model's choice (notes/assumptions/2.md). -/
def Obligations.TimePasses : Prop :=
  (∀ s : State, s.pending = [] → step s = .next s)
  ∧ ∀ (s : State) (t : Nat),
    (s.advance t).now = max s.now t
    ∧ s.advance t = { s with now := (s.advance t).now, chr := (s.advance t).chr }
    ∧ (t ≤ s.now → s.advance t = s)
    ∧ (s.aon.powered = false → (s.advance t).chr = s.chr)

/-- Right after reset every register of the store has its reset value, device memory lists no byte, nothing waits and nothing has been put out, no fuse bit is programmed, STATE is CLOCKS, the PCIe link is down, the Chronograph's count is 0 and not VALID, no fault record stands, nothing is fenced, no frame is in progress and ALERT_N is low. Fuses unprogrammed are the spec's state of a blank device. -/
def Obligations.ResetHolds : Prop :=
  (∀ a, State.reset.rget a = resetVal a) ∧ (∀ a, memByte State.reset.mem a = 0) ∧ State.reset.pending = []
  ∧ State.reset.outbox = [] ∧ (∀ w i, w < 128 → (State.reset.fuse w).getLsbD i = false)
  ∧ State.reset.boot.phase = .clocks ∧ State.reset.host.linkUp = false ∧ State.reset.chr.count = 0
  ∧ State.reset.chr.valid = false ∧ State.reset.flt.seq = 0 ∧ State.reset.flt.log = [] ∧ State.reset.flt.cores = []
  ∧ State.reset.flt.ctxs = [] ∧ State.reset.flights = [] ∧ State.reset.alertLow = true

/-- The memory of the state after reset is in its canonical form. -/
def Obligations.ResetSound : Prop := State.reset.memSound

/-- From every state whose device memory is in canonical form (addresses strictly rising, no listed byte that reads as an unlisted one), whatever command stands at the front of the queue, a step that answers a next state answers one whose memory is in canonical form. -/
def Obligations.StepKeepsMemory : Prop := ∀ s s' : State, s.memSound → step s = .next s' → s'.memSound

/-- A programmed bit of the integrator's fuse words, 0 to 127, stays programmed through every step of the machine (R426: a fuse bit can be programmed to 1, never back). -/
def Obligations.FusesOneWay : Prop := ∀ s s' : State, step s = .next s' → s.fusesKeep s'

/-- Whatever a command does, the queue that exec was given is unchanged, the instant of the next state is the later of the state's instant and the command's, what has been put out is never taken back, and no free value is used twice: their number only grows (notes/assumptions/4.md and 5.md). -/
def Obligations.CommandsLeaveQueue : Prop :=
  ∀ (i : Instr) (s s' : State), exec i s = .next s' →
    s'.pending = s.pending ∧ s'.now = max s.now i.time ∧ s.outputsGrow s' ∧ s.freeCount ≤ s'.freeCount

/-- Every command but ARM answers a next state in every state and with every operand. ARM answers a next state or stops with clockLimitBroken (Obligations.ArmRecord says when). -/
def Obligations.CommandsComplete : Prop :=
  (∀ (i : Instr) (s : State), (∀ t data, i ≠ .arm t data) → ∃ s', exec i s = .next s')
  ∧ (∀ (t : Nat) (data : List Byte) (s : State), (∃ s', exec (.arm t data) s = .next s') ∨ exec (.arm t data) s = .fault .clockLimitBroken)

/-- RESET_ASSERT of a high pin, out of reset: the pin is low, the cause is noted in the always-on domain while that is powered, the device is held, every register of the store reads its reset value, device memory reads 0, no fault record, fence or frame remains, and the count of the Chronograph, the MGMT port's state, the fuses' queue of waiting commands and what was put out stay. Held already, only the pin and the cause change; a pin that is low already changes nothing. RESET_RELEASE while the device is held with a pin low: with the rails above their warning levels, no rail, thermal or JTAG hold and VDD_1V8 there, and no supply reset latched, the device leaves reset: the straps are those of the command, RESET_CAUSE takes the causes noted since the last release, and debug opens as the fuses say. With a hold the pins are high and the device stays held. Out of reset or with both pins high already nothing changes. -/
def Obligations.PinReset : Prop :=
  (∀ (s u : State) (t : Nat) (p : Bool), u = s.advance t →
      ((if p then u.pinPwrgood else u.pinResetN) = false → exec (.resetAssert t p) s = .next u)
      ∧ ((if p then u.pinPwrgood else u.pinResetN) = true → u.held = true →
          exec (.resetAssert t p) s = .next { (u.noteCause (if p then 4 else 2)) with
            pinPwrgood := u.pinPwrgood && !p, pinResetN := u.pinResetN && p })
      ∧ ((if p then u.pinPwrgood else u.pinResetN) = true → u.held = false →
          ∃ s', exec (.resetAssert t p) s = .next s' ∧ s'.held = true ∧ s'.pinPwrgood = (u.pinPwrgood && !p)
            ∧ s'.pinResetN = (u.pinResetN && p) ∧ (∀ a, s'.rget a = resetVal a) ∧ (∀ a, memByte s'.mem a = 0)
            ∧ s'.aon = (u.noteCause (if p then 4 else 2)).aon ∧ s'.boot.straps = u.boot.straps ∧ s'.boot.phase = .clocks
            ∧ s'.flt = State.reset.flt ∧ s'.flights = [] ∧ s'.host = State.reset.host ∧ s'.dma = [] ∧ s'.links = []
            ∧ s'.cores = [] ∧ s'.chr = u.chr ∧ s'.mgmt = u.mgmt ∧ s'.pending = u.pending ∧ s'.outbox = u.outbox
            ∧ s'.alertLow = true))
  ∧ (∀ (s u v : State) (t b x m : Nat) (ok : Bool), u = s.advance t →
      v = { u with pinResetN := true, pinPwrgood := true, railHold := u.railHold || !ok } →
      ((u.held = false ∨ u.pinResetN = true ∧ u.pinPwrgood = true) → exec (.resetRelease t b x m ok) s = .next u)
      ∧ (u.held = true → ¬ (u.pinResetN = true ∧ u.pinPwrgood = true) → v.mayRelease = false →
          exec (.resetRelease t b x m ok) s = .next v)
      ∧ (u.held = true → ¬ (u.pinResetN = true ∧ u.pinPwrgood = true) → v.mayRelease = true → u.aon.supply = none →
          exec (.resetRelease t b x m ok) s = .next { v with
            held := false, usTicks := 0, boot := Boot.init { bootSrc := b % 4, xtalDly := x % 4, mgmtAddr := m % 8 } u.now,
            aon := { u.aon with cause := u.aon.causes, causes := 0 }, sec := { u.sec with debugEn := u.debugAtReset },
            pwr := { u.pwr with therm := [] }, flt := { u.flt with scrubAt := u.now } })
      ∧ (v.mayRelease = true ↔ u.held = true ∧ u.railHold = false ∧ ok = true ∧ jtagHolds u.jtag = false
          ∧ u.aon.powered = true ∧ u.aon.onVbat = false))

/-- SUPPLY_RESET of a monitored rail n below 8, out of reset, with no supply reset since the last release and the always-on domain powered: the device is held by its monitors, RESET_CAUSE is to show the cause with the rail, and the rail and the Chronograph's time are latched. SUPPLY_RESET_RELEASE of a device that its monitors hold, cool enough, with nothing else holding it: it leaves reset; the latched supply reset is reported first of all (Obligations.RecordWritten), of class 0x04 and unit 0x6000 plus the rail, with the latched time and a free detail (log entry 5). -/
def Obligations.SupplyReset : Prop :=
  (∀ (s u : State) (t n : Nat), u = s.advance t → n < 8 → u.monOff n = false → u.held = false → nbit u.aon.causes 3 = false →
      u.aon.powered = true →
      ∃ s', exec (.supplyReset t n) s = .next s' ∧ s'.held = true ∧ s'.railHold = true
        ∧ s'.aon = { u.aon with causes := u.aon.causes ||| (8 + n * 16), supply := some (n, u.ns) }
        ∧ (∀ a, s'.rget a = resetVal a) ∧ (∀ a, memByte s'.mem a = 0) ∧ s'.pinResetN = u.pinResetN
        ∧ s'.pinPwrgood = u.pinPwrgood ∧ s'.chr = u.chr ∧ s'.mgmt = u.mgmt ∧ s'.outbox = u.outbox)
  ∧ (∀ (s u : State) (t n : Nat), u = s.advance t → 8 ≤ n ∨ u.monOff n = true → exec (.supplyReset t n) s = .next u)
  ∧ (∀ (s u : State) (t b x m rail time : Nat), u = s.advance t → u.held = true → u.railHold = true → u.coolEnough = true →
      u.pinResetN = true → u.pinPwrgood = true → jtagHolds u.jtag = false → u.aon.powered = true → u.aon.onVbat = false →
      u.aon.supply = some (rail, time) →
      exec (.supplyResetRelease t b x m) s = .next (State.raiseAt { u with
        held := false, railHold := false, usTicks := 0, freeCount := u.freeCount + 1,
        boot := Boot.init { bootSrc := b % 4, xtalDly := x % 4, mgmtAddr := m % 8 } u.now,
        aon := { u.aon with cause := u.aon.causes, causes := 0, supply := none }, sec := { u.sec with debugEn := u.debugAtReset },
        pwr := { u.pwr with therm := [] }, flt := { u.flt with scrubAt := u.now } }
        { cls := 0x04, action := 2, unit := 0x6000 + rail, detail := Config.freeNat u.freeCount % 2 ^ 64 } time))
  ∧ (∀ (s u : State) (t b x m : Nat), u = s.advance t → u.held = false ∨ u.railHold = false ∨ u.coolEnough = false →
      exec (.supplyResetRelease t b x m) s = .next u)

/-- THERMAL_SAMPLE with temperatures in units of 0.125 degrees. Out of reset with every die below 125 degrees: THERM takes the sample, THERM_STATUS gathers a bit for every die above THERM_CFG.WARN, and nothing else changes. With a die at or above 125 degrees: the device is held in reset, and RESET_CAUSE is to show the thermal cause with the lowest such die. Held in reset, only the temperatures are noted. -/
def Obligations.ThermalSample : Prop :=
  ∀ (s u : State) (t : Nat) (ts : List Int), u = s.advance t →
    (u.held = false → hotDie (ts.take 9) = none →
      exec (.thermalSample t ts) s = .next { u with pwr := { u.pwr with
        therm := ((List.range 9).zip ts).foldl (fun m p => tput m p.1 p.2) u.pwr.therm,
        thermBits := u.pwr.thermBits ||| ((List.range 9).zip ts).foldl (fun b p => b ||| thermWarn u p.1 p.2) 0 } })
    ∧ (∀ d, u.held = false → u.aon.powered = true → hotDie (ts.take 9) = some d →
        ∃ s', exec (.thermalSample t ts) s = .next s' ∧ s'.held = true ∧ s'.railHold = true
          ∧ s'.aon = { u.aon with causes := u.aon.causes ||| (2 ^ 8 + d * 2 ^ 9) } ∧ (∀ a, s'.rget a = resetVal a)
          ∧ (∀ a, memByte s'.mem a = 0) ∧ s'.chr = u.chr)
    ∧ (u.held = true → exec (.thermalSample t ts) s = .next { u with pwr := { u.pwr with
        therm := ((List.range 9).zip ts).foldl (fun m p => tput m p.1 p.2) u.pwr.therm } })

/-- POWER_ON of an unpowered always-on domain starts the Chronograph and the MGMT port anew and notes the cause POWER_ON. ALWAYS_ON_POWER_LOSS on VBAT loses the count, the CHRONO registers and the reset-cause latch. VBAT_SWITCHOVER and VDD_1V8_RESTORED move the domain between the supplies; the MGMT port starts anew. VBAT_LOW out of reset sets MON_EVENT bit 8 and notes the voltage, with no record and no event. XT32_STOPPED clears VALID and sets XT32_STOPPED. Nothing else changes in any of them. -/
def Obligations.AlwaysOn : Prop :=
  ∀ (s u : State) (t mv : Nat), u = s.advance t →
    (u.aon.powered = false → exec (.powerOn t) s = .next { u with chr := Chrono.init, mgmt := Mgmt.init, aon := { u.aon with
      powered := true, onVbat := false, causes := 1, cause := 0, supply := none } })
    ∧ (u.aon.powered = true → exec (.powerOn t) s = .next u)
    ∧ (u.aon.powered = true → u.aon.onVbat = true → exec (.alwaysOnPowerLoss t) s = .next { u with chr := Chrono.init, aon := { u.aon with
        powered := false, causes := 0, cause := 0, supply := none } })
    ∧ (¬ (u.aon.powered = true ∧ u.aon.onVbat = true) → exec (.alwaysOnPowerLoss t) s = .next u ∧ exec (.vdd1v8Restored t) s = .next u)
    ∧ (u.aon.powered = true → u.aon.onVbat = true → exec (.vdd1v8Restored t) s = .next { u with aon := { u.aon with onVbat := false } })
    ∧ (u.aon.powered = true → u.aon.onVbat = false →
        exec (.vbatSwitchover t) s = .next { u with aon := { u.aon with onVbat := true }, mgmt := Mgmt.init })
    ∧ (u.held = false → exec (.vbatLow t mv) s = .next { u with pwr := { u.pwr with
        monMin := tput u.pwr.monMin 8 (min mv (tget 0xFFF u.pwr.monMin 8)), monEvent := nset u.pwr.monEvent 8, vbatLow := true } })
    ∧ (u.held = true → exec (.vbatLow t mv) s = .next u)
    ∧ (u.aon.powered = true → exec (.xt32Stopped t) s = .next { u with chr := { u.chr with xtStopped := true, xtRuns := false, valid := false } })

/-- Out of reset: RC_OSCILLATOR_START starts the RC oscillator (step 2); VDD_CORE_SETTLED senses the fuses if step 3 has not, and takes the four compute dies out of reset (step 4); in CLOCKS, XTAL_AMP_DETECT notes the instant (step 5), XTAL_COUNT_DONE the end of the 4,096 cycles (step 6), and XTAL_DLY_DONE sets XO_STABLE once the delay that XTAL_DLY selects has run since (step 7). XO_START_TIMEOUT 64 ms after release with no amplitude enters HELD_NO_XO, ends the RRS answers and reports XO_FAIL with detail bit 17. Nothing else changes. -/
def Obligations.StartReferences : Prop :=
  ∀ (s u : State) (t c : Nat), u = s.advance t → u.held = false →
    (u.boot.rcRunning = false → exec (.rcOscillatorStart t) s = .next { u with boot := { u.boot with rcRunning := true } })
    ∧ (u.boot.rcRunning = true → u.boot.vddSettled = false → u.boot.sensed = true → exec (.vddCoreSettled t) s = .next { u with
        boot := { u.boot with vddSettled := true }, pwr := { u.pwr with dies := 15 } })
    ∧ (u.boot.rcRunning = true → u.boot.vddSettled = false → u.boot.sensed = false → exec (.vddCoreSettled t) s = .next { u with
        boot := { u.boot with vddSettled := true, sensed := true }, pwr := { u.pwr with dies := 15, target := u.avsTarget },
        outbox := .avsTarget u.avsTarget :: u.outbox })
    ∧ (u.boot.phase = .clocks → u.clk.ampOk = false → exec (.xtalAmpDetect t) s = .next { u with
        clk := { u.clk with ampOk := true }, boot := { u.boot with ampAt := some u.now } })
    ∧ (u.boot.phase ≠ .clocks → u.clk.ampOk = false → exec (.xtalAmpDetect t) s = .next { u with clk := { u.clk with ampOk := true } })
    ∧ (u.boot.phase = .clocks → u.boot.ampAt ≠ none → u.boot.countAt = none →
        exec (.xtalCountDone t) s = .next { u with boot := { u.boot with countAt := some u.now } })
    ∧ (u.boot.phase = .clocks → u.boot.countAt = some c → u.boot.xoStable = false → c + xtalDlyNs u.boot.straps.xtalDly ≤ u.now →
        exec (.xtalDlyDone t) s = .next { u with boot := { u.boot with xoStable := true } })
    ∧ (u.boot.phase = .clocks → u.boot.ampAt = none → u.boot.since + 64_000_000 ≤ u.now →
        exec (.xoStartTimeout t) s = .next (State.raise { u with boot := { u.boot with phase := .heldNoXo, rrs := false } }
          { cls := 0x01, action := 2, unit := 0x1008, detail := 2 ^ 17 }))

/-- The extra start delay of the crystal is 0, 2, 8 or 32 ms by the strap's value, and XO_STABLE is set only when it has run since the end of the count: before that, XTAL_DLY_DONE changes nothing. -/
def Obligations.XtalDelay : Prop :=
  xtalDlyNs 0 = 0 ∧ xtalDlyNs 1 = 2_000_000 ∧ xtalDlyNs 2 = 8_000_000 ∧ xtalDlyNs 3 = 32_000_000
  ∧ (∀ (s u : State) (t c : Nat), u = s.advance t → u.held = false → u.boot.phase = .clocks → u.boot.countAt = some c →
      u.boot.xoStable = false →
      exec (.xtalDlyDone t) s = .next (if c + xtalDlyNs u.boot.straps.xtalDly ≤ u.now then
        { u with boot := { u.boot with xoStable := true } } else u))
  ∧ (∀ (s u : State) (t : Nat), u = s.advance t → u.boot.countAt = none → exec (.xtalDlyDone t) s = .next u)

/-- PLL_LOCKED of a PLL that may lock (enabled, ungated, its reference there), outside a switchover: its LOCKED bit is set, its island is let go, where the timers of the tags of its stack go on from where they stood, and its retry ends; PLL 2 senses the fuses and starts the RRS answers; in CLOCKS with PLLs 0, 1 and 7 locked, STATE becomes MEM_INIT and an NVM is reset when the straps name one. PLL_UNLOCK of a locked PLL: the bit is cleared, the PLL is retried and its island is held from that instant on; PLL 2 takes the link down; unless the crystal is failing or a switchover runs, the frames in progress are marked FAULT_DETECTED and PLL_UNLOCK is reported for unit 0x7000 plus n. A PLL that may not lock, or is not locked, changes nothing. -/
def Obligations.PllLock : Prop :=
  ∀ (s u v : State) (t n : Nat) (xo : Bool), u = s.advance t →
    (u.pllMayLock n = true → u.clk.switching = none →
      v = { u with clk := { u.clk with locked := nset u.clk.locked n, lost := nclr u.clk.lost n, held := nclr u.clk.held n } } →
      exec (.pllLocked t n) s = .next (
        let w := if n = 2 then (v.resumeTags n).pcieLocked else v.resumeTags n
        if w.boot.phase == .clocks && w.step8 then w.enterMemInit else w))
    ∧ (u.pllMayLock n = false → exec (.pllLocked t n) s = .next u)
    ∧ (u.held = false → n < 8 → nbit u.clk.locked n = true →
      v = { u with clk := { u.clk with
        locked := nclr u.clk.locked n, lost := nset u.clk.lost n, held := nset u.clk.held n,
        heldSince := tput u.clk.heldSince n u.now } } →
      exec (.pllUnlock t n xo) s = .next (
        let w := if n = 2 then v.linkDown else v
        if xo || u.clk.switching.isSome then w
        else (w.markAll 0x40).raise { cls := 0x02, action := 2, unit := 0x7000 + n, detail := 0 }))
    ∧ (u.held = true ∨ 8 ≤ n ∨ nbit u.clk.locked n = false → exec (.pllUnlock t n xo) s = .next u)

/-- MONITOR_WINDOW while the monitor runs: LAST is the count, MIN and MAX follow since the last read, and XO_OK says whether the count is within MON_CFG's limits; a bad count before any switchover marks the frames, stops every enabled crystal PLL to relock on RC, and reports XO_FAIL with the count. RC_WINDOW_TIMEOUT before any switchover sets RC_FAULT, marks the frames and reports XO_FAIL with detail bit 16. While the monitor does not run neither changes anything. -/
def Obligations.ClockMonitor : Prop :=
  ∀ (s u v : State) (t c : Nat), u = s.advance t → c < 512 →
    v = { u with clk := { u.clk with
      xoOk := decide (fld (u.rget 0x1_0010) 0 9 ≤ c) && decide (c ≤ fld (u.rget 0x1_0010) 16 9), monLast := c, monAny := true,
      monMin := if u.clk.monAny then min u.clk.monMin c else c, monMax := if u.clk.monAny then max u.clk.monMax c else c } } →
    (u.monRuns = true → (v.clk.xoOk = true ∨ u.clk.onRc = true) → exec (.monitorWindow t c) s = .next v)
    ∧ (u.monRuns = true → v.clk.xoOk = false → u.clk.onRc = false →
        exec (.monitorWindow t c) s = .next ((State.markAll { v with clk := { v.clk with
          switching := some v.xtalEnabled, locked := v.clk.locked - (v.clk.locked &&& v.xtalEnabled),
          held := v.clk.held ||| v.xtalEnabled,
          heldSince := (List.range 8).foldl (fun l k => if nbit v.xtalEnabled k && !nbit v.clk.held k then tput l k v.now else l)
            v.clk.heldSince } } 0x40).raise { cls := 0x01, action := 2, unit := 0x1008, detail := c }))
    ∧ (u.monRuns = true → u.clk.onRc = false →
        exec (.rcWindowTimeout t) s = .next ((State.markAll { u with clk := { u.clk with rcFault := true } } 0x40).raise
          { cls := 0x01, action := 2, unit := 0x1008, detail := 2 ^ 16 }))
    ∧ (u.monRuns = false → exec (.monitorWindow t c) s = .next u ∧ exec (.rcWindowTimeout t) s = .next u)

/-- Out of reset: AVS_PERIOD after step 3 sends the target and asks for a read-back; AVS_RESPONSE stores the read-back of a good transaction and counts failures, the third in a row setting AVS_ERR and ending control; RAIL_DIP_START of rail n below 8 that is not in a dip notes the voltage, shows the dip and its event, marks the frames SUPPLY_MARK and reports SUPPLY_WARN with warning level and voltage; RAIL_DIP_END marks the frames, notes the lowest voltage and ends the dip. -/
def Obligations.Supplies : Prop :=
  ∀ (s u : State) (t n mv amp : Nat), u = s.advance t → u.held = false →
    (u.boot.sensed = true → exec (.avsPeriod t) s = .next { u with outbox := .avsRead :: .avsTarget u.pwr.target :: u.outbox })
    ∧ (u.boot.sensed = true → exec (.avsResponse t true mv amp) s = .next { u with pwr := { u.pwr with
        avsFails := 0, avsMv := mv % 1024, avsAmp := amp % 1024, avsErr := false, inControl := true } })
    ∧ (u.boot.sensed = true → exec (.avsResponse t false mv amp) s = .next { u with pwr := { u.pwr with
        avsFails := u.pwr.avsFails + 1, avsErr := u.pwr.avsErr || decide (3 ≤ u.pwr.avsFails + 1),
        inControl := u.pwr.inControl && decide (u.pwr.avsFails + 1 < 3) } })
    ∧ (u.boot.sensed = false → exec (.avsPeriod t) s = .next u ∧ ∀ g, exec (.avsResponse t g mv amp) s = .next u)
    ∧ (n < 8 → nbit u.pwr.dips n = false → u.monOff n = false →
        exec (.railDipStart t n mv) s = .next ((State.markAll { u with pwr := { u.pwr with
          monMin := tput u.pwr.monMin n (min mv (tget 0xFFF u.pwr.monMin n)), dips := nset u.pwr.dips n,
          monEvent := nset u.pwr.monEvent n } } 0x8).raise
          { cls := 0x03, action := 2, unit := 0x6000 + n, detail := u.railWarn n % 4096 + (mv % 4096) * 2 ^ 16 }))
    ∧ (n < 8 → nbit u.pwr.dips n = true → exec (.railDipEnd t n mv) s = .next { u.markAll 0x8 with pwr := { (u.markAll 0x8).pwr with
        monMin := tput (u.markAll 0x8).pwr.monMin n (min mv (tget 0xFFF (u.markAll 0x8).pwr.monMin n)),
        dips := nclr (u.markAll 0x8).pwr.dips n } })
    ∧ (8 ≤ n → exec (.railDipStart t n mv) s = .next u ∧ exec (.railDipEnd t n mv) s = .next u)

/-- MEM_INIT_DONE out of reset, once, while the memories are being zeroed: all of device memory reads 0 with no word in error, both stacks are ready and RRS ends; STATE goes from MEM_INIT to LOADING with a load in progress, to PUSH_WAIT when the straps name a push, and stays otherwise; from HEADER or FAILED STATE stays. LOAD_FAIL_ZEROED in FAILED with the memories zeroed: all of memory reads 0, the protected ranges end, the registers the image wrote are put back and the next source is taken. Nothing else is theirs. The next source after a failure: with an NVM in the straps, the primary slot after a failed re-arm, the secondary slot after the primary of an NVM, else RECOVERY_WAIT, whose entry raises an In-Band Interrupt. Nothing but STATE, SRC, SLOT and the interrupt changes. -/
def Obligations.InitAndSource : Prop :=
  (∀ (s u v : State) (t : Nat) (f : FailedLoad), u = s.advance t → u.held = false →
      (v = { u.wipe with mems := { u.mems with ready := 3 }, boot := { u.boot with memDone := true, rrs := false } } →
        u.boot.memDone = false →
        (u.boot.phase = .header ∨ u.boot.phase = .failed → exec (.memInitDone t) s = .next v)
        ∧ (u.boot.phase = .memInit → u.boot.load ≠ none → exec (.memInitDone t) s = .next { v with boot := { v.boot with phase := .loading } })
        ∧ (u.boot.phase = .memInit → u.boot.load = none → 2 ≤ u.boot.straps.bootSrc →
            exec (.memInitDone t) s = .next { v with boot := { v.boot with phase := .pushWait } })
        ∧ (u.boot.phase = .memInit → u.boot.load = none → u.boot.straps.bootSrc < 2 → exec (.memInitDone t) s = .next v))
      ∧ (u.boot.memDone = true → exec (.memInitDone t) s = .next u)
      ∧ (u.boot.failed = some f → u.boot.phase = .failed → u.boot.memDone = true →
          exec (.loadFailZeroed t) s = .next (State.nextSource
            (f.saved.foldl (fun w e => w.putRaw e.1 e.2) { u.wipe with boot := { u.boot with failed := none, ranges := [] } })))
      ∧ (u.boot.failed = none → exec (.loadFailZeroed t) s = .next u)
      ∧ (∀ a, memByte u.wipe.mem a = 0))
  ∧ (∀ s : State,
      (s.boot.straps.bootSrc < 2 → s.boot.wasRearm = true →
        s.nextSource = { s with boot := { s.boot with src := s.boot.straps.bootSrc, slot := 0, wasRearm := false, phase := .header } })
      ∧ (s.boot.straps.bootSrc < 2 → s.boot.wasRearm = false → s.boot.src < 2 → s.boot.slot = 0 →
        s.nextSource = { s with boot := { s.boot with src := s.boot.straps.bootSrc, slot := 1, wasRearm := false, phase := .header } })
      ∧ ((2 ≤ s.boot.straps.bootSrc ∨ s.boot.wasRearm = false ∧ (2 ≤ s.boot.src ∨ s.boot.slot ≠ 0)) →
        s.nextSource = State.raiseIbi { s with boot := { s.boot with wasRearm := false, phase := .recoveryWait } } 4))

/-- IMAGE_HEADER where a header is awaited: ATTEMPTS counts it, 512 bytes are counted as read, and the header is that of the staging region for a push and the command's for an NVM. At the primary location of an NVM the software reset pair, SFDP and the enable sequence of its interface go out first; then 512 bytes are read at every location of an NVM, with the command that SFDP gave. A re-arm from an NVM whose controller GATE_RUN stops fails with NVM and reads nothing. With no check failing, the load begins at record 1, offset 0x200, whose hash the header names; start-up shows LOADING, or MEM_INIT while the memories are not zeroed, and a re-arm goes on. With a failing check, the load fails with the cause of the first one. Where no header is awaited nothing changes. -/
def Obligations.ImageHeader : Prop :=
  ∀ (s u v k w : State) (t cause : Nat) (data h : List Byte) (sfdp : Option Sfdp) (dead : Bool), u = s.advance t →
    (u.headerDue = none → exec (.imageHeader t data sfdp) s = .next u)
    ∧ (u.headerDue = some v → h = (if 2 ≤ v.boot.src then v.rd stageBase 0x200 else slice data 0 0x200) →
        dead = (v.boot.rearm.isSome && decide (v.boot.src < 2) && v.gatedIn .run 8) →
        k = { v with boot := { v.boot with attempts := min 255 (v.boot.attempts + 1), loadBytes := 0x200 } } →
        w = (if dead = true ∨ 2 ≤ v.boot.src then k else (if v.boot.slot = 0 then k.nvmOpen sfdp else k).nvmRead 0 0x200) →
        cause = (if dead then 0xC else w.headerCause h) →
        (cause ≠ 0 → exec (.imageHeader t data sfdp) s = .next (w.loadFail cause 0 0))
        ∧ (cause = 0 → v.boot.phase = .rearming → exec (.imageHeader t data sfdp) s = .next (w.startLoad h))
        ∧ (cause = 0 → v.boot.phase ≠ .rearming → exec (.imageHeader t data sfdp) s = .next { w.startLoad h with
            boot := { (w.startLoad h).boot with phase := if v.boot.memDone then .loading else .memInit } }))

/-- The failure of a load: the load ends, the queue of fuse requests is discarded, BOOT_ERR takes the cause, the slot and the record, STATE is FAILED, one fault is reported for the I/O die with the class of the cause and the detail of R58, and an In-Band Interrupt says that STATE changed. A header's failure is record 0. Fuses and device memory are as before. -/
def Obligations.LoadFails : Prop :=
  ∀ (s v w : State) (cause record offset : Nat),
    v = { s with
      sec := { s.sec with queue := [] }
      boot := { s.boot with
        errCause := cause, errSlot := s.boot.slot, errRecord := record % 65536, load := none, pushed := false
        failed := some { saved := (s.boot.load.map (·.saved)).getD [] }, wasRearm := s.boot.rearm.isSome, rearm := none } } →
    w = v.raise
      { cls := causeClass cause, action := 2, unit := 0x1008
        detail := cause + s.boot.slot * 2 ^ 8 + s.boot.src * 2 ^ 9 + record % 65536 * 2 ^ 16 + offset * 2 ^ 32 } →
    s.loadFail cause record offset = State.raiseIbi { w with boot := { w.boot with phase := .failed } } 4
    ∧ (s.loadFail cause record offset).boot = { v.boot with phase := .failed }
    ∧ (s.loadFail cause record offset).sec = v.sec ∧ (s.loadFail cause record offset).mem = s.mem

/-- A load takes records while no WAIT or DELAY holds it. With a record due whose first byte is the command's TYPE (not a MEM_LOAD, and not the first LOCK or ARM): if its descriptor passes, the whole record hashes to the value expected, and its tag is right, the record is accepted with its plaintext, its bytes are counted and the next expected hash is the record's; a wrong hash fails the load with cause 6, a wrong tag with cause 7; a descriptor that does not pass fails it with cause 1 after 64 bytes. The bytes of an NVM image are read with the command that SFDP gave. Where no record is due, nothing changes. -/
def Obligations.RecordTaken : Prop :=
  ∀ (s v : State) (l : Load) (d : RecDesc) (typ : Nat) (data b pt : List Byte) (tag : Bool),
    (s.recordDue = none → s.takeRecord typ data = (s, none))
    ∧ (s.recordDue = some l → d = readDesc (s.recordBytes l data 64) → d.typ ≠ 0x0F → d.typ ≠ 0x10 →
        (d.ok l = false → s.takeRecord typ data
          = (State.recordFail { s.nvmRead l.offset 64 with boot := { s.boot with loadBytes := (s.boot.loadBytes + 64) % 2 ^ 32 } } 1, none))
        ∧ (d.ok l = true → d.typ ≠ typ → s.takeRecord typ data = (s, none))
        ∧ (d.ok l = true → d.typ = typ → typ ≠ 3 → b = s.recordBytes l data d.total → payloadOf l d b = (pt, tag) →
            v = { s.nvmRead l.offset d.total with boot := { s.boot with loadBytes := (s.boot.loadBytes + d.total) % 2 ^ 32 } } →
            (sha384 b ≠ l.expect → s.takeRecord typ data = (v.recordFail 6, none))
            ∧ (sha384 b = l.expect → tag = false → s.takeRecord typ data = (v.recordFail 7, none))
            ∧ (sha384 b = l.expect → tag = true →
                s.takeRecord typ data = (v.putLoad { l with expect := d.next }, some ({ l with expect := d.next }, d, pt)))))

/-- A REG_WRITE or REG_BLOCK record that is accepted: an address that no image may write fails the load with BAD_TARGET, else a locked field that would change fails it with LOCKED_TARGET, and in both cases nothing is written; otherwise the words are written in order and the record is complete. A record that is not accepted leaves what the taking of records left. An accepted MEM_LOAD is complete; an encrypted one adds its target to the protected ranges and fails the load with RANGE_FULL when more than 64 remain after merging. An accepted WAIT reads at once and holds the load until a read meets its condition; a timeout above 1,000,000 fails the load. WAIT_TIMEOUT after the last tick fails it with cause 9. An accepted DELAY holds the load for TARGET microseconds and DELAY_EXPIRE then completes the record. INFO is only complete. LOCK gathers its bits for step 14. A record not accepted leaves what the taking of records left. -/
def Obligations.ImageRecords : Prop :=
  (∀ (s u v : State) (t : Nat) (data pt : List Byte) (l : Load) (d : RecDesc) (ws : List (Nat × Word)), u = s.advance t →
      (u.takeRecord 1 data = (v, none) → exec (.regWrite t data) s = .next v)
      ∧ (u.takeRecord 2 data = (v, none) → exec (.regBlock t data) s = .next v)
      ∧ (u.takeRecord 1 data = (v, some (l, d, pt)) →
          ws = (List.range (d.count / 8)).map (fun i => (leAt pt (8 * i) 4, wd (leAt pt (8 * i + 4) 4))) →
          exec (.regWrite t data) s = .next (if ws.any (fun e => badTarget e.1) then v.recordFail 8
            else if ws.any (fun e => (v.lockBroken e.1 e.2).isSome) then v.recordFail 0xB
            else (State.applyWrites ws v).recordDone d.total))
      ∧ (u.takeRecord 2 data = (v, some (l, d, pt)) →
          ws = (List.range (d.count / 4)).map (fun i => (d.target + 4 * i, wd (leAt pt (4 * i) 4))) →
          exec (.regBlock t data) s = .next (if ws.any (fun e => badTarget e.1) then v.recordFail 8
            else if ws.any (fun e => (v.lockBroken e.1 e.2).isSome) then v.recordFail 0xB
            else (State.applyWrites ws v).recordDone d.total)))
  ∧ (∀ (s u v : State) (t e a : Nat) (data pt : List Byte) (l : Load) (d : RecDesc) (w : WaitRec), u = s.advance t →
      (u.takeRecord 3 data = (v, some (l, d, pt)) → loadAddr d.target d.count = some a →
        (d.enc = false → exec (.memLoad t data) s = .next (v.recordDone d.total))
        ∧ (d.enc = true → (addRange { lo := a, hi := a + d.count } l.ranges).length ≤ 64 → exec (.memLoad t data) s
            = .next ((v.putLoad { l with ranges := addRange { lo := a, hi := a + d.count } l.ranges }).recordDone d.total))
        ∧ (d.enc = true → 64 < (addRange { lo := a, hi := a + d.count } l.ranges).length →
            exec (.memLoad t data) s = .next (v.recordFail 0xA)))
      ∧ (u.takeRecord 4 data = (v, some (l, d, pt)) →
          w = { addr := leAt pt 0 4, mask := leAt pt 4 4, value := leAt pt 8 4, timeout := leAt pt 12 4, ticks := 0 } →
          (w.timeout ≤ 1_000_000 → exec (.wait t data) s = .next (v.putLoad { l with wait := some w }).waitPoll)
          ∧ (1_000_000 < w.timeout → exec (.wait t data) s = .next (v.recordFail 1)))
      ∧ (u.held = false → u.boot.load = some l → l.wait = some w → w.timeout ≤ w.ticks →
          exec (.waitTimeout t) s = .next (u.loadFail 9 l.index l.offset))
      ∧ (u.takeRecord 5 data = (v, some (l, d, pt)) →
          exec (.delay t data) s = .next (v.putLoad { l with delay := some (v.now + d.target * 1000) }))
      ∧ (u.held = false → u.boot.load = some l → l.delay = some e → e ≤ u.now → exec (.delayExpire t) s = .next { u with
          boot := { u.boot with load := some { l with index := l.index + 1, offset := l.offset + 64, wait := none, delay := none } } })
      ∧ (u.takeRecord 0x0E data = (v, some (l, d, pt)) → exec (.info t data) s = .next (v.recordDone d.total))
      ∧ (u.takeRecord 0x0F data = (v, some (l, d, pt)) → exec (.lock t data) s
          = .next ((v.putLoad { l with seenLock := true, lockBits := l.lockBits ||| d.target }).recordDone d.total))
      ∧ (u.boot.load = none → exec (.waitTimeout t) s = .next u ∧ exec (.delayExpire t) s = .next u))

/-- An accepted ARM record: the engine's copy of the key is cleared and every load-time check runs. With a check failed the load fails with cause 1. With all passed and the clocks within their limits, step 14 follows, with the start that the record asks for. With a limit of R400 broken by an enabled clock, where the spec leaves the device's behaviour undefined, the command stops with clockLimitBroken. A record not accepted leaves what the taking of records left. -/
def Obligations.ArmRecord : Prop :=
  ∀ (s u v w : State) (t : Nat) (data pt : List Byte) (l : Load) (d : RecDesc), u = s.advance t →
    (u.takeRecord 0x10 data = (v, none) → exec (.arm t data) s = .next v)
    ∧ (u.takeRecord 0x10 data = (v, some (l, d, pt)) → w = (v.putLoad { l with key := 0 }).runChecks →
        (w.boot.armCheck ≠ 0 → exec (.arm t data) s = .next (w.recordFail 1))
        ∧ (w.boot.armCheck = 0 → w.clocksOk = true → exec (.arm t data) s = .next (w.step14 l (nbit d.target 0)))
        ∧ (w.boot.armCheck = 0 → w.clocksOk = false → exec (.arm t data) s = .fault .clockLimitBroken))

/-- After step 14 with START 0, the link down or no outbound read outstanding on it (clock gates of the new image may take the link down, which ends such reads): no load is in progress and STATE is ARMED_WAIT; the lock bits of the LOCK records are set in addition to those set before; the protected ranges, SVN and BUILD_ID are the image's; and no fence, frame, signal or work counter of the time before remains. -/
def Obligations.StepFourteen : Prop :=
  ∀ (s v : State) (l : Load), v = s.step14 l false → s.host.linkUp = false ∨ s.host.reads = [] →
    v.boot.load = none ∧ v.boot.phase = .armedWait ∧ v.boot.locks = (s.boot.locks ||| l.lockBits) ∧ v.boot.ranges = l.ranges
    ∧ v.boot.svn = l.hdr.svn ∧ v.boot.build = l.hdr.buildId ∧ v.boot.profile = fld (s.rget 0x20) 0 2
    ∧ v.flt.cores = [] ∧ v.flt.ctxs = [] ∧ v.flt.dies = [] ∧ v.flights = [] ∧ v.signals = [] ∧ v.wctrs = []

/-- POWER_ENTRY_STEP_DONE in an entry, out of reset: step 2 ends when no frame is left, the transmit ports then stop; step 3 ends when the DMA channels have no descriptor in progress and the ports have finished their lines, and DEEP_SLEEP goes on with step 4, SLEEP with 6; step 4 saves every core's local memory to the retention area, from SLEEP once the islands that this takes are clocked; step 5 powers the compute dies down and takes the VDD_CORE target of that; step 6 ends the transition: the state is the target, its gates apply and IBI 3 is raised. A step that is not complete changes nothing. POWER_ENTRY_DRAIN_TIMEOUT 100 ms after the request, in step 2, stops the frames and cancels the streams. -/
def Obligations.PowerEntry : Prop :=
  ∀ (s u : State) (t : Nat) (x : Transition), u = s.advance t → u.held = false → u.pwr.trans = some x → x.wake = false →
    (x.step = 2 → u.flights = [] → exec (.powerEntryStepDone t) s = .next (u.stopTx.putTrans (some { x with step := 3 })))
    ∧ (x.step = 2 → u.flights ≠ [] → exec (.powerEntryStepDone t) s = .next u)
    ∧ (x.step = 3 → u.dmaRests = true → u.tx.all (fun e => e.2.sending.isNone) = true → exec (.powerEntryStepDone t) s
        = .next { u with pwr := { u.pwr with trans := some { x with step := if x.target = .deep then 4 else 6 } } })
    ∧ (x.step = 3 → (u.dmaRests && u.tx.all (fun e => e.2.sending.isNone)) = false → exec (.powerEntryStepDone t) s = .next u)
    ∧ (x.step = 4 → exec (.powerEntryStepDone t) s
        = .next (if u.pwr.state = .sleep ∧ u.saveReady = false then u else u.saveCores.putTrans (some { x with step := 5 })))
    ∧ (x.step = 5 → exec (.powerEntryStepDone t) s = .next ((State.updTarget { u with
        pwr := { u.pwr with dies := 0, saved := true } }).putTrans (some { x with step := 6 })))
    ∧ (x.step = 6 → exec (.powerEntryStepDone t) s = .next ((State.applyGates { u with
        pwr := { u.pwr with state := x.target, trans := none } }).raiseIbi 3))
    ∧ (x.step = 2 → x.since + 100_000_000 ≤ u.now → exec (.powerEntryDrainTimeout t) s = .next (u.stopFrames false).cancelStreams)
    ∧ ((x.step ≠ 2 ∨ u.now < x.since + 100_000_000) → exec (.powerEntryDrainTimeout t) s = .next u)

/-- WAKE_STEP_DONE in a wake, out of reset: step 2 powers the compute dies (in FINDER that of FINDER_DIE only) and takes the VDD_CORE target; step 3 ends when every PLL that RUN needs has locked; step 4 takes the stacks out of self-refresh and goes on with step 5 if the cores were saved, else with 6; step 5 restores the cores; step 6 ends the transition in RUN, with IBI 3: frames are released again, the ports are armed, slots passed meanwhile are skipped, and the cores wake. Without a transition nothing changes. -/
def Obligations.Wake : Prop :=
  ∀ (s u : State) (t : Nat) (x : Transition), u = s.advance t → u.held = false →
    (u.pwr.trans = some x → x.wake = true →
      (x.step = 2 → exec (.wakeStepDone t) s = .next ((State.updTarget { u with pwr := { u.pwr with
          dies := if u.boot.profile = 2 then 2 ^ fld (u.rget 0x20) 2 2 else 15, saved := false } }).putTrans (some { x with step := 3 })))
      ∧ (x.step = 3 → exec (.wakeStepDone t) s = .next (if u.pllsReady then
          { u with pwr := { u.pwr with trans := some { x with step := 4 } } } else u))
      ∧ (x.step = 4 → exec (.wakeStepDone t) s = .next { u with mems := { u.mems with selfRefresh := 0 }, pwr := { u.pwr with
          trans := some { x with step := if u.boot.retention.isSome then 5 else 6 } } })
      ∧ (x.step = 5 → exec (.wakeStepDone t) s = .next (u.restoreCores.putTrans (some { x with step := 6 })))
      ∧ (∀ v, v = (State.applyGates { u with pwr := { u.pwr with state := .run, trans := none } }).raiseIbi 3 → x.step = 6 →
          exec (.wakeStepDone t) s
            = .next (State.wakeAll (State.skipSlots (State.txArm { v with eph := { v.eph with cutoff := none } })))))
    ∧ (u.pwr.trans = none → exec (.wakeStepDone t) s = .next u ∧ exec (.powerEntryStepDone t) s = .next u
        ∧ exec (.powerEntryDrainTimeout t) s = .next u)

/-- REARM_STEP_DONE in a re-arm, out of reset: the drain ends when no frame is left and stops the transmit ports; the ports' step ends when no frame is left, no DMA channel has a descriptor in progress and no port sends; the zeroing step zeroes core-local memory, vaults, pools and protected ranges and then awaits the new image. REARM_DRAIN_TIMEOUT 100 ms after the request, while frames drain, stops the frames, aborts the SOURCE channels in progress, cancels every stream and stops the ports. A step not complete, or no re-arm, changes nothing. -/
def Obligations.RearmSteps : Prop :=
  ∀ (s u : State) (t : Nat) (r : Rearm), u = s.advance t → u.held = false →
    (u.boot.rearm = none → exec (.rearmStepDone t) s = .next u ∧ exec (.rearmDrainTimeout t) s = .next u)
    ∧ (u.boot.rearm = some r →
      (r.step = .drain → exec (.rearmStepDone t) s = .next (if u.flights = [] then u.stopTx.setStep .ports else u))
      ∧ (r.step = .ports → exec (.rearmStepDone t) s
          = .next (if u.flights.isEmpty && u.dmaRests && u.tx.all (fun e => e.2.sending.isNone) then
            { u with boot := { u.boot with rearm := some { r with step := .zero } } } else u))
      ∧ (r.step = .zero → exec (.rearmStepDone t) s = .next (u.rearmZero.setStep .image)
          ∧ (∀ a, memByte u.rearmZero.mem a ≠ 0 → a < 0x8_0000_0000 ∨ 0x10_1200_0000 ≤ a)
          ∧ (∀ a g, g ∈ u.boot.ranges → g.lo ≤ a → a < g.hi → memByte u.rearmZero.mem a = 0))
      ∧ (r.step = .image → exec (.rearmStepDone t) s = .next u)
      ∧ (r.step = .drain → u.now < r.since + 100_000_000 → exec (.rearmDrainTimeout t) s = .next u)
      ∧ (r.step = .drain → r.since + 100_000_000 ≤ u.now → exec (.rearmDrainTimeout t) s
          = .next (State.setStep (State.stopTx (State.cancelStreams ((List.range 32).foldl (fun v c =>
              if v.chKind c = 2 && (v.chan c).jobs != [] then v.abortChan c 2 else v) (u.stopFrames false)))) .ports)))

/-- On a path of software that reaches BOOT_CTRL: GO and PUSH_GO leave its fields as they are, REARM sets REARM_MODE. GO in ARMED_WAIT makes STATE RUNNING and starts the timetable, else nothing more; PUSH_GO does what the push does; REARM requests the re-arm with the mode of the command and the source in BOOT_CTRL. STAGE_DATA where an image is awaited stores the word at STAGE_ADDR in the staging region, and STAGE_ADDR advances by 4 within 256 MiB. -/
def Obligations.BootCommands : Prop :=
  ∀ (s u v : State) (t : Nat) (p : Path) (ab : Bool) (x : Word), u = s.advance t → v = u.linkRx p →
    (u.takes p 0x3_0010 →
      exec (.go t p) s = .next (State.noteEvt (let w := v.rput 0x3_0010 (u.rget 0x3_0010)
        if u.boot.phase = .armedWait then w.runNow else w) v.evtStatus)
      ∧ exec (.pushGo t p) s = .next (((v.rput 0x3_0010 (u.rget 0x3_0010)).pushGo p).noteEvt v.evtStatus)
      ∧ ∃ w : Word, w.toNat = (u.rget 0x3_0010).toNat - ((u.rget 0x3_0010).toNat &&& 4) + 4 * b2n ab
        ∧ exec (.rearm t p ab) s = .next (((v.rput 0x3_0010 w).rearmRequest ab (fld (u.rget 0x3_0010) 4 2)).noteEvt v.evtStatus))
    ∧ (u.takes p 0x3_001C → u.stagingOpen = true → exec (.stageData t p x) s
        = .next ((((v.wr (stageBase + (u.rget 0x3_0018).toNat) (bytesLE 4 x.toNat)).rput 0x3_0018
            (wd (((u.rget 0x3_0018).toNat + 4) % 2 ^ 28)))).noteEvt v.evtStatus))
    ∧ (u.takes p 0x3_001C → u.stagingOpen = false → exec (.stageData t p x) s = .next v)

/-- On a path that reaches CHRONO_CTRL and whose SET writes are accepted (BAR0 only while HOST_SET is 1): SET replaces the count by SET_SEC and SET_FRAC at once, sets VALID and STEPPED and ends a pending SET; SET_AT_PPS makes one pending, and the next accepted edge of PPS_IN, when a mode other than OFF is served, applies it with VALID and STEPPED set and ends it. From BAR0 with HOST_SET 0 neither changes the Chronograph. An image's record, while it is loaded and CHRONO_CTRL is written by it, is accepted like the others. -/
def Obligations.ChronoSet : Prop :=
  (∀ (c : Chrono) (sec frac : Nat), (c.setTo sec frac).sec = sec % 2 ^ 48 ∧ (c.setTo sec frac).frac = frac % 2 ^ 32
      ∧ (c.setTo sec frac).valid = true ∧ (c.setTo sec frac).stepped = true)
  ∧ (∀ (s u v : State) (t : Nat) (p : Path), u = s.advance t → v = u.linkRx p → u.takes p 0x5_004C →
      ((p = .bar0 → bit u.chr.cfg 0 = true) →
        exec (.set t p) s = .next { v with chr := { u.chr.setTo u.chr.setSec u.chr.setFrac with setPending := false } }
        ∧ exec (.setAtPps t p) s = .next { v with chr := { u.chr with setPending := true } })
      ∧ (p = .bar0 → bit u.chr.cfg 0 = false → exec (.set t p) s = .next v ∧ exec (.setAtPps t p) s = .next v))
  ∧ (∀ (s u : State) (t width : Nat), u = s.advance t → u.held = false → u.chr.settle.served = true →
      u.chr.settle.accepts u.now width = true → u.chr.settle.setPending = true →
      ∃ s', exec (.ppsEdge t width) s = .next s' ∧ s' = { u with chr := s'.chr } ∧ s'.chr.setPending = false ∧ s'.chr.valid = true
        ∧ s'.chr.stepped = true ∧ s'.chr.sec = u.chr.settle.setSec % 2 ^ 48 ∧ s'.chr.frac = u.chr.settle.setFrac % 2 ^ 32)
  ∧ (∀ (s u : State) (t : Nat) (l : Load), u = s.advance t → u.held = false → u.boot.load = some l →
      exec (.set t .image) s = .next { u with chr := { u.chr.setTo u.chr.setSec u.chr.setFrac with setPending := false } }
      ∧ exec (.setAtPps t .image) s = .next { u with chr := { u.chr with setPending := true } })

/-- On a path of software that reaches the register. PACE_CTRL_WRITE with WIN 4 to 16 stores the writable bits, ends the idle probes when IDLE_PROBE becomes 0 and, when WIN changes, discards the window; another WIN changes nothing. ALERT_ACK with NMI_SEQ clears NMI_PENDING, another value does not. CNT_CLEAR at a CNT_CLEAR register with bit 0 clears the group's counters and SAT bits, without bit 0 nothing. The power requests from MGMT do what PWR_REQ says, and from another path nothing. PROGRAM from MGMT on a blank device in PUSH_WAIT or RECOVERY_WAIT, with no request running and the word allowed, sends the word to the fuses; from BAR0 or a probe nothing changes. -/
def Obligations.SystemWrites : Prop :=
  ∀ (s u v : State) (t a : Nat) (p : Path) (x : Word) (g : Nat × Nat × Nat × Nat), u = s.advance t → v = u.linkRx p →
    (u.takes p 0x200 → 4 ≤ fld x 0 5 → fld x 0 5 ≤ 16 → exec (.paceCtrlWrite t p x) s
        = .next (State.noteEvt (let w := (v.rput 0x200 (wd (x.toNat &&& 0x31F))).probesGate
          if fld (u.rget 0x200) 0 5 = fld x 0 5 then w else { w with pace := { w.pace with discard := true } }) v.evtStatus))
    ∧ (u.takes p 0x200 → ¬ (4 ≤ fld x 0 5 ∧ fld x 0 5 ≤ 16) → exec (.paceCtrlWrite t p x) s = .next v)
    ∧ (u.takes p 0x6_000C → exec (.alertAck t p x) s = .next (if x.toNat = u.flt.nmiSeq ∧ u.flt.nmiPending = true then
        { v with flt := { u.flt with nmiPending := false } } else v))
    ∧ (u.takes p a → clearGroup a = some g → rowOf a = some (ro a) → u.windowShut p a = false → exec (.cntClear t p a x) s
        = .next (State.noteEvt (if bit x 0 then v.clearCounters g else v) v.evtStatus))
    ∧ (clearGroup a = none → exec (.cntClear t p a x) s = .next u)
    ∧ (u.takes p 0x2_0004 → p = .mgmt →
        exec (.pwrReqRun t p) s = .next ((u.powerRequest 0).noteEvt u.evtStatus)
        ∧ exec (.pwrReqSleep t p) s = .next ((u.powerRequest 1).noteEvt u.evtStatus)
        ∧ exec (.pwrReqDeepSleep t p) s = .next ((u.powerRequest 2).noteEvt u.evtStatus))
    ∧ (u.takes p 0x2_0004 → p ≠ .mgmt →
        exec (.pwrReqRun t p) s = .next v ∧ exec (.pwrReqSleep t p) s = .next v ∧ exec (.pwrReqDeepSleep t p) s = .next v)
    ∧ (u.takes p 0x4_0108 → p = .mgmt → u.sec.busy = none → (u.boot.phase = .pushWait ∨ u.boot.phase = .recoveryWait) →
        fld (u.fuse 48) 0 4 = 0 → u.fuseRefused u.fuseReq = false →
        exec (.program t p) s = .next { u with
          sec := { u.sec with busy := some u.fuseReq, result := 0 }
          outbox := .fuseBurn u.fuseReq.word u.fuseReq.value :: u.outbox })
    ∧ (u.takes p 0x4_0108 → p ≠ .mgmt → exec (.program t p) s = .next v)

/-- PWR_REQ, on the power state while STATE is RUNNING with no transition in progress: from RUN, SLEEP and, with a retention area, DEEP_SLEEP start an entry at step 2, and frames whose start comes later are not released; from SLEEP, RUN starts a wake at step 3 and DEEP_SLEEP an entry at step 4; from DEEP_SLEEP, RUN starts a wake at step 2. In a transition, or in another STATE, a request changes nothing. -/
def Obligations.PowerRequests : Prop :=
  ∀ s : State, s.held = false →
    (s.boot.phase = .running → s.pwr.trans = none →
      (s.pwr.state = .run → s.powerRequest 1 = { s with eph := { s.eph with cutoff := some s.now }, pwr := { s.pwr with
          trans := some { target := .sleep, wake := false, step := 2, since := s.now } } })
      ∧ (s.pwr.state = .run → s.powerRequest 2 = if s.retainEn then { s with eph := { s.eph with cutoff := some s.now }, pwr := { s.pwr with
          trans := some { target := .deep, wake := false, step := 2, since := s.now } } } else s)
      ∧ (s.pwr.state = .run → s.powerRequest 0 = s)
      ∧ (s.pwr.state = .sleep → s.powerRequest 0 = { s with pwr := { s.pwr with
          trans := some { target := .run, wake := true, step := 3, since := s.now } } })
      ∧ (s.pwr.state = .sleep → s.powerRequest 2 = if s.retainEn then { s with pwr := { s.pwr with
          trans := some { target := .deep, wake := false, step := 4, since := s.now } } } else s)
      ∧ (s.pwr.state = .deep → s.powerRequest 0 = { s with pwr := { s.pwr with
          trans := some { target := .run, wake := true, step := 2, since := s.now } } })
      ∧ (s.pwr.state = .deep → s.powerRequest 1 = s ∧ s.powerRequest 2 = s))
    ∧ (s.boot.phase ≠ .running ∨ s.pwr.trans ≠ none → ∀ k, s.powerRequest k = s)

/-- A read on a path of software that reaches the register answers the register's word, which goes out on that path (over the link it counts 4 bytes sent). Of a 64-bit register, reading the low word, when no high word of that address is latched, also latches the high word of that instant for the path. A read of an address with a latched word answers that word and ends the latch; without one, the live word, with what the register's read clears or latches. A read of two words over the link, in the PAGEMAP window at an even entry address, answers an entry as one unit and counts 8 bytes sent. (Left out: the two temperature registers of the stacks, and MON_LIVE after VBAT has been low, which hold free values.) -/
def Obligations.WordReads : Prop :=
  (∀ (s u : State) (t a : Nat) (p : Path), u = s.advance t → u.shows p a → a ≠ 0x20_0100 → a ≠ 0x20_0104 →
    (a = 0x2_0204 → u.pwr.vbatLow = false) →
    (∀ w, tfind (u.lat p).high a = some w → exec (.lowWordRead t p a false) s
        = .next ((State.linkTx (u.putLat p { u.lat p with high := tdel (u.lat p).high a }) p).out (.readWord (pathNum p) a w)))
    ∧ (tfind (u.lat p).high a = none → a ≠ 0x5_0010 →
      exec (.lowWordRead t p a false) s = .next ((State.linkTx (if pairLow a then
          (u.readClears a).putLat p { u.lat p with high := tput (u.lat p).high (a + 4) (u.peek (u.lat p) (a + 4)) }
        else u.readClears a) p).out (.readWord (pathNum p) a (u.peek (u.lat p) a)))
      ∧ (pairLow a = true → tfind ((State.putLat (u.readClears a) p
          { u.lat p with high := tput (u.lat p).high (a + 4) (u.peek (u.lat p) (a + 4)) }).lat p).high (a + 4)
          = some (u.peek (u.lat p) (a + 4)))))
  ∧ (∀ (s u : State) (t a : Nat) (p : Path), u = s.advance t → u.barUp = true → u.past14 = true → 0x200_0000 ≤ a → a % 8 = 0 →
      (rowOf a).isSome = true → (rowOf (a + 4)).isSome = true → u.latBar0.high = [] →
      exec (.lowWordRead t p a true) s = .next ((u.bump64 0x10_0188 8).out
        (.readBytes 3 a (bytesLE 4 (u.readPagemap a).toNat ++ bytesLE 4 (u.readPagemap (a + 4)).toNat) false)))

/-- On a path of software that reaches the register and has nothing latched at its address. SC_RDATA and SC_IBI answer the oldest entry of their queue and remove it (0 when it is empty), BUF_PEAK and TXQ_PEAK the peak, which starts anew at the present occupancy, MON_COUNT the counts, whose MIN and MAX start anew, MON_MIN the lowest voltage, which is forgotten, PF_INFO the oldest page-fault entry, removed with its address kept. CHRONO_FRAC answers the fraction and latches the seconds, date and time of that instant for the path. Nothing else changes but what a word sent over the link counts. -/
def Obligations.PoppingReads : Prop :=
  ∀ (s u : State) (t a n : Nat) (p : Path) (ans : Word → State → State), u = s.advance t → u.shows p a → tfind (u.lat p).high a = none →
    (∀ w z, ans w z = (z.linkTx p).out (.readWord (pathNum p) a w)) →
    (n < 16 → a = 0xA_0008 + 0x100 * n → exec (.scRdataRead t p n) s = .next (match (u.sp n).rdata with
        | [] => ans 0 u
        | w :: r => ans w (u.putSp n { u.sp n with rdata := r })))
    ∧ (n < 16 → a = 0xA_0014 + 0x100 * n → (u.sp n).ibis = [] → exec (.scIbiRead t p n) s = .next (ans 0 u))
    ∧ (∀ e r, n < 16 → a = 0xA_0014 + 0x100 * n → (u.sp n).ibis = e :: r → exec (.scIbiRead t p n) s = .next (ans
        (wd (e.addr + 128 + e.payload.length * 256 + leAt e.payload 0 2 * 65536))
        (u.putSp n { u.sp n with ibis := r, ibiLast := leAt e.payload 2 2 })))
    ∧ (n < 16 → a = 0x8_0014 + 0x1000 * n → exec (.bufPeakRead t p n) s
        = .next (ans (wd (u.ing' n).peak) (u.putIng n { u.ing' n with peak := (u.ing' n).used })))
    ∧ (n < 4 → a = 0xE_0014 + 0x1000 * n → exec (.txqPeakRead t p n) s
        = .next (ans (wd (u.port n).peak) (u.putPort n { u.port n with peak := (u.port n).bytes })))
    ∧ (a = 0x1_0014 → exec (.monCountRead t p) s
        = .next (ans (wd (u.clk.monLast + u.clk.monMin * 2 ^ 9 + u.clk.monMax * 2 ^ 18)) { u with
          clk := { u.clk with monMin := 0, monMax := 0, monAny := false } }))
    ∧ (n < 9 → a = 0x2_0240 + 4 * n → exec (.monMinRead t p n) s
        = .next (ans (wd (tget 0xFFF u.pwr.monMin n)) { u with pwr := { u.pwr with monMin := tdel u.pwr.monMin n } }))
    ∧ (a = 0x20_0020 → u.mems.pf = [] → exec (.pfInfoRead t p) s = .next (ans 0 u))
    ∧ (∀ e r, a = 0x20_0020 → u.mems.pf = e :: r → exec (.pfInfoRead t p) s = .next (ans
        (wd (e.requester % 256 + e.slot % 16 * 2 ^ 8 + e.epoch % 256 * 2 ^ 12 + b2n e.write * 2 ^ 20 + e.kind % 4 * 2 ^ 21 + 2 ^ 31)) { u with mems := { u.mems with pf := r, pfAddr := e.addr } }))
    ∧ (a = 0x5_0010 → exec (.chronoFracRead t p) s = .next (ans (wd u.chr.frac)
        (u.putLat p { u.lat p with cal := some (u.chr.sec, calDate u.chr.sec, calTime u.chr.sec) })))

/-- On a path of software that reaches the register and has nothing latched at its address: RESPLIT_LAST of a core below 144 and PART_MARGIN_LOW of a partition below 64 answer the stored word; the read then clears the fields that are RC (of RESPLIT_LAST all but bits 15 and 14, of PART_MARGIN_LOW the minimum). Nothing else changes but what a word sent over the link counts. -/
def Obligations.ClearingReads : Prop :=
  ∀ (s u : State) (t a n : Nat) (p : Path) (ans : Word → State → State), u = s.advance t → u.shows p a → tfind (u.lat p).high a = none →
    (∀ w z, ans w z = (z.linkTx p).out (.readWord (pathNum p) a w)) →
    (n < 144 → a = coreReg n 0x4C → exec (.resplitLastRead t p n) s
        = .next (ans (u.rget a) (u.rput a (wd ((u.rget a).toNat &&& 0xC000)))))
    ∧ (n < 64 → a = 0x500 + 4 * n → exec (.partMarginLowRead t p n) s
        = .next (ans (u.rget a) (u.rput a (wd ((u.rget a).toNat &&& 0xFFFF_0000)))))

/-- On a path of software that reaches the register, after step 14 and not in a re-arm, on a channel below 32 that is not OFF. The doorbell of a channel that is not a NOTIFY channel stores PI when it lies between the old PI and the ring's end from CI on, else it is counted as refused. START makes a STOPPED channel RUNNING, with nothing fetched from CI on; STOP a RUNNING one STOPPING; ABORT cancels what a RUNNING, STOPPING or HALTED one has in progress or pending with cause 0; RESTART makes a HALTED one RUNNING; RESET_IDX clears CI, PI and SEQ of a STOPPED one. In another state of the channel each changes nothing. -/
def Obligations.ChannelControl : Prop :=
  ∀ (s u v : State) (t c : Nat) (p : Path) (x : Word), u = s.advance t → v = u.linkRx p → c < 32 → u.past14 = true →
    u.boot.phase ≠ .rearming → u.chKind c ≠ 0 →
    (u.takes p (chanReg c 0x24) → u.chKind c ≠ 3 →
      (∀ pi d, pi = fld x 0 16 → d = (pi + 65536 - (u.chan c).ci) % 65536 →
        exec (.chDoorbell t p c x) s = .next (State.noteEvt (if 2 ^ u.drLog c - 1 < d ∨ d < ((u.chan c).pi + 65536 - (u.chan c).ci) % 65536
          then v.bumpChan c 0 else v.putChan c { u.chan c with pi := pi }) v.evtStatus)))
    ∧ (u.takes p (chanReg c 0x20) →
      ((u.chan c).state = .stopped →
        exec (.start t p c) s = .next (v.putChan c { u.chan c with state := .running, fetchAt := (u.chan c).ci, fetched := [] })
        ∧ exec (.resetIdx t p c) s = .next (v.putChan c { u.chan c with ci := 0, pi := 0, seq := 0, fetchAt := 0 })
        ∧ exec (.stop t p c) s = .next v ∧ exec (.abort t p c) s = .next v ∧ exec (.restart t p c) s = .next v)
      ∧ ((u.chan c).state = .running →
        exec (.stop t p c) s = .next (((v.putChan c { u.chan c with state := .stopping }).settleChan c).noteEvt v.evtStatus)
        ∧ exec (.abort t p c) s = .next ((v.abortChan c 0).noteEvt v.evtStatus)
        ∧ exec (.start t p c) s = .next v ∧ exec (.restart t p c) s = .next v ∧ exec (.resetIdx t p c) s = .next v)
      ∧ ((u.chan c).state = .halted →
        exec (.restart t p c) s = .next (v.putChan c { u.chan c with state := .running, fetchAt := (u.chan c).ci, fetched := [] })
        ∧ exec (.abort t p c) s = .next ((v.abortChan c 0).noteEvt v.evtStatus)
        ∧ exec (.start t p c) s = .next v ∧ exec (.stop t p c) s = .next v ∧ exec (.resetIdx t p c) s = .next v))

/-- On a path of software that reaches the register, not in a re-arm. PM_FLUSH makes every cursor of an active host stream and of the front stage read both entries again. CANCEL of an active slot, not yet cancelling, whose EPOCH it names cancels it with cause 0 (a parked stripe of the front stage whose stream is cancelled goes on), any other is counted in CANCEL_STALE. RESUME of a halted slot whose EPOCH it names lets it go on with its entries read again, unless its ring is protected, and a parked stripe with it; any other is counted in RESUME_IGNORED. A write to a mask word of the MSI-X table stores its bit 0 and sends what is pending and no longer masked. -/
def Obligations.StreamCommands : Prop :=
  ∀ (s u v : State) (t r k n : Nat) (p : Path) (x : Word) (y : Strm), u = s.advance t → v = u.linkRx p → u.boot.phase ≠ .rearming →
    (u.takes p 0x20_0018 → exec (.pmFlush t p) s = .next { v with
      mems := { u.mems with strms := u.mems.strms.map (fun e =>
        (e.1, if e.2.active && e.2.space == 1 then { e.2 with cursor := e.2.cursor.toFlush } else e.2)) }
      front := { u.front with cursors := u.front.cursors.map (fun e => (e.1, e.2.toFlush)) } })
    ∧ (u.takes p 0x20_0034 → r = fld x 0 8 → k = fld x 8 4 → y = u.strm r k → y.active = true → y.cancelling = false →
        y.epoch = fld x 16 8 → r ≤ 144 →
        (∀ w, w = (v.putStrm r k { y with cancelling := true, halted := false, cause := 0 }).bumpMem 3 →
          exec (.cancel t p x) s = .next (State.noteEvt (let z := if r = 144 then w.unpark k else w
            match y.stripe with
            | some g => z.markTag g fCancelled
            | none => z) v.evtStatus)))
    ∧ (u.takes p 0x20_0034 → (u.strm (fld x 0 8) (fld x 8 4)).active = false ∨ (u.strm (fld x 0 8) (fld x 8 4)).epoch ≠ fld x 16 8 →
        exec (.cancel t p x) s = .next ((v.bumpMem 4).noteEvt v.evtStatus))
    ∧ (u.takes p 0x20_0030 → r = fld x 0 8 → k = fld x 8 4 → y = u.strm r k → y.active = true → y.halted = true →
        y.epoch = fld x 16 8 → r ≤ 144 →
        (∀ z q, q = (y.granAt y.issued).1 / 4096 →
          z = { y with halted := false, cursor := (Cursor.start).settle q (y.nextPage q (y.total - y.issued) y.issued) } →
          exec (.resume t p x) s = .next (State.noteEvt (if (u.putStrm r k z).lockedStrm r z = true then v
            else if r = 144 then (v.putStrm r k z).unpark k else v.putStrm r k z) v.evtStatus)))
    ∧ (u.takes p 0x20_0030 → (u.strm (fld x 0 8) (fld x 8 4)).active = false ∨ (u.strm (fld x 0 8) (fld x 8 4)).epoch ≠ fld x 16 8 →
        exec (.resume t p x) s = .next ((v.bumpMem 2).noteEvt v.evtStatus))
    ∧ (n < 256 → u.takes p (0x10_800C + 16 * n) → ∃ w : Word, w.toNat = x.toNat % 2 ∧
        exec (.msixMaskWrite t p (0x10_800C + 16 * n) x) s = .next (((v.rput (0x10_800C + 16 * n) w).flushMsix).noteEvt v.evtStatus))

/-- On a path of software that reaches PS_CTRL of a source below 4,096, not in a re-arm. DISCARD drops the pending set. COMMIT and NEXT, after a DISCARD of the same write, take the shadow as it stands: a set whose sensor-write words are not well formed is refused, counted in PS_REFUSED; another becomes pending, with its target frame, NEXT or not, and the next epoch, and replaces a pending one, counted in PS_REPLACED. -/
def Obligations.ParamCommands : Prop :=
  ∀ (s u v : State) (t src : Nat) (p : Path) (d : Bool) (q : ParamSet), u = s.advance t → v = u.linkRx p → src < 4096 →
    u.boot.phase ≠ .rearming → u.takes p (psAt src + 4) →
    exec (.discard t p src) s = .next (v.putPs src { u.ps src with pend := none })
    ∧ (q = (if d = true then { u.ps src with pend := none } else u.ps src) →
      (swOk 64 (setWords (u.psShadow src)) = false →
        exec (.commit t p src d) s = .next (((v.putPs src { q with refused := true }).bumpFront 3).noteEvt v.evtStatus)
        ∧ exec (.next t p src d) s = .next (((v.putPs src { q with refused := true }).bumpFront 3).noteEvt v.evtStatus))
      ∧ (swOk 64 (setWords (u.psShadow src)) = true → ∀ (z : State) (f : Bool → ParamSet),
        z = (if q.pend.isSome = true then v.bumpFront 2 else v) →
        (∀ nx, f nx = { q with
          pend := some { bytes := u.psShadow src, target := (u.rget (psAt src)).toNat, next := nx, epoch := (q.lastEpoch + 1) % 65536 }
          lastEpoch := (q.lastEpoch + 1) % 65536
          refused := false }) →
        exec (.commit t p src d) s = .next ((z.putPs src (f false)).noteEvt v.evtStatus)
        ∧ exec (.next t p src d) s = .next ((z.putPs src (f true)).noteEvt v.evtStatus)))

/-- Out of reset, while an image is loaded, on the image's path; `v` is the state with the register's old value remembered for a failed load. SC_CMD queues the word, or sets DROPPED with the queue full or NACK or DROPPED set; SC_FLUSH empties the queue and the read data and clears NACK and DROPPED. PLL_CFG of PLL 3 to 6 with FREQ in the PLL's range, no switchover running, is stored, and a change unlocks the PLL; out of the range it is ignored; during a switchover it waits. SSC_CFG of PLL 2 or 5 and MCLK_CFG of an output below 16 are stored when the spread (and a divider of at least 18) is allowed, else ignored. -/
def Obligations.ImageConfigs : Prop :=
  ∀ (s u v : State) (t n a : Nat) (x new : Word) (l : Load) (lo hi : Nat), u = s.advance t → u.held = false → u.boot.load = some l →
    v = u.saveReg a →
    (n < 16 → exec (.scCmd t .image n x) s = .next (if (u.sp n).nack = true ∨ (u.sp n).dropped = true ∨ 256 ≤ (u.sp n).queue.length
        then u.putSp n { u.sp n with dropped := true } else u.putSp n { u.sp n with queue := (u.sp n).queue ++ [(x, none)] }))
    ∧ (n < 16 → exec (.scFlush t .image n) s
        = .next (u.putSp n ({ u.sp n with queue := [], rdata := [], nack := false, dropped := false } : SctlPort).pump))
    ∧ (3 ≤ n → n ≤ 6 → a = 0x1_0100 + 0x20 * n → pllRange n = (lo, hi) →
      (fld x 0 12 < lo ∨ hi < fld x 0 12 → exec (.pllCfgWrite t .image n x) s = .next v)
      ∧ (lo ≤ fld x 0 12 → fld x 0 12 ≤ hi → u.clk.switching = none → new.toNat = x.toNat &&& 0x1_0FFF → u.rget a ≠ new →
          exec (.pllCfgWrite t .image n x) s = .next { v.rput a new with clk := { u.clk with
            locked := nclr u.clk.locked n
            held := nclr u.clk.held n
            lost := nclr u.clk.lost n } })
      ∧ (∀ q, lo ≤ fld x 0 12 → fld x 0 12 ≤ hi → u.clk.switching = some q →
          exec (.pllCfgWrite t .image n x) s = .next { v with clk := { u.clk with heldCfg := u.clk.heldCfg ++ [(n, x)] } }))
    ∧ (n = 2 ∨ n = 5 → a = 0x1_0104 + 0x20 * n →
      (sscOk (fld x 1 5) (fld x 6 6) = true → new.toNat = x.toNat &&& 0xFFF → exec (.sscCfgWrite t .image n x) s = .next (v.rput a new))
      ∧ (sscOk (fld x 1 5) (fld x 6 6) = false → exec (.sscCfgWrite t .image n x) s = .next v))
    ∧ (n < 16 → a = 0x1_0300 + 4 * n →
      (18 ≤ fld x 0 8 → sscOk (fld x 17 5) (fld x 22 6) = true → new.toNat = x.toNat &&& 0x0FFF_FFFF →
        exec (.mclkCfgWrite t .image n x) s = .next (v.rput a new))
      ∧ (fld x 0 8 < 18 ∨ sscOk (fld x 17 5) (fld x 22 6) = false → exec (.mclkCfgWrite t .image n x) s = .next v))

/-- Out of reset. On a path of software that reaches a register that software may write on it, whose row has no W1C bits and no lock, whose value is held in the register store and whose write is no more than storing fields, the bits that the row lets a write set are taken from the value and the others kept. A write to an address that the path does not reach changes nothing (over the link it counts 4 bytes received); a read of one answers 0. Over a path that is down, a write changes nothing, and a read neither, except that a link that is up answers a read that its BARs do not accept with Unsupported Request. A write of two words over the link, in the PAGEMAP window at an even entry address, writes both at one instant; outside it a write of two words is dropped and counted in BAR0_BAD, and a read of two is an Unsupported Request, counted too. -/
def Obligations.PlainAccess : Prop :=
  ∀ (s u v : State) (t a : Nat) (p : Path) (x new : Word) (r : RegRow), u = s.advance t → u.held = false → p ≠ .image → v = u.linkRx p →
    (u.takes p a → rowOf a = some r → r.w1c = 0 → r.lock = none → u.gateOpen r.gate p a = true → u.windowShut p a = false →
      v.writeSpecial p a x = none → v.rawVal a = some (u.rget a) → a ≠ 0x3_0010 → ¬ (0x10_8000 ≤ a ∧ a < 0x10_9000) →
      new.toNat = ((u.rget a).toNat - ((u.rget a).toNat &&& r.rw)) + (x.toNat &&& r.rw) →
      exec (.registerWrite t p a x none) s = .next ((v.putRaw a new).noteEvt v.evtStatus))
    ∧ (u.pathUp p = true → u.writable p a = false → exec (.registerWrite t p a x none) s = .next v)
    ∧ (u.pathUp p = true → u.readable p a = false →
        exec (.lowWordRead t p a false) s = .next ((u.linkTx p).out (.readWord (pathNum p) a 0)))
    ∧ (u.pathUp p = false → exec (.registerWrite t p a x none) s = .next u
        ∧ exec (.lowWordRead t p a false) s = .next (if p = .bar0 ∧ u.host.linkUp = true then u.out (.unsupported a) else u))
    ∧ (∀ y w, u.barUp = true → 0x200_0000 ≤ a → a % 8 = 0 → (rowOf a).isSome = true → exec (.registerWrite t .bar0 a x none) s = .next w →
        exec (.registerWrite t p a x (some y)) s = exec (.registerWrite t .bar0 (a + 4) y none) w)
    ∧ (∀ y, u.barUp = true → a < 0x200_0000 ∨ a % 8 ≠ 0 → exec (.registerWrite t p a x (some y)) s
        = .next ((u.bump64 0x10_0180 8).bumpHost 0)
      ∧ exec (.lowWordRead t p a true) s = .next ((u.bumpHost 0).out (.unsupported a)))

/-- MICROSECOND_TICK with TIMEBASE running ends every running core's tick interval: without a wait in it and with n cycles in it (of the probe while one runs), CYCLES advances by n, the microseconds by 1, and so do the window's sums; otherwise only the interval starts anew. It then refills regulators and channel buckets, polls a WAIT, and shows HEADER while a start-up reads the header of its primary image. PACE_WINDOW_CLOSE, at a multiple of 2^WIN ticks not yet closed at, closes the window of each core that is neither fenced nor unpowered (PACE_LAST the mean rate, MARGIN its ratio to the floor in 1/4096; without a clean interval it is not valid), then the dies' and partitions' margins; a discarded window starts anew, with nothing updated. At another count nothing changes. PACE_PROBE_START starts the probe of a powered core in RUN, not fenced, with PROBE_EN, that has had no work for 2 µs. -/
def Obligations.Pace : Prop :=
  (∀ (c : PaceCore) (pr n : Nat) (w : Bool), n = (if c.probe = true then pr else c.usCycles) →
      (c.waited = false → n ≠ 0 → (c.tick pr w).cyc = (c.cyc + n) % 2 ^ 64 ∧ (c.tick pr w).us = (c.us + 1) % 2 ^ 64
        ∧ (c.tick pr w).winCyc = c.winCyc + n ∧ (c.tick pr w).winUs = c.winUs + 1 ∧ (c.tick pr w).usCycles = 0)
      ∧ (c.waited = true ∨ n = 0 → c.tick pr w = { c with usCycles := 0, waited := w && !c.probe }))
  ∧ (∀ (c : PaceCore) (fl : Nat), (c.winUs ≠ 0 → (c.close fl).last = min 0xFFFF (c.winCyc / c.winUs) ∧ (c.close fl).valid = true
        ∧ (c.close fl).margin = min 0xFFFF ((c.close fl).last * 4096 / fl) ∧ (c.close fl).winUs = 0 ∧ (c.close fl).winCyc = 0)
      ∧ (c.winUs = 0 → c.close fl = { c with winCyc := 0, valid := false }))
  ∧ (∀ (s u : State) (t n : Nat) (pr : List Nat), u = s.advance t →
    (u.timebaseRuns = true → exec (.microsecondTick t pr) s = .next (State.headerTick (State.waitTick (State.dmaTick (State.regTick { u with
        usTicks := u.usTicks + 1
        pace := { u.pace with cores := u.pace.cores.map (fun e =>
          (e.1, if u.paceRuns e.1 then e.2.tick (pr.getD e.1 0) (u.core e.1).waiting else e.2)) } })))))
    ∧ (u.timebaseRuns = false → exec (.microsecondTick t pr) s = .next u)
    ∧ (u.held = false → u.usTicks % 2 ^ fld (u.rget 0x200) 0 5 ≠ 0 ∨ u.usTicks = u.pace.closedAt → exec (.paceWindowClose t) s = .next u)
    ∧ (u.held = false → u.usTicks % 2 ^ fld (u.rget 0x200) 0 5 = 0 → u.usTicks ≠ u.pace.closedAt → u.pace.discard = true →
        exec (.paceWindowClose t) s = .next { u with pace := { u.pace with
          closedAt := u.usTicks
          discard := false
          cores := u.pace.cores.map (fun e => (e.1, { e.2 with winCyc := 0, winUs := 0 })) } })
    ∧ (u.held = false → u.usTicks % 2 ^ fld (u.rget 0x200) 0 5 = 0 → u.usTicks ≠ u.pace.closedAt → u.pace.discard = false →
        exec (.paceWindowClose t) s = .next (((List.range 64).foldl State.closePart ((List.range 4).foldl State.closeDie { u with
          pace := { u.pace with
            closedAt := u.usTicks
            discard := false
            winSeq := (u.pace.winSeq + 1) % 2 ^ 32
            cores := u.pace.cores.map (fun e => (e.1, if u.coreFenced e.1 || !u.diePowered (dieOf e.1) then
              { e.2 with winCyc := 0, winUs := 0 } else e.2.close u.paceFloor)) } })).noteEvt u.evtStatus))
    ∧ (u.held = false → n < 144 → u.paceRuns n = true → u.coreFenced n = false → bit (u.rget 0x200) 8 = true → (u.core n).walks = [] →
        (u.core n).queued = [] → (u.core n).replay = none → (u.core n).closed = [] → (u.core n).drain = [] → (∀ x, x < 4 → u.canIssue n x = false) → (u.paceOf n).probe = false →
        (u.paceOf n).lastWork + 2000 ≤ u.now →
        exec (.paceProbeStart t n) s = .next (u.putPace n { u.paceOf n with probe := true, waited := true })))

/-- A port that receives on a virtual channel, its burst not being discarded; `h` is the state with the port's HS traffic noted. A header with an uncorrectable error is counted for the port and its open frames, and the rest of the burst is discarded. A corrected one is counted, and the packet goes on. A SHORT_PACKET_IGNORED does no more. A long packet whose header is clean, of the data type of the channel's source with an open frame, not being dropped, counts its bytes; a wrong CRC is counted and marks the frame; then its line is taken. With no source on the channel it is counted as unmatched. HS_BURST_END ends the discarding; DESKEW notes the deskew of a D-PHY port; PHY_ERR is counted. -/
def Obligations.PortPackets : Prop :=
  ∀ (s u h : State) (t port vc : Nat), u = s.advance t → u.held = false → h = u.putIng port { u.ing' port with lastHs := some u.now } →
    (u.receives port vc = true → (u.ing' port).discard = false →
      (∀ dt fn wc d ok, exec (.shortPacketIgnored t port vc dt 2) s = .next (h.eccUncorr port)
        ∧ exec (.longPacket t port vc dt wc 2 d ok) s = .next (h.eccUncorr port)
        ∧ exec (.frameStart t port vc fn 2) s = .next (h.eccUncorr port) ∧ exec (.frameEnd t port vc fn 2) s = .next (h.eccUncorr port))
      ∧ (∀ dt, exec (.shortPacketIgnored t port vc dt 0) s = .next h)
      ∧ (∀ dt m, u.srcOn port vc = m → exec (.shortPacketIgnored t port vc dt 1) s = .next (h.eccCorr port (m.map (·.1))))
      ∧ (∀ dt wc d ok z, u.srcOn port vc = none → dt ≠ 0x10 → dt ≠ 0x11 →
          z = h.putIng port { h.ing' port with bytes := ((h.ing' port).bytes + wc) % 2 ^ 64 } →
          exec (.longPacket t port vc dt wc 0 d ok) s = .next (z.bumpPort port 7))
      ∧ (∀ wc d ok z src x f g, u.srcOn port vc = some (src, x) → (u.src src).dt ≠ 0x10 → (u.src src).dt ≠ 0x11 →
          z = h.putIng port { h.ing' port with bytes := ((h.ing' port).bytes + wc) % 2 ^ 64 } →
          (u.slots src).dropping = none → u.openOf src = some f →
          g = (if ok = true then f else { f with crcErrs := f.crcErrs + 1, flags := f.flags ||| fCrcErr }) →
          exec (.longPacket t port vc (u.src src).dt wc 0 d ok) s
            = .next (State.takeLine (State.putFlight (if ok = true then z else z.bumpPort port 1) g) port g x (slice d 0 wc))))
    ∧ (u.receives port vc = false → ∀ dt fn wc e d ok, exec (.shortPacketIgnored t port vc dt e) s = .next u
        ∧ exec (.longPacket t port vc dt wc e d ok) s = .next u ∧ exec (.frameStart t port vc fn e) s = .next u
        ∧ exec (.frameEnd t port vc fn e) s = .next u)
    ∧ (port < 16 → exec (.hsBurstEnd t port) s = .next (u.putIng port { u.ing' port with discard := false }))
    ∧ (port < 16 → fld (u.portCfg port) 0 2 = 1 → exec (.deskew t port) s = .next (u.putIng port { u.ing' port with deskew := true }))
    ∧ (port < 16 → u.portOn port = true → u.leadOf port = port → exec (.phyErr t port) s = .next (u.bumpPort port 14))

/-- A clean Frame Start of exposure 0 of a source on a receiving port. While frames are not accepted, the frame is discarded and counted, and an open frame of an earlier slot closes. Of a source without a period, it is accepted as the next frame number, and a header that was corrected counts in the frame that it opens. Of one with a period, in the window of slot k at or after the next slot and not yet opened, the slots before it are counted missing and it is accepted as frame k; a second one in an opened slot is counted as extra and dropped, and a further one is unmatched. A Frame End of the last exposure closes the open frame. FRAME_CLOSE_TIMEOUT closes an open frame PERIOD ns after its start. FRAME_SLOT_EXPIRE counts the slots of an enabled sensor source whose windows have ended without a start. -/
def Obligations.Frames : Prop :=
  ∀ (s u h : State) (t port vc fn src : Nat), u = s.advance t → u.held = false →
    h = u.putIng port { u.ing' port with lastHs := some u.now } →
    (u.receives port vc = true → (u.ing' port).discard = false → u.srcOn port vc = some (src, 0) →
      (u.accepting = false → u.openOf src = none → exec (.frameStart t port vc fn 0) s
          = .next (State.putSlots (h.bumpPort (u.src src).port 11) src { u.slots src with dropping := some .silent }))
      ∧ (∀ f, u.accepting = false → u.openOf src = some f → (u.src src).period = 0 ∨ (u.slots src).opened ≠ some (h.slotNow src).toNat →
          exec (.frameStart t port vc fn 0) s = .next (State.putSlots ((h.closeFrame f false).bumpPort (u.src src).port 11) src
            { (h.closeFrame f false).slots src with dropping := some .silent }))
      ∧ (u.accepting = true → (u.src src).period = 0 → exec (.frameStart t port vc fn 0) s
          = .next ((h.acceptStart src ((u.slots src).nextFree % 2 ^ 32) u.now fn 0).putSlots src
            { u.slots src with nextFree := (u.slots src).nextFree + 1, dropping := none })
        ∧ exec (.frameStart t port vc fn 1) s
          = .next (((h.bumpPort port 2).acceptStart src ((u.slots src).nextFree % 2 ^ 32) u.now fn 1).putSlots src
            { u.slots src with nextFree := (u.slots src).nextFree + 1, dropping := none }))
      ∧ (∀ k : Nat, u.accepting = true → (u.src src).period ≠ 0 → h.slotNow src = (k : Int) →
        ((u.slots src).opened = some k → (u.slots src).dropping = some .extra → exec (.frameStart t port vc fn 0) s
          = .next (h.bumpPort (u.src src).port 7))
        ∧ ((u.slots src).opened = some k → (u.slots src).dropping ≠ some .extra → exec (.frameStart t port vc fn 0) s
          = .next ((h.bumpPort (u.src src).port 13).putSlots src { u.slots src with dropping := some .extra }))
        ∧ (∀ z, (u.slots src).opened ≠ some k → (u.slots src).nextSlot ≤ k → z = h.expireTo src k →
          exec (.frameStart t port vc fn 0) s = .next ((z.acceptStart src (k % 2 ^ 32) (z.expectOf src k) fn 0).putSlots src
            { z.slots src with nextSlot := k + 1, opened := some k, dropping := none })))
      ∧ (∀ f, (u.slots src).dropping = none → u.openOf src = some f → (u.src src).exposures = 1 → f.ends = [] →
          exec (.frameEnd t port vc fn 0) s = .next (State.closeFrame (h.putFlight { f with ends := [0] }) { f with ends := [0] } false)))
    ∧ (∀ f, u.openOf src = some f → exec (.frameCloseTimeout t src) s
        = .next (if (u.src src).period ≠ 0 ∧ f.startAt + (u.src src).period ≤ u.now then u.closeFrame f false else u))
    ∧ ((u.src src).enable = true → (u.src src).kind ≤ 1 → (u.src src).period ≠ 0 → u.accepting = true → ∀ k : Nat, u.slotNow src = (k : Int) →
        exec (.frameSlotExpire t src) s = .next (if k = 0 then u else u.expireTo src k))

/-- Out of reset. SENSOR_COMMAND_ISSUE on a port that is on, with no command on the bus: an image's write command at the head of the queue, whole there, leaves it and goes on the bus. SENSOR_COMMAND_DONE of an image's command: with a NACK the queue is emptied and NACK set, but after step 14, outside a re-arm, the command alone ends; else as many read words as it asked for are stored, missing ones 0, addresses are noted, and NO_STOP keeps the bus. IBI on an I3C port: refused with a NACK unless IBI_EN is 1 and the address was assigned; else acknowledged and queued, or counted as lost with 16 waiting. HOT_JOIN is refused. -/
def Obligations.SensorBus : Prop :=
  ∀ (s u : State) (t n : Nat), u = s.advance t → u.held = false →
    (∀ w r, fld (u.ctlCfg n) 0 2 ≠ 0 → (u.sp n).busy = none → (u.sp n).queue = (w, none) :: r → bit w 7 = false → cmdWords w ≤ r.length →
      exec (.sensorCommandIssue t n) s = .next (State.out (u.putSp n ({ u.sp n with
        queue := r.drop (cmdWords w)
        busy := some (w :: (r.take (cmdWords w)).map (·.1))
        busySet := none } : SctlPort).pump) (.sensorBus n (w :: (r.take (cmdWords w)).map (·.1)))))
    ∧ (∀ d w r, (u.sp n).busy = some (w :: r) → (u.sp n).busySet = none →
        exec (.sensorCommandDone t n d true) s
          = .next (if u.setsOnly = true then u.putSp n { u.sp n with busy := none, busySet := none, kept := false }
            else u.putSp n ({ u.sp n with busy := none, busySet := none, kept := false, queue := [], nack := true } : SctlPort).pump)
        ∧ (bit w 7 = true → exec (.sensorCommandDone t n d false) s = .next (u.putSp n (({ u.sp n with
            busy := none
            busySet := none
            kept := bit w 25
            rdata := (u.sp n).rdata ++ (d.take (cmdWords w) ++ List.replicate (cmdWords w - d.length) 0) } : SctlPort).assign (w :: r)))))
    ∧ (∀ a pl, fld (u.ctlCfg n) 0 2 = 1 →
        (bit (u.ctlCfg n) 2 = false ∨ ((u.sp n).anyAssigned = false ∧ (u.sp n).assigned.contains a = false) →
          exec (.ibi t n a pl) s = .next (u.out (.sensorAck n false)))
        ∧ (bit (u.ctlCfg n) 2 = true → (u.sp n).assigned.contains a = true → (u.sp n).ibis.length < 16 → exec (.ibi t n a pl) s
          = .next (State.out (u.putSp n { u.sp n with ibis := (u.sp n).ibis ++ [{ addr := a % 128, payload := pl.take 4 }] })
            (.sensorAck n true)))
        ∧ (bit (u.ctlCfg n) 2 = true → (u.sp n).assigned.contains a = true → 16 ≤ (u.sp n).ibis.length → exec (.ibi t n a pl) s
          = .next (State.out (u.putSp n { u.sp n with ibiLost := satAdd32 (u.sp n).ibiLost 1 }) (.sensorAck n true)))
        ∧ exec (.hotJoin t n) s = .next (u.out (.sensorAck n false)))

/-- FSYNC_PULSE of a FREE_RUN output after T0 with no pulse left from an earlier schedule, at or after the time of its next pulse: the pulse goes out (both edges, at the active level first), or is skipped and counted when the next one starts within the pulse's width; the pulse number advances; earlier nothing changes. GENLOCK_EDGE of a pulse of 100 ns or more, with TIMEBASE running: the first edge is noted; a later one 1 ms to 1 s after the last gives the period, and two successive periods within 1 µs lock. A shorter pulse changes nothing. GENLOCK_LOST when no edge has come for 1.25 periods, not yet in holdover: LOCKED ends, LOST is set, two virtual edges are scheduled, and the GENLOCK event is set; with no edge ever, nothing changes. -/
def Obligations.Triggers : Prop :=
  ∀ (s u : State) (t j e d t0 at0 a w : Nat) (o : FsOut), u = s.advance t → u.held = false → 100 ≤ w →
    (o = u.fs j → o.t0 = some t0 → o.old = [] → fld o.ctrl 0 2 = 1 → at0 = t0 + o.phase + o.nextFree * o.period → a = 0xA_200C + 0x10 * j →
      (u.now < at0 → exec (.fsyncPulse t j) s = .next u)
      ∧ (at0 ≤ u.now → fsWidth o.ctrl < o.period → exec (.fsyncPulse t j) s = .next (State.putFs { u with
          outbox := .fsync j (!fsActive o.ctrl) :: .fsync j (fsActive o.ctrl) :: u.outbox } j { o with nextFree := o.nextFree + 1 }))
      ∧ (at0 ≤ u.now → o.period ≤ fsWidth o.ctrl → exec (.fsyncPulse t j) s
          = .next ((u.rput a (satInc (u.rget a))).putFs j { o with nextFree := o.nextFree + 1 })))
    ∧ (u.timebaseRuns = true → u.trig.lastEdge = none →
        exec (.genlockEdge t w) s = .next { u with trig := { u.trig with lastEdge := some u.now, edgeNs := u.ns } })
    ∧ (u.timebaseRuns = true → u.trig.lastEdge = some e → u.trig.holdEdge = none → d = u.now - e → 1_000_000 ≤ d → d ≤ 1_000_000_000 →
        u.trig.periods = 0 → u.trig.everLocked = false → exec (.genlockEdge t w) s = .next { u with trig := { u.trig with
          lastEdge := some u.now
          edgeNs := u.ns
          period := d
          periods := d } })
    ∧ (u.timebaseRuns = true → u.trig.lastEdge = some e → u.trig.holdEdge = none → d = u.now - e → 1_000_000 ≤ d → d ≤ 1_000_000_000 →
        u.trig.periods ≠ 0 → d ≤ u.trig.periods + 1000 → u.trig.periods ≤ d + 1000 →
        ∃ s', exec (.genlockEdge t w) s = .next s' ∧ s'.trig.locked = true ∧ s'.trig.period = d)
    ∧ (∀ x, x < 100 → exec (.genlockEdge t x) s = .next u)
    ∧ (u.trig.lastEdge = none → exec (.genlockLost t) s = .next u)
    ∧ (u.trig.lastEdge = some e → u.trig.period ≠ 0 → u.trig.holdEdge = none → 4 * e + 5 * u.trig.period ≤ 4 * u.now →
        exec (.genlockLost t) s = .next (State.setEvt { u with trig := Trig.holdTick (Trig.holdTick { u.trig with
          lost := true
          locked := false
          holdEdge := some e }) } 3))

/-- The command of each row for a data macro-instruction acts when the issuing context of a core that runs has that instruction at the head of its queue, the one before it having issued its last tile. When it passes checks 1 to 7, its streams find free slots and checks 8 to 15 pass, the streams are activated, the instruction leaves the queue and is counted as issued (a resplit is noted), and its walk of tiles, or its run of elements, starts; behind a walk in its last tile it is queued. With too few free slots it waits. When one of checks 1 to 7 fails, the context stops: ISSUE_LAST shows the check, and the record of its class follows; when a later one fails, the streams that were activated are cancelled first (log entry 44). A word of its queue entry held in error fences the core (log entry 17). With another instruction at the head, a queue that is empty or a context that does not run, nothing changes. -/
def Obligations.DataIssue : Prop :=
  ∀ (s u : State) (t n c i : Nat) (r : List Byte) (cmd : Instr), u = s.advance t → c = (u.core n).cur →
    ((leAt r 0 1 = 1 ∧ cmd = .conv t n) ∨ (leAt r 0 1 = 2 ∧ cmd = .dwconv t n) ∨ (leAt r 0 1 = 3 ∧ cmd = .matmul t n)
      ∨ (leAt r 0 1 = 4 ∧ leAt r 0x0E 1 ≠ 1 ∧ cmd = .xformForward t n) ∨ (leAt r 0 1 = 4 ∧ leAt r 0x0E 1 = 1 ∧ cmd = .xformInverse t n)
      ∨ (leAt r 0 1 = 5 ∧ leAt r 0x0E 1 ≠ 1 ∧ cmd = .poolMax t n) ∨ (leAt r 0 1 = 5 ∧ leAt r 0x0E 1 = 1 ∧ cmd = .poolAverage t n)
      ∨ (leAt r 0 1 = 6 ∧ leAt r 0x0E 1 ≠ 1 ∧ cmd = .resampleNearest t n)
      ∨ (leAt r 0 1 = 6 ∧ leAt r 0x0E 1 = 1 ∧ cmd = .resampleBilinear t n)
      ∨ (leAt r 0 1 = 7 ∧ cmd = .eltw t n) ∨ (leAt r 0 1 = 8 ∧ cmd = .copy t n)
      ∨ (leAt r 0 1 = 0x20 ∧ cmd = .bwdData t n) ∨ (leAt r 0 1 = 0x21 ∧ cmd = .bwdWgt t n)
      ∨ (leAt r 0 1 = 0x22 ∧ leAt r 0x34 1 % 4 = 0 ∧ cmd = .updateStep t n)
      ∨ (leAt r 0 1 = 0x22 ∧ leAt r 0x34 1 % 4 = 1 ∧ cmd = .updateLoss t n)
      ∨ (leAt r 0 1 = 0x22 ∧ leAt r 0x34 1 % 4 = 2 ∧ cmd = .updatePublish t n)) →
    (u.ctxRuns n c = true → u.head n c = some (i, r) → u.dataWaits n c = false → u.headUe n c = none →
      (∀ o sl z o1 w k, u.resolve n c i r = .ok o → u.freeSlots n o.streamCount [] = some sl →
        u.openStreams n c o (u.foldW n r) sl = (z, o1) → u.lateChecks n o = .ok () →
        w = (z.issued n c i).noteResplit n c i o1 → k = w.core n →
        (∀ q, tfind k.walks c = some q → exec cmd s = .next ((w.putCore n { k with queued := tput k.queued c o1 }).wake n))
        ∧ (tfind k.walks c = none → o1.array = true → exec cmd s
          = .next ((w.putCore n { k with walks := tput k.walks c (Walk.start o1), waiting := false }).wake n))
        ∧ (tfind k.walks c = none → o1.array = false → exec cmd s
          = .next ((w.putCore n { k with drain := k.drain ++ [DrainJob.run o1], waiting := false }).wake n)))
      ∧ (∀ o, u.resolve n c i r = .ok o → u.freeSlots n o.streamCount [] = none →
          exec cmd s = .next (if (tfind (u.core n).walks c).isSome then u else u.coreWaits n))
      ∧ (∀ o sl z o1 e, u.resolve n c i r = .ok o → u.freeSlots n o.streamCount [] = some sl →
          u.openStreams n c o (u.foldW n r) sl = (z, o1) → u.lateChecks n o = .error e →
          exec cmd s = .next ((z.cancelOps n sl).issueFail n c i r e))
      ∧ (∀ e, u.resolve n c i r = .error e → exec cmd s = .next (u.issueFail n c i r e)))
    ∧ (u.ctxRuns n c = true → u.head n c = some (i, r) → u.dataWaits n c = false → ∀ a, u.headUe n c = some a →
        exec cmd s = .next (u.fenceCore n { cls := 0x11, action := 3, unit := n, detail := memOffset a }))
    ∧ (u.ctxRuns n c = true → u.head n c = some (i, r) → u.dataWaits n c = true → exec cmd s = .next u)
    ∧ (u.ctxRuns n c = false ∨ u.head n c = none → exec cmd s = .next u)
    ∧ (∀ j q, u.head n c = some (j, q) → leAt q 0 1 ≠ leAt r 0 1 → knownOpcode q = true → exec cmd s = .next u)

/-- On a core whose issuing context runs, has the control instruction of the command at the head of its queue, held without error, and no instruction in work, with its checks passed and its bound `v`. CLAIM asks the counter with the context's stripe and the bound as LIMIT, and the context waits. WAIT_SEM of a count that is not available blocks the context; one on EMPTY that is available takes its count and goes on. SIGNAL_SEM without AFTER_DRAIN, or with every output accepted, puts the signal with the context's tag on its way. LOOP sets the index register, counts as issued and enters the body, or with a bound of 0 goes past it. END counts as issued; with RESTART the context goes on at its first instruction, else it stops. A check that fails stops the context. -/
def Obligations.ControlIssue : Prop :=
  ∀ (s u : State) (t n c i v : Nat) (r : List Byte), u = s.advance t → c = (u.core n).cur → u.ctxRuns n c = true →
    u.head n c = some (i, r) → u.ctxBusy n c = false → u.headUe n c = none →
    (u.ctlCheck n c i r = .ok v →
      (leAt r 0 1 = 0x10 → (u.ctx n c).asked = none → exec (.claim t n) s = .next (((u.modCtx n c (fun x => { x with
          asked := some { counter := leAt r 2 2, tag := (u.ctx n c).stripe.getD Tag.noStripe, limit := v }
          blocked := true })).noteWait (u.linkPart (u.ctrLink (leAt r 2 2)))).pick n))
      ∧ (leAt r 0 1 = 0x11 → u.canWait (leAt r 2 2) (leAt r 4 1 == 0) (4 * n + c) (leAt r 5 1) = false →
          exec (.waitSem t n) s = .next (((u.modCtx n c (fun x => { x with blocked := true })).noteWait (u.linkPart (leAt r 2 2))).pick n))
      ∧ (leAt r 0 1 = 0x11 → leAt r 4 1 ≠ 0 → nbit (leAt r 1 1) 0 = false →
          u.canWait (leAt r 2 2) false (4 * n + c) (leAt r 5 1) = true →
          exec (.waitSem t n) s = .next ((((u.putLnk (leAt r 2 2) { u.lnk (leAt r 2 2) with
            waitEmpty := ((u.lnk (leAt r 2 2)).waitEmpty + leAt r 5 1) % 65536 }).issued n c i).noteAdvance (u.linkPart (leAt r 2 2))).wake n))
      ∧ (leAt r 0 1 = 0x12 → nbit (leAt r 1 1) 0 = false ∨ u.ctxDrained n c [] = true → ∀ x, x = u.ctx n c →
          exec (.signalSem t n) s = .next (((State.modCtx { u with signals := u.signals ++ [{
              link := leAt r 2 2, full := leAt r 4 1 == 0, member := 4 * n + c, count := leAt r 5 1, endStripe := nbit (leAt r 1 1) 1
              tag := x.stripe.map (fun t => { t with poisoned := x.poisoned, late := x.late }), seg := x.segs, index := i
              claim := x.claim.map (fun c => { c with tag := { c.tag with poisoned := x.poisoned, late := x.late } }) }] } n c
            (fun x => if (leAt r 4 1 == 0) = true then { x with segs := (x.segs + leAt r 5 1) % 65536 } else x)).issued n c i).wake n))
      ∧ (leAt r 0 1 = 0x13 → exec (.loop t n) s = .next ((State.modCtx ((u.bump64 (coreReg n 0xA0) 1).modCtx n c (fun x =>
            { x with queue := x.queue.drop 1, idx := lset x.idx (leAt r 2 2) (leAt r 6 2), blocked := false })) n c (fun x =>
            if v = 0 then x.after (i + leAt r 4 1)
            else { x with
              fetchAt := i + 1
              loops := { idx := leAt r 2 2, first := i + 1, last := i + leAt r 4 1, left := v } :: x.loops })).wake n))
      ∧ (leAt r 0 1 = 0x14 → ∀ (cmd : Instr) (b : Bool), b = nbit (leAt r 1 1) 0 → cmd = (if b = true then .endRestart t n else .endStop t n) →
          exec cmd s = .next ((((u.passStripe n c).bump64 (coreReg n 0xA0) 1).modCtx n c (fun x =>
            { x with queue := x.queue.drop 1, fetchAt := 0, ended := !b, blocked := false })).pick n)))
    ∧ (∀ e, u.ctlCheck n c i r = .error e →
        (leAt r 0 1 = 0x10 → exec (.claim t n) s = .next (u.issueFail n c i r e))
        ∧ (leAt r 0 1 = 0x11 → exec (.waitSem t n) s = .next (u.issueFail n c i r e))
        ∧ (leAt r 0 1 = 0x12 → exec (.signalSem t n) s = .next (u.issueFail n c i r e))
        ∧ (leAt r 0 1 = 0x13 → exec (.loop t n) s = .next (u.issueFail n c i r e)))

/-- MACRO_FETCH for a context that runs, has room in its queue and may fetch: the next 64 bytes of its program enter the queue, a correctable error of the entry being recorded; with an uncorrectable error in the bytes or in the entry the core is fenced; else nothing changes. SEMAPHORE_UPDATE: the oldest signal takes effect; an uncorrectable error in the semaphore is recorded and fences its link first. A FULL signal on a link that is neither CLAIMED nor FENCED publishes its segments when every waiter's window allows, and an EMPTY one counts for its member; on a FENCED link it is dropped. CLAIM_ANSWER of a counter that is free, or has handed out all its tiles, answers tile 0 of a new stripe; one that serves the stripe answers the next tile, or exhausted with none left; not ready, the context keeps waiting. -/
def Obligations.Semaphores : Prop :=
  (∀ (s u : State) (t n c i a : Nat), u = s.advance t → c < 4 → i = (u.ctx n c).fetchNext → a = u.macroAt n c i →
    (u.ctxRuns n c = true → (u.ctx n c).queue.length < u.mqEntries n c → (u.ctx n c).fetchFree = true →
      (u.poisonedIn a 64 = false → exec (.macroFetch t n c none) s
          = .next (((u.modCtx n c (fun x => { x with queue := x.queue ++ [(i, u.rd a 64)], fetched := x.fetched + 1 })).queueWritten
              (mqAt n (u.queueEntry n c (u.ctx n c).fetched))).wake n)
        ∧ exec (.macroFetch t n c (some false)) s
          = .next ((State.queueWritten ((u.raise { cls := 0x10, action := 1, unit := n, detail := memOffset a }).modCtx n c (fun x =>
              { x with queue := x.queue ++ [(i, u.rd a 64)], fetched := x.fetched + 1 }))
              (mqAt n (u.queueEntry n c (u.ctx n c).fetched))).wake n))
      ∧ (∀ e, u.poisonedIn a 64 = true ∨ e = some true → exec (.macroFetch t n c e) s
        = .next (u.fenceCore n { cls := 0x11, action := 3, unit := n, detail := memOffset a })))
    ∧ (u.ctxRuns n c = false ∨ u.mqEntries n c ≤ (u.ctx n c).queue.length ∨ (u.ctx n c).fetchFree = false →
        ∀ e, exec (.macroFetch t n c e) s = .next u))
  ∧ (∀ (s u : State) (t : Nat), u = s.advance t →
    (u.signals = [] → ∀ e, exec (.semaphoreUpdate t e) s = .next u)
    ∧ (∀ g rest z x, u.signals = g :: rest → z = { u with signals := rest } → x = u.lnk g.link →
      (x.fenced = true → exec (.semaphoreUpdate t none) s = .next z.wakeAll)
      ∧ exec (.semaphoreUpdate t (some true)) s = .next (State.wakeAll (State.applySignal (State.fenceLinks (State.raise
          (match g.tag with
            | some h => State.markTag { z with freeCount := z.freeCount + 1 } h fDetected
            | none => { z with freeCount := z.freeCount + 1 })
          { cls := 0x11, action := 2, unit := 0x1004 + (u.link g.link).semDie, detail := Config.freeNat z.freeCount % 2 ^ 64
            frame := tagFrame g.tag }) (fun i _ => i == g.link)) g))
      ∧ (x.fenced = false → g.full = true → (u.link g.link).claimed = false → x.fullOk (u.link g.link) g.count = true →
          exec (.semaphoreUpdate t none) s = .next (z.publishAll g.link g.tags).wakeAll)
      ∧ (x.fenced = false → g.full = false → x.emptyOk (u.link g.link) g.member g.count = true →
          exec (.semaphoreUpdate t none) s = .next (State.wakeAll (State.noteAdvance (z.putLnk g.link { x with
            tallyEmpty := tput x.tallyEmpty g.member ((tget 0 x.tallyEmpty g.member + g.count) % 65536) }) (u.linkPart g.link))))))
  ∧ (∀ (w : WorkCtr) (g : Tag) (limit : Nat),
    (∀ c, w.cur = some c → c.same g = true → w.next < w.limit → w.answer g limit false
      = (.tile w.next w.seq, { w with seq := (w.seq + 1) % 2 ^ 32, next := w.next + 1 }))
    ∧ (∀ c, w.cur = some c → c.same g = true → w.limit ≤ w.next → (w.answer g limit false).1 = .exhausted w.seq)
    ∧ (w.cur = none → w.prev = none → w.answer g limit false
      = (.tile 0 w.seq, { w with seq := (w.seq + 1) % 2 ^ 32, prev := none, cur := some g, next := 1, limit })))
  ∧ (∀ (s u : State) (t n c i l : Nat) (a : ClaimAsk) (r : List Byte) (w w' : WorkCtr), u = s.advance t → u.ctxRuns n c = true →
    (u.ctx n c).asked = some a → u.head n c = some (i, r) → l = u.ctrLink a.counter → w = tget WorkCtr.init u.wctrs a.counter →
    (u.lnk l).fenced = false →
      (w.answer a.tag a.limit false = (.notReady, w') → exec (.claimAnswer t n c false none) s = .next u)
      ∧ (∀ k q d, w.answer a.tag a.limit false = (.tile k q, w') → w.cur = some d → d.same a.tag = true →
          exec (.claimAnswer t n c false none) s = .next (State.noteAdvance (State.claimTake (State.useSlot
            { u with wctrs := tput u.wctrs a.counter w' } l a.tag k) n c i r a k q) (u.linkPart l))))

/-- On a core that runs. CORE_CYCLE without an upset: the walk that has the array (a replay first) goes on by one cycle; without a walk the core waits. A disagreement of the duplicate sequencer fences the core with the class LOCKSTEP and a detail that the spec leaves open; an uncorrectable word fails the tile with ECC_UE; a parity error in a register of a lane that selects in the cycle, while parity is checked, counts, is recorded with CLOSE 3 and fails the tile. RESIDUE_INTERVAL_TIMEOUT 40 µs or more after an interval opened, with a walk on the array, closes it for comparison, else nothing changes. RESIDUE_COMPARE takes the oldest closed interval: with RES_EN and a lane that differs the failure is recorded (CLOSE 0 at a tile's end, else 2) and the tile fails; otherwise a tile's end passes to the drain, and the close of an interval changes nothing more. A core that does not run changes nothing. -/
def Obligations.ArrayCycles : Prop :=
  ∀ (s u : State) (t n : Nat), u = s.advance t →
    (u.coreRuns n = true →
      (∀ w, u.arrayWalk n = some w → exec (.coreCycle t n .none) s = .next (u.walkCycle n w none)
        ∧ (∀ a, w.inTile = true → exec (.coreCycle t n (.ecc true a)) s = .next (u.tileFails n w 0x11 a))
        ∧ (∀ lane v, w.selects lane = true → w.replay = true ∨ u.rowBusy n (w.row0 + w.m) = false →
            bit (u.rget (coreReg n 0x40)) 1 = true → v = u.resLast n lane w.op.ctx 3 →
            exec (.coreCycle t n (.parity lane)) s
              = .next (((u.bumpCore n 3).rput (coreReg n 0x44) (wd v)).tileFails n w 0x20 (w.detail v)))
        ∧ (∀ o, (u.core n).openAt = some o → u.now < o + 40_000 → exec (.residueIntervalTimeout t n) s = .next u)
        ∧ (∀ o k, (u.core n).openAt = some o → k = u.core n → o + 40_000 ≤ u.now → exec (.residueIntervalTimeout t n) s
            = .next (u.putCore n { k with
              closed := k.closed ++ [{ walk := w, tileEnd := false, pres := k.pres, ares := k.ares, excl := k.excl }]
              pres := []
              ares := []
              excl := 0
              openAt := none })))
      ∧ (u.arrayWalk n = none → exec (.coreCycle t n .none) s = .next (u.coreWaits n) ∧ exec (.residueIntervalTimeout t n) s = .next u)
      ∧ (∃ d, exec (.coreCycle t n .lockstep) s
          = .next (State.fenceCore { u with freeCount := u.freeCount + 1 } n { cls := 0x21, action := 3, unit := n, detail := d % 2 ^ 64 }))
      ∧ ((u.core n).closed = [] → exec (.residueCompare t n) s = .next u)
      ∧ (∀ x rest z, (u.core n).closed = x :: rest → z = u.putCore n { u.core n with closed := rest } →
        (∀ lane v, bit (u.rget (coreReg n 0x40)) 0 = true → x.mismatch = some lane →
          v = z.resLast n lane x.walk.op.ctx (if x.tileEnd then 0 else 2) → exec (.residueCompare t n) s
            = .next (((z.bumpCore n 2).rput (coreReg n 0x44) (wd v)).tileFails n x.walk 0x20 (x.walk.detail v)))
        ∧ (bit (u.rget (coreReg n 0x40)) 0 = false ∨ x.mismatch = none → exec (.residueCompare t n) s
            = .next (if x.tileEnd then z.tilePasses n x.walk else z))))
    ∧ (u.coreRuns n = false → ∀ e, exec (.coreCycle t n e) s = .next u ∧ exec (.drainRow t n e) s = .next u
        ∧ exec (.residueIntervalTimeout t n) s = .next u ∧ exec (.residueCompare t n) s = .next u ∧ exec (.publication t n) s = .next u)

/-- On a core that runs. DRAIN_ROW without an upset, with a tile at the head of the drain: when its outputs have room for the row and no word that its chain reads holds an uncorrectable error, the row goes through the drain chain, is counted, and the job moves on; without room nothing changes, and with such a word the tile fails with ECC_UE. An UPDATE at the head takes one row. An uncorrectable word fails what is being drained with ECC_UE. With nothing to drain nothing changes. PUBLICATION, with a context's UPDATE finished, no tile being replayed and no other context in the midst of a data macro-instruction: the codebook words are written and counted, registers loaded ahead are given up, and the context no longer waits; while another context is in its midst, a tile is replayed, or no context waits, nothing changes. -/
def Obligations.DrainRows : Prop :=
  ∀ (s u : State) (t n : Nat), u = s.advance t → u.coreRuns n = true →
    ((u.core n).drain = [] → ∀ e, exec (.drainRow t n e) s = .next u)
    ∧ (∀ j rest, (u.core n).drain = j :: rest →
      (j.tile = true → u.rowRoom n j.op (u.tileRow n j) = true → j.zero = true ∨ u.chainUe n j.op (u.tileRow n j) = none →
          exec (.drainRow t n .none) s
        = .next (State.jobNext ((u.drainSamples n j.op (u.tileRow n j) j.zero).bump64 (coreReg n 0x90) 1) n j 1))
      ∧ (∀ a, j.tile = true → u.rowRoom n j.op (u.tileRow n j) = true → j.zero = false → u.chainUe n j.op (u.tileRow n j) = some a →
          exec (.drainRow t n .none) s = .next (u.drainFails n j 0x11 a))
      ∧ (j.tile = true → u.rowRoom n j.op (u.tileRow n j) = false → exec (.drainRow t n .none) s = .next u)
      ∧ (j.tile = false → j.next ≠ 0 → j.op.opcode = 0x22 → exec (.drainRow t n .none) s = .next (u.updateRow n j))
      ∧ (j.tile = false → j.next ≠ 0 → j.op.opcode = 7 → exec (.drainRow t n .none) s = .next (u.elemRow n j))
      ∧ (∀ a, exec (.drainRow t n (.ecc true a)) s = .next (u.drainFails n j 0x11 a)))
    ∧ ((∀ c, c < 4 → (u.ctx n c).publish = none) → exec (.publication t n) s = .next u)
    ∧ (∀ o ws z k, (u.ctx n 0).publish = some (o, ws) → u.ctxFenced n 0 = false → (∀ d, 0 < d → d < 4 → u.midWalk n d = false) →
        (u.core n).replay = none → u.pubWords n o ws = (z, k) → exec (.publication t n) s
          = .next ((((z.putCore n { z.core n with ahead := none }).bump64 (coreReg n 0x328) k).modCtx n 0 (fun x =>
            { x with publish := none })).wake n))
    ∧ (∀ o, (u.ctx n 0).publish = some o → u.ctxFenced n 0 = false → (u.core n).replay ≠ none → exec (.publication t n) s = .next u)
    ∧ (∀ o d, (u.ctx n 0).publish = some o → u.ctxFenced n 0 = false → 0 < d → d < 4 → u.midWalk n d = true →
        exec (.publication t n) s = .next u)

/-- ARBITRATION_GRANT at a point that serves requests issues the winner of the requests there, with charge and tags, and settles the cursors; with no winner or the point not up, it only settles them. A correctable error in the buffer that the bytes of a write come from is recorded and the request issued, an uncorrectable one handled as the rules of errors say (log entry 174). The winner has its tags free; no request in budget is passed over for one that is not; one out of budget has SURPLUS; and no other candidate with free tags stands before it by class, run-dry time, requester and slot. READ_COMPLETION of a read in its turn delivers the bytes of device memory, or zeros and a report when it failed. WRITE_ACCEPT of a write in its turn stores its bytes at its address and nowhere else, retires it, and advances its stream, ingress writer, tap, channel job or access; out of its turn nothing changes. PAGE_MAP_ENTRY_READ in its turn gives the entry to its cursor. TAG_TIMEOUT retires a read of HBM 10 µs or more old with zeros, unless the stack's clock holds. STREAM_CANCEL_DONE frees a cancelling slot with nothing in flight. A number of no request changes nothing. -/
def Obligations.MemoryRequests : Prop :=
  (∀ (s u v : State) (t p : Nat), u = s.advance t → v = u.prepare →
    (∀ c, v.pointUp p = true → v.winner (v.candsAt p) = some c →
      (v.ringUe c.req = none → exec (.arbitrationGrant t p none) s = .next (v.issueReq c).prepare)
      ∧ (v.ringUe c.req = none → ∀ x, v.bufUnit c.req = some x →
          exec (.arbitrationGrant t p (some false)) s = .next (State.prepare (State.issueReq (State.raise
            { v with freeCount := v.freeCount + 1 }
            { cls := 0x10, action := 1, unit := x, detail := Config.freeNat v.freeCount % 2 ^ 64 }) c)))
      ∧ (∀ a e, v.ringUe c.req = some a → exec (.arbitrationGrant t p e) s
          = .next (v.issueErr c true (memUnit a) (some (memOffset a))).prepare))
    ∧ (v.pointUp p = false ∨ v.winner (v.candsAt p) = none → ∀ e, exec (.arbitrationGrant t p e) s = .next v))
  ∧ (∀ (u : State) (cs : List Cand) (c : Cand), u.winner cs = some c →
    c ∈ cs ∧ u.tagsFree c = true ∧ (∀ d ∈ cs, u.inBudget d = true → u.inBudget c = true)
    ∧ (u.inBudget c = false → nbit (u.regCfg c.req.reg c.req.path 3) 0 = true)
    ∧ ∀ d ∈ cs, u.tagsFree d = true → u.inBudget d = u.inBudget c →
        u.inBudget d = true ∨ nbit (u.regCfg d.req.reg d.req.path 3) 0 = true → keyBefore (u.candKey d) (u.candKey c) = false)
  ∧ (∀ (s u : State) (t id : Nat), u = s.advance t →
    (u.findReq id = none → (∀ x, exec (.readCompletion t id x) s = .next u) ∧ exec (.writeAccept t id) s = .next u
      ∧ (∀ x, exec (.pageMapEntryRead t id x) s = .next u) ∧ exec (.tagTimeout t id) s = .next u)
    ∧ (∀ q, u.findReq id = some q → q.write = false → q.path ≠ 2 → q.entry = none → (q.path ≤ 1 → u.oldest q = true) →
        (u.vaultLost q.addr = false → u.poisonedIn q.addr q.len = false →
          exec (.readCompletion t id .ok) s = .next ((u.dropReq id).deliver q (u.rd q.addr q.len) .good)
          ∧ ∀ r k, q.client = .strm r k → ((u.dropReq id).strm r k).active = true → ((u.dropReq id).strm r k).epoch = q.epoch →
              ((u.dropReq id).strm r k).cancelling = false →
              exec (.readCompletion t id .ok) s = .next ((u.dropReq id).strmArrive r k q.pos (u.rd q.addr q.len)))
        ∧ (∀ r k v, q.client = .strm r k → v = (u.dropReq id).readFault q .uncorrectable → (v.strm r k).active = true →
            (v.strm r k).epoch = q.epoch → (v.strm r k).cancelling = false →
            exec (.readCompletion t id .ue) s = .next ((v.strmPoison r k).strmArrive r k q.pos (List.replicate q.len 0))))
    ∧ (∀ q cur, u.findReq id = some q → q.entry = some cur →
        (u.oldest q = true → exec (.pageMapEntryRead t id .ok) s
          = .next ((u.dropReq id).entryDone q cur (ofBytesLE (u.rd q.addr q.len))))
        ∧ (u.oldest q = false → ∀ x, exec (.pageMapEntryRead t id x) s = .next u))
    ∧ (∀ q, u.findReq id = some q → q.write = false → q.path ≤ 1 →
        (q.since + 10_000 ≤ u.now → nbit u.clk.held q.path = false →
          exec (.tagTimeout t id) s = .next ((u.dropReq id).deliver q [] .timeout))
        ∧ (u.now < q.since + 10_000 ∨ nbit u.clk.held q.path = true → exec (.tagTimeout t id) s = .next u))
    ∧ (∀ q v, u.findReq id = some q → q.write = true → u.oldest q = true → (q.path = 2 → u.oldestPosted q = true) →
        v = (if q.path = 2 then ((u.storeReq q).dropReq id).flushMsgs else (u.storeReq q).dropReq id) →
        (∀ r k x, q.client = .strm r k → x = v.strm r k → x.active = true → x.epoch = q.epoch → exec (.writeAccept t id) s
          = .next ((((v.putStrm r k { x with accepted := x.accepted + q.len }).noteOut r { x with accepted := x.accepted + q.len }
              false).endIfDone r k).wake r))
        ∧ (∀ p, q.client = .ingress p → exec (.writeAccept t id) s = .next (v.ingAccepted p q.epoch q.data))
        ∧ (∀ k, q.client = .tap k → exec (.writeAccept t id) s = .next (v.tapAccepted k q.epoch q.len))
        ∧ (∀ c, q.client = .dma c → exec (.writeAccept t id) s = .next (v.jobAccepted c q.epoch q.len))
        ∧ (∀ a, q.client = .aux a → exec (.writeAccept t id) s = .next (v.auxAccepted a q.len)))
    ∧ (∀ q, u.findReq id = some q → q.write = true → u.oldest q = false ∨ q.path = 2 ∧ u.oldestPosted q = false →
        exec (.writeAccept t id) s = .next u)
    ∧ (∀ (q : Req) (a : Nat), q.path ≠ 2 → q.path ≠ 5 → u.vaultLost q.addr = false →
        u.hostOwn q = false ∨ u.protectedIn q.addr q.data.length = none → memByte (u.storeReq q).mem a
        = if q.addr ≤ a ∧ a < q.addr + q.data.length then q.data.getD (a - q.addr) 0 else memByte u.mem a))
  ∧ (∀ (s u : State) (t r k : Nat), u = s.advance t →
    ((u.strm r k).active = true → (u.strm r k).cancelling = true → (u.inFlight r k).isEmpty = true →
      exec (.streamCancelDone t r k) s = .next (u.endStrm r k true 1 (u.strm r k).cause))
    ∧ ((u.strm r k).active = false ∨ (u.strm r k).cancelling = false ∨ (u.inFlight r k).isEmpty = false →
      exec (.streamCancelDone t r k) s = .next u))

/-- STRIPE_RELEASE: the stripe of an unfolded source, in time and with its input in the plate, enters the release queue in its order of release time, deadline and source and is counted; with the queue full it waits and is counted; before its time nothing changes. SHARED_STRIPE_START of an idle shared instance takes a resumed stripe first, else the first of the queue with a slot of requester 144 that nothing holds. SHARED_STRIPE_DONE with nothing in work changes nothing, with every member read and its parameter sets there it publishes as far as credits go, and the last segment ends it. INLINE_SEGMENT_OFFER produces the tap lines that are due; without a frame, a line, a set or a credit it does no more; ready, it publishes the segment, counts it and goes on to the next. STALL_TIMEOUT sets the partition's stall bit after STALL_US without progress while a context waits. FRAME_RECORD_FINAL of a frame whose conditions are met judges the deadline (by its last output, or the moment the last other condition was met), rewrites the record, notifies the host and ends the frame; otherwise nothing changes. -/
def Obligations.Stripes : Prop :=
  (∀ (s u v : State) (t i fr j : Nat) (f : Flight) (r : Rel), u = s.advance t → u.foldLead i = i → u.group i = [i] →
    u.flight i fr = some f → f.source = i → f.released = j → f.stopped = false → u.eph.t0 ≠ none → u.eph.cutoff = none →
    u.live = true → (u.src i).kind ≠ 1 → j < (u.src i).stripes →
    r = { rel := u.relAt i f.expectAt j, dl0 := u.relAt i f.expectAt j + u.dlOff (u.src i).chain 0, source := i, frame := fr,
          stripe := j, lines := (u.src i).stripeHeight j } →
    v = { u with flights := u.flights.map (fun (g : Flight) =>
            if g.source = i ∧ g.frame = fr then { g with released := j + 1 } else g) } →
      (u.stripeIn f j = true → u.relAt i f.expectAt j ≤ u.now →
        (u.eph.queue.length < 1024 → exec (.stripeRelease t i fr j) s = .next (v.makeRelease r))
        ∧ (1024 ≤ u.eph.queue.length → exec (.stripeRelease t i fr j) s
            = .next (State.bumpEph { v with eph := { u.eph with stalled := u.eph.stalled ++ [r] } } 1)))
      ∧ (u.stripeIn f j = false ∨ u.now < u.relAt i f.expectAt j → exec (.stripeRelease t i fr j) s = .next u))
  ∧ (∀ (r : Rel) (q : List Rel) (d : Rel), d ∈ relInsert r q ↔ d = r ∨ d ∈ q)
  ∧ (∀ (s u v : State) (t : Nat), u = s.advance t → v = u.parkBusy → v.frontRuns = true → v.front.busy = none →
    (∀ f rest, v.front.resumed = f :: rest →
      exec (.sharedStripeStart t) s = .next { v with front := { v.front with busy := some f, resumed := rest } })
    ∧ (∀ r rest k w f, v.front.resumed = [] → v.eph.queue = r :: rest → v.frontSlot = some k →
        f = { rel := r, slot := k, epoch := 0, published := 0, poisoned := false, member := 0, tapped := 0, got := [] } →
        w = State.unstall { v with eph := { v.eph with queue := rest } } → exec (.sharedStripeStart t) s
          = .next (State.openFrontStrm (State.putBusy { w with flights := w.flights.map (fun (g : Flight) =>
              if (v.group r.source).contains g.source && g.frame == r.frame then
                { g with taken := r.stripe + 1, metAt := w.now } else g) } (some f)) f))
    ∧ (v.front.resumed = [] → v.eph.queue = [] ∨ v.frontSlot = none → exec (.sharedStripeStart t) s = .next v))
  ∧ (∀ (v : State) (k : Nat), v.frontSlot = some k → k < 5 ∧ (v.strm 144 k).active = false
      ∧ ∀ f, f ∈ v.front.parked ∨ f ∈ v.front.resumed → f.slot ≠ k)
  ∧ (∀ (s u : State) (t : Nat), u = s.advance t → u.frontAdvance.front.busy = none → exec (.sharedStripeDone t) s = .next u.frontAdvance)
  ∧ (∀ (s u v z : State) (t l k : Nat) (f f1 : FrontStripe) (bs : List Byte), u = s.advance t → v = u.frontAdvance →
    v.front.busy = some f → v.frontRuns = true → (v.group f.rel.source).length ≤ f.member →
    (∀ m ∈ v.group f.rel.source, v.setKnown m f.rel.frame = true) →
    l = v.chainFirst (v.src f.rel.source).chain → bs = (List.range f.rel.lines).flatMap (v.sharedLine f) →
    k = max 1 (ceilDiv bs.length (max 1 (v.link l).segBytes)) →
    (v.useFree (f.rel.lines * (v.group f.rel.source).length * 2 ^ 16)).sharedPublish l f bs k k = (z, f1) →
      exec (.sharedStripeDone t) s = .next (State.wakeAll
        (if k ≤ f1.published then (z.bump64 0xC_0080 1).putBusy none else z.putBusy (some f1))))
  ∧ (∀ (s u v : State) (t : Nat), u = s.advance t → v = u.inlTaps →
      v.front.inl = [] ∨ v.inlineSrc = none ∨ v.frontRuns = false → exec (.inlineSegmentOffer t) s = .next v)
  ∧ (∀ (s u v : State) (t src l : Nat) (i : InlineS) (rest : List InlineS), u = s.advance t → v = u.inlTaps →
    v.inlineSrc = some src → v.front.inl = i :: rest → l = v.chainFirst (v.src src).chain →
    v.segReady l = false ∨ v.setKnown src i.frame = false
      ∨ (∃ y, y < (v.src src).stripeHeight i.stripe ∧ v.inlLine src i (i.stripe * (v.src src).stripeLines + y) = false) →
      exec (.inlineSegmentOffer t) s = .next v)
  ∧ (∀ (s u v w : State) (t src l c0 h : Nat) (i : InlineS) (rest : List InlineS) (e : SrcEntry) (set : List Byte) (bad : Bool)
      (line : Nat → List Int),
    u = s.advance t → v = u.inlTaps → v.inlineSrc = some src → v.front.inl = i :: rest → e = v.src src → l = v.chainFirst e.chain →
    h = e.stripeHeight i.stripe → c0 = i.seg * i.segW → set = v.frameSet src i.frame → v.setKnown src i.frame = true →
    v.frontRuns = true → v.segReady l = true → (∀ y, y < h → v.inlLine src i (i.stripe * e.stripeLines + y) = true) →
    (∀ y, line y = v.encodeLine set (v.mergeLine src set (i.stripe * e.stripeLines + y)
      (((List.range e.exposures).map (fun x =>
        (i.lines.find? (fun p => p.1 == (x, i.stripe * e.stripeLines + y))).map (·.2))).zipIdx.map
          (fun p => match p.1 with
            | some bs => v.linLine src set p.2 bs
            | none => [])))) →
    bad = (v.setBad src i.frame || i.bad.any (fun y => decide (i.stripe * e.stripeLines ≤ y) &&
      decide (y < i.stripe * e.stripeLines + h))) →
    i.seg + 1 ≠ ceilDiv e.width i.segW → i.stripe < e.stripes →
    w = (v.putSegment l (v.frontTag src i.frame i.stripe h i.seg false bad) ((List.range (min i.segW (e.width - c0))).map (fun c =>
      (c * e.stripeLines * dtSamples e.dt * encBytes set, (List.range h).flatMap (fun y =>
        encPack (encBytes set) (((line y).drop ((c0 + c) * dtSamples e.dt)).take (dtSamples e.dt))))))).bump64 0xC_0088 1 →
      exec (.inlineSegmentOffer t) s = .next (State.wakeAll (State.inlDrain
        { w with front := { w.front with inl := { i with seg := i.seg + 1 } :: rest } } e.port src)))
  ∧ (∀ (s u : State) (t p since : Nat), u = s.advance t → tfind u.eph.waitSince p = some since → p < 64 →
      fld (u.rget 0x40_0020) 0 16 ≠ 0 → u.partWaits p = true →
      (since + fld (u.rget 0x40_0020) 0 16 * 1000 ≤ u.now → exec (.stallTimeout t p) s
        = .next (State.noteEvt { u with eph := { u.eph with stall := nset u.eph.stall p } } u.evtStatus))
      ∧ (u.now < since + fld (u.rget 0x40_0020) 0 16 * 1000 → exec (.stallTimeout t p) s = .next u))
  ∧ (∀ (s u w z : State) (t i fr : Nat) (f0 f : Flight), u = s.advance t → u.flight i fr = some f0 →
    f = { f0 with
      flags := if u.lateFrame f0 = true then f0.flags ||| fDeadline else f0.flags
      recWritten := true } →
    w = ((if u.lateFrame f0 = true then u.bumpEph 3 else u).putFlight f).putRec f →
    z = (if u.lateFrame f0 = true ∨ f.lateSegs ≠ 0 then w.missRecord f else w).notify f →
      (u.finalReady f0 = true → exec (.frameRecordFinal t i fr) s
        = .next { z with flights := z.flights.filter (fun g => !(g.source == i && g.frame == fr)) })
      ∧ (u.finalReady f0 = false → exec (.frameRecordFinal t i fr) s = .next u))
  ∧ (∀ (u : State) (f : Flight) (off : Nat), off = (u.src f.source).deadlineOffset →
    (u.lateFrame f = true ↔ off ≠ 0 ∧ match f.lastOut with
      | some a => f.expectAt + off < a
      | none => f.expectAt + off < f.metAt))
  ∧ (∀ (s u : State) (t i fr : Nat), u = s.advance t → u.flight i fr = none → exec (.frameRecordFinal t i fr) s = .next u)

/-- TX_SLOT of an enabled stream below 16 on a running port after step 14. When the next slot of the frame in work is due and no waiting frame was due before it, that slot is taken: a line up to the stream's height, after it the Frame End with the embedded line where there is one. With none in work and a waiting frame due, the Frame Start is sent, with the embedded line where there is one. A waiting frame due before the next slot of the one in work is skipped and counted, and its queued lines leave the queue. With nothing due, or the port or stream not running, nothing changes. TX_PACKET_SENT ends the packet being sent, counts the bytes of a line or of embedded data, finishes the frame at its Frame End, and starts the next packet; with nothing being sent nothing changes. -/
def Obligations.TransmitSlots : Prop :=
  (∀ (s u : State) (t p k : Nat), u = s.advance t →
    (u.txRuns p = true → (u.txs p k).en = true → k < 16 → u.past14 = true →
      (∀ fr sof i v, (u.txStrm p k).cur = some (fr, sof, i) → i ≤ (u.txs p k).outH + 1 → (u.txs p k).slotAt sof i ≤ u.now →
        (∀ f, u.txWaits p k = some f → (u.txs p k).slotAt sof i ≤ (u.txs p k).slotAt f.startAt 0) →
        v = u.putTxStrm p k { u.txStrm p k with cur := some (fr, sof, i + 1) } →
          (i ≤ (u.txs p k).outH → exec (.txSlot t p k) s = .next (v.txLineSlot p k fr (i - 1)))
          ∧ (i = (u.txs p k).outH + 1 → exec (.txSlot t p k) s = .next (v.txSend p
              ((if (u.txs p k).embPos = 1 ∨ (u.txs p k).embPos = 2 then [{ strm := k, frame := fr, kind := .embedded }] else [])
                ++ [{ strm := k, frame := fr, kind := .frameEnd }]))))
      ∧ (∀ f, (u.txStrm p k).cur = none → u.txWaits p k = some f → (u.txs p k).slotAt f.startAt 0 ≤ u.now →
          exec (.txSlot t p k) s = .next ((u.putTxStrm p k { u.txStrm p k with cur := some (f.frame, f.startAt, 1), fills := 0 }).txSend p
            ({ strm := k, frame := f.frame, kind := .frameStart }
              :: (if (u.txs p k).embPos = 2 then [{ strm := k, frame := f.frame, kind := .embedded }] else []))))
      ∧ (∀ fr sof i f, (u.txStrm p k).cur = some (fr, sof, i) → u.txWaits p k = some f → (u.txs p k).slotAt f.startAt 0 ≤ u.now →
          (u.txs p k).slotAt f.startAt 0 < (u.txs p k).slotAt sof i →
          exec (.txSlot t p k) s = .next (((u.txDrop p k f.frame).bumpTx p 5).endLeft p k f.source f.frame))
      ∧ ((∀ fr sof i, (u.txStrm p k).cur = some (fr, sof, i) → (u.txs p k).outH + 1 < i ∨ u.now < (u.txs p k).slotAt sof i) →
          (∀ f, u.txWaits p k = some f → u.now < (u.txs p k).slotAt f.startAt 0) → exec (.txSlot t p k) s = .next u))
    ∧ (u.txRuns p = false ∨ (u.txs p k).en = false ∨ 16 ≤ k ∨ u.past14 = false → exec (.txSlot t p k) s = .next u))
  ∧ (∀ (s u v : State) (t p : Nat), u = s.advance t → v = u.putPort p { u.port p with sending := none } →
    ((u.port p).sending = none → exec (.txPacketSent t p) s = .next u)
    ∧ (∀ k f, (u.port p).sending = some { strm := k, frame := f, kind := .frameStart } → exec (.txPacketSent t p) s = .next (v.txNext p))
    ∧ (∀ k f d, (u.port p).sending = some { strm := k, frame := f, kind := .line d } →
        exec (.txPacketSent t p) s = .next ((v.bump64 (0xE_0180 + 0x1000 * p) d.length).txNext p))
    ∧ (∀ k f, (u.port p).sending = some { strm := k, frame := f, kind := .embedded } →
        exec (.txPacketSent t p) s = .next ((v.bump64 (0xE_0180 + 0x1000 * p) 64).txNext p))
    ∧ (∀ k f, (u.port p).sending = some { strm := k, frame := f, kind := .frameEnd } →
        exec (.txPacketSent t p) s = .next ((if (v.txStrm p k).sends f = true then v.txEnd p k f else v).txNext p)))

/-- LINK_UP of a link that may train, at generation 1 to 5 and a width of the list, sets both. LINK_DOWN of a link that is up resets the configuration space, counts, drops what the host waits for, and ends every outstanding read with cause 6. HOT_RESET resets the configuration space. D3HOT enters or leaves D3hot. A configuration request on a link that is up is answered with RRS while that lasts, then with the data: DWORD 0 is vendor and device 0x9440, the serial number capability holds IDENT_SERIAL, an absent capability is not found, and a Command write sets its two bits. BAR0_BAD is counted and a read answered Unsupported Request. BAR2_READ answers the staging region at once; of memory it asks for an access, whose data is answered with zeros for protected bytes. BAR2_WRITE writes the staging region at once, asks for an access to memory, and drops a poisoned one, which AER shows. An offset that reaches no memory after step 14 reads zeros and is counted. PCIE_COMPLETION ends its read with the data, or with the cause of its status; COMPLETION_TIMEOUT ends one that is old enough with cause 4, unless disabled. Without a link, or for an unknown tag, nothing changes. -/
def Obligations.HostLink : Prop :=
  ∀ (s u : State) (t : Nat), u = s.advance t →
    (∀ g w, u.linkMayTrain = true → u.host.linkUp = false → 1 ≤ g → g ≤ 5 → w ∈ [1, 2, 4, 8, 16] → exec (.linkUp t g w) s
      = .next (State.noteEvt { u with host := { u.host with linkUp := true, gen := g, width := w } } u.evtStatus))
    ∧ (u.host.linkUp = true → exec (.linkDown t) s = .next (u.host.reads.foldl (fun z r => z.endRead r (some 6) []) (State.bumpHost
        (State.dropInbound { u with host := { u.host with linkUp := false, gen := 0, width := 0, cfg := CfgSpace.init } }) 4)))
    ∧ (u.host.linkUp = true → exec (.hotReset t) s = .next (State.dropInbound { u with host := { u.host with cfg := CfgSpace.init } }))
    ∧ (∀ b, u.host.linkUp = true → u.boot.rrs = false →
        exec (.d3hot t b) s = .next (State.flushMsix { u with host := { u.host with cfg := { u.host.cfg with d3 := b } } }))
    ∧ (∀ op, u.host.linkUp = true → u.boot.rrs = true → exec (.pcieConfigRequest t op) s = .next (u.out (.cfgReply none)))
    ∧ (u.host.linkUp = true → u.boot.rrs = false → exec (.pcieConfigRequest t (.read 0)) s
          = .next ((u.bump64 0x10_0188 4).out (.cfgReply (some (Config.pciVendor.toNat + 0x9440 * 2 ^ 16))))
        ∧ exec (.pcieConfigRequest t (.capability true 3 4)) s
          = .next ((u.freeW.2.bump64 0x10_0188 4).out (.cfgReply (some (u.rget 0x100).toNat)))
        ∧ exec (.pcieConfigRequest t (.capability true 3 8)) s
          = .next ((u.freeW.2.bump64 0x10_0188 4).out (.cfgReply (some (u.rget 0x104).toNat)))
        ∧ ∀ e id off, (capIds e).contains id = false → exec (.pcieConfigRequest t (.capability e id off)) s = .next (u.out (.cfgAbsent id)))
    ∧ (∀ m b, u.host.linkUp = true → u.boot.rrs = false → exec (.pcieConfigRequest t (.command m b)) s
        = .next ((State.flushMsix (State.bump64
            { u with host := { u.host with cfg := { u.host.cfg with memEn := m, busMaster := b } } } 0x10_0180 4)).out (.cfgReply (some 0))))
    ∧ (∀ a n, u.host.linkUp = true → exec (.bar0Bad t a true n) s
          = .next (if u.barUp = true then (u.bump64 0x10_0180 n).bumpHost 0 else u)
        ∧ exec (.bar0Bad t a false n) s = .next ((if u.barUp = true then u.bumpHost 0 else u).out (.unsupported a)))
    ∧ (∀ a n x, u.barUp = true → n ≠ 0 → u.stagingOpen = false ∨ 0x1000_0000 < a + n →
        (u.bar2Mem a n = true → exec (.bar2Read t a n x) s = .next (u.addAux (.bar2 3 a) false false false a n []))
        ∧ (u.bar2Mem a n = false → exec (.bar2Read t a n x) s
            = .next (((if u.past14 = true then u.bumpHost 1 else u).bump64 0x10_0188 n).out (.readBytes 3 a (List.replicate n 0) false))))
    ∧ (∀ a n, u.barUp = true → n ≠ 0 → u.stagingOpen = true → a + n ≤ 0x1000_0000 → exec (.bar2Read t a n .ok) s
        = .next ((u.bump64 0x10_0188 n).out (.readBytes 3 a (u.rd (stageBase + a) n) false)))
    ∧ (∀ a off, a.use = .bar2 3 off → a.len ≤ u.mps → u.auxRead a = (u.bump64 0x10_0188 a.len).out
        (.readBytes 3 off (u.bar2Mask a.addr (gotBytes a.got 0 a.len)) a.bad.isSome))
    ∧ (∀ a bs v, u.barUp = true → v = u.bump64 0x10_0180 bs.length →
        exec (.bar2Write t a bs true) s = .next { v with host := { v.host with cfg := { v.host.cfg with poisonedTlp := true } } }
        ∧ (bs ≠ [] → v.stagingOpen = false ∨ 0x1000_0000 < a + bs.length →
            (v.bar2Mem a bs.length = true → exec (.bar2Write t a bs false) s
              = .next (v.addAux (.bar2 3 a) true false false a bs.length bs))
            ∧ (v.bar2Mem a bs.length = false → exec (.bar2Write t a bs false) s = .next (if v.past14 = true then v.bumpHost 1 else v))))
    ∧ (∀ tag r v bs, u.host.reads.find? (fun r => r.tag == tag) = some r →
        (u.host.linkUp = true → v = u.bump64 0x10_0180 bs.length →
          (bs.length = r.len → exec (.pcieCompletion t tag .ok bs) s = .next (v.endRead r none bs))
          ∧ (bs.length ≠ r.len → exec (.pcieCompletion t tag .ok bs) s = .next (v.endRead r (some 5) bs))
          ∧ exec (.pcieCompletion t tag .ur bs) s = .next (v.endRead r (some 1) bs)
          ∧ exec (.pcieCompletion t tag .ca bs) s = .next (v.endRead r (some 2) bs)
          ∧ exec (.pcieCompletion t tag .poisoned bs) s = .next (v.endRead r (some 3) bs)
          ∧ exec (.pcieCompletion t tag .malformed bs) s = .next (v.endRead r (some 5) bs))
        ∧ (u.host.cfg.ctoDisable = false → r.since + ctoNs u.host.cfg.ctoRange ≤ u.now →
            exec (.completionTimeout t tag) s = .next ((u.bumpHost 5).endRead r (some 4) []))
        ∧ (u.host.cfg.ctoDisable = true ∨ u.now < r.since + ctoNs u.host.cfg.ctoRange → exec (.completionTimeout t tag) s = .next u))
    ∧ (∀ tag bs x, u.host.reads.find? (fun r => r.tag == tag) = none →
        exec (.pcieCompletion t tag x bs) s = .next u ∧ exec (.completionTimeout t tag) s = .next u)
    ∧ (u.host.linkUp = true → u.barUp = false → ∀ a n x, exec (.bar2Read t a n x) s = .next (u.out (.unsupported a)))
    ∧ (u.host.linkUp = false → exec (.linkDown t) s = .next u ∧ exec (.hotReset t) s = .next u ∧ (∀ b, exec (.d3hot t b) s = .next u)
        ∧ (∀ op, exec (.pcieConfigRequest t op) s = .next u) ∧ (∀ a b n, exec (.bar0Bad t a b n) s = .next u)
        ∧ (∀ a n x, exec (.bar2Read t a n x) s = .next u) ∧ ∀ a bs e, exec (.bar2Write t a bs e) s = .next u)

/-- DESCRIPTOR_FETCH of a running channel that may fetch n descriptors, n above 0, completes: it asks for a read of 32 n bytes of the ring on the host link; with n = 0 nothing changes. DESCRIPTOR_RECEIVED of a running channel completes with the next fetched descriptor: one that is not sound is refused, one whose device range is protected halts on cause 0x20, a sound XFER one starts its copy once the bytes of earlier ones have all been issued, and a sound SOURCE one waits. DMA_BEAT completes: it offers on the path a beat of the channel chosen, and none when none is ready or may go; the chosen one has a beat ready there, is in share when any is, else has SURPLUS, and none equally in share stands before it by priority, run-dry time and number. SOURCE_ACCEPT of a waiting SOURCE descriptor, of an unscheduled source or from half a period before its slot, completes: it counts the slots missed and a late frame, opens the frame in the named plate and starts the line copies, or in place closes the frame at once. A channel with nothing fetched, or not running, changes nothing. -/
def Obligations.DmaEngine : Prop :=
  (∀ (s u : State) (t c n a : Nat) (x : Chan), u = s.advance t → x = u.chan c → c < 32 → x.state = .running → x.fetching = false →
    u.chKind c = 1 ∨ u.chKind c = 2 → u.dmaFetches = true → a = u.descAddr c x.fetchAt →
    n = min (min (8 - (x.fetched.length + x.jobs.length)) ((x.pi + 65536 - x.fetchAt) % 65536))
      (min (2 ^ u.drLog c - x.fetchAt % 2 ^ u.drLog c) (min ((512 - a % 512) / 32) (u.mrrs / 32))) →
      (n ≠ 0 → exec (.descriptorFetch t c) s = .next ((u.putChan c { x with fetching := true }).addAux (.descs c x.fetchAt n)
        false true (bit (u.chCfg c) 5) a (32 * n) []))
      ∧ (n = 0 → exec (.descriptorFetch t c) s = .next u))
  ∧ (∀ (s u : State) (t c : Nat) (x : Chan), u = s.advance t → x = u.chan c →
    (x.fetched = [] ∨ x.state ≠ .running → exec (.descriptorReceived t c) s = .next u ∧ exec (.sourceAccept t c) s = .next u)
    ∧ (∀ d rest ok range j, x.fetched = d :: rest → x.state = .running → u.dmaFetches = true → d.raw.length = 32 →
        u.chKind c = 1 ∧ x.clear = true ∧ ok = xferOk d.raw ∨ u.chKind c = 2 ∧ x.sound = true ∧ ok = u.sourceOk c d.raw →
        range = u.descRange c d.raw → j = Job.empty x.nextJob d →
        (ok = false → exec (.descriptorReceived t c) s = .next (u.addJob c { j with refused := true }))
        ∧ (∀ a, ok = true → u.protectedIn range.1 range.2 = some a →
            exec (.descriptorReceived t c) s = .next (State.settleChan (State.failJob (u.putChan c { x with
              fetched := rest, jobs := x.jobs ++ [j], nextJob := x.nextJob + 1 }) c x.nextJob 0 0x20 a true) c))
        ∧ (ok = true → u.protectedIn range.1 range.2 = none → u.chKind c = 1 → nbit (leAt d.raw 0 2) 2 = false ∨ x.jobs = [] →
            exec (.descriptorReceived t c) s = .next (u.addJob c (xferJob x.nextJob d)))
        ∧ (ok = true → u.protectedIn range.1 range.2 = none → u.chKind c = 2 ∨ nbit (leAt d.raw 0 2) 2 = true ∧ x.jobs ≠ [] →
            exec (.descriptorReceived t c) s = .next u))
    ∧ (∀ d rest src e fr k expect late w y v j, x.fetched = d :: rest → x.state = .running → u.chKind c = 2 → x.sound = true →
        1 < d.raw.length → u.sourceOk c d.raw = true → u.protectedIn (u.descRange c d.raw).1 (u.descRange c d.raw).2 = none →
        u.accepting = true → src = leAt d.raw 4 2 → e = u.src src →
        (e.period = 0 ∧ k = (u.slots src).nextFree ∧ expect = u.now
            ∧ w = u.putSlots src { u.slots src with nextFree := (u.slots src).nextFree + 1 })
          ∨ (e.period ≠ 0 ∧ 2 * u.expectOf src (u.slots src).nextSlot ≤ 2 * u.now + e.period ∧ k = (u.slotNow src).toNat
            ∧ expect = u.expectOf src k ∧ w = (State.bumpN (fun s => s.bumpChan c 2) (k - (u.slots src).nextSlot) u).putSlots src
              { u.slots src with nextSlot := k + 1, opened := some k }) →
        fr = k % 2 ^ 32 → late = (e.fsWindow != 0 && decide (expect + e.fsWindow * 1000 < u.now)) →
        y = w.openFrame src fr true (e.plateAt (leAt d.raw 6 1)) expect (leAt d.raw 2 2) late ((u.now - expect) / 1000) 0 →
        v = (if late = true then y.bumpChan c 1 else y) →
        j = { Job.empty x.nextJob d with irq := nbit (leAt d.raw 0 2) 0, frame := some (src, fr) } →
          (e.plateHost = true → exec (.sourceAccept t c) s
            = .next ((v.closeHost src fr (e.height * e.exposures) false).addJob c j))
          ∧ (e.plateHost = false → exec (.sourceAccept t c) s = .next (v.addJob c { j with
              unit := e.lineBytes
              copies := (List.range (e.height * e.exposures)).map (fun i =>
                (leAt d.raw 8 8 + (i % max 1 e.exposures * e.height + i / max 1 e.exposures) * leAt d.raw 0x10 4,
                  e.lineAt (e.plateAt (leAt d.raw 6 1)) (i % max 1 e.exposures) (i / max 1 e.exposures))) }))))
  ∧ (∀ (s u : State) (t p : Nat), u = s.advance t →
    (∀ c b, u.chosenBeat p = some (c, b) → exec (.dmaBeat t p) s
      = .next { u with mems := { u.mems with offers := tput u.mems.offers p c } })
    ∧ (u.chosenBeat p = none → exec (.dmaBeat t p) s = .next { u with mems := { u.mems with offers := tdel u.mems.offers p } })
    ∧ (u.chosenBeat p = none ↔ ∀ c b, c < 32 → u.chanBeat c p = some b → u.inShare c p b.charge = false ∧ bit (u.chCfg c) 4 = false)
    ∧ ∀ c b, u.chosenBeat p = some (c, b) → c < 32 ∧ u.chanBeat c p = some b ∧ (u.inShare c p b.charge = true ∨ bit (u.chCfg c) 4 = true)
        ∧ ∀ d x, d < 32 → u.chanBeat d p = some x →
            (u.inShare d p x.charge = true → u.inShare c p b.charge = true)
            ∧ (u.inShare d p x.charge = u.inShare c p b.charge → u.inShare d p x.charge = true ∨ bit (u.chCfg d) 4 = true →
                u.beatBefore (d, x) (c, b) = false))

/-- A report that no limit holds back advances the sequence number by 1 modulo 2^32 and writes, in the log's entry of that number modulo 256, the record with the class, action, unit, time, detail, frame and flags of the report; the other 255 entries stay. One that is held back leaves the log and the sequence number as they are. In both cases nothing else changes but counters and registers, outputs, pending vectors and interrupts, and the instants that later limits are measured from. A report of a unit that is fenced is held back and counted. -/
def Obligations.RecordWritten : Prop :=
  ∀ (s u : State) (r : Report) (t q : Nat), u = s.raiseAt r t → q = (s.flt.seq + 1) % 2 ^ 32 →
    (∀ b, s.suppressed r = (false, b) → u.flt.seq = q
      ∧ tfind u.flt.log (q % 256) = some {
          seq := q, cls := r.cls, action := r.action, unit := r.unit, time := t, detail := r.detail % 2 ^ 64, frame := r.frame
          flags := b2n (classNmi r.cls r.action) + 2 * b2n r.frame.isSome + 4 * b2n r.replayed + 8 * b2n r.hasCtx + 256 * (r.scope % 4) }
      ∧ ∀ k, k ≠ q % 256 → tfind u.flt.log k = tfind s.flt.log k)
    ∧ (∀ b, s.suppressed r = (true, b) → u.flt.seq = s.flt.seq ∧ u.flt.log = s.flt.log)
    ∧ (s.unitFenced r = true → s.suppressed r = (true, true))
    ∧ Reports s u

/-- SCRUB_READ of a protected word while scrubbing is on: read well nothing changes but the end of a pass at the last word, an error that can be corrected raises ECC_CE, one that cannot marks the word and raises SCRUB_UE (the order of the words is the model's, log entry 33). HANDSHAKE_TIMEOUT while the timebase runs, of a kind 0 or 1, fences the core at the position, of a kind 2 to 5 every core of the compute die that it names itself or by its memory-side die, with the die, position and kind as detail. FUSE_PROGRAM_DONE of the word in work: the bits of the request that took are programmed, a bit that did not take gives the result 2, and the next request starts. Otherwise nothing changes. -/
def Obligations.RepairWork : Prop :=
  (∀ (s u : State) (t a : Nat), u = s.advance t →
    (u.live = true → u.boot.memDone = true → bit (u.rget 0x6_0010) 16 = true → scrubbed a = true →
      (a ≠ scrubLast → u.poison.contains a = false →
        exec (.scrubRead t a .ok) s = .next u
        ∧ exec (.scrubRead t a .ce) s = .next (u.raiseEcc 0x10 a)
        ∧ exec (.scrubRead t a .ue) s = .next (State.raiseEcc { u with poison := a :: u.poison } 0x12 a))
      ∧ (a ≠ scrubLast → u.poison.contains a = true → ∀ x, exec (.scrubRead t a x) s = .next (u.raiseEcc 0x12 a))
      ∧ (a = scrubLast → u.poison.contains a = false → exec (.scrubRead t a .ok) s = .next { u with flt := { u.flt with
          scrubPasses := (u.flt.scrubPasses + 1) % 2 ^ 64, scrubAt := u.now } }))
    ∧ (u.live = false ∨ u.boot.memDone = false ∨ bit (u.rget 0x6_0010) 16 = false ∨ scrubbed a = false →
        ∀ x, exec (.scrubRead t a x) s = .next u))
  ∧ (∀ (s u : State) (t d p k : Nat), u = s.advance t →
    (u.timebaseRuns = true → bit (u.rget 0x6_0014) 16 = true → p < 36 →
      (d < 4 → k ≤ 1 → exec (.handshakeTimeout t d p k) s
        = .next (u.fenceCore (36 * d + p) { cls := 0x22, action := 3, unit := 36 * d + p, detail := d + p * 16 + k * 4096 }))
      ∧ (d < 8 → 2 ≤ k → k < 6 → exec (.handshakeTimeout t d p k) s
        = .next (u.fenceDie (d % 4) { cls := 0x22, action := 3, unit := 0x1000 + d, detail := d + p * 16 + k * 4096 })))
    ∧ (u.timebaseRuns = false ∨ bit (u.rget 0x6_0014) 16 = false ∨ 8 ≤ d ∨ (4 ≤ d ∧ k ≤ 1) ∨ 36 ≤ p ∨ 6 ≤ k → exec (.handshakeTimeout t d p k) s = .next u))
  ∧ (∀ (s u v : State) (t : Nat) (w : Word) (r : FuseReq), u = s.advance t →
    (u.sec.busy = none → exec (.fuseProgramDone t w) s = .next u)
    ∧ (u.sec.busy = some r → v = u.burn { r with value := r.value &&& w.toNat } →
      (r.value &&& w.toNat = r.value → exec (.fuseProgramDone t w) s = .next (State.fuseWork { v with sec := { v.sec with
          busy := none, result := 0, debugEn := v.sec.debugEn && !v.debugDisable } }))
      ∧ ((u.fuse r.word).toNat ||| (r.value &&& w.toNat) ≠ (u.fuse r.word).toNat ||| r.value →
          exec (.fuseProgramDone t w) s = .next (State.fuseWork { v with sec := { v.sec with
            busy := none, result := 2, svnGoal := none, debugEn := v.sec.debugEn && !v.debugDisable } }))))
  ∧ (∀ (u : State) (r : FuseReq) (w : Nat), w < 128 →
      (u.burn r).fuse w = if w = r.word then u.fuse w ||| BitVec.ofNat 32 r.value else u.fuse w)

/-- With VDD_1V8 supplying the device and no instruction current that holds reset: BYPASS shifts one bit 0, IDCODE shifts 32 bits (1, the manufacturer's code, part 0x9440, version 1), SAMPLE/PRELOAD becomes current, TEST_LOGIC_RESET makes IDCODE current, and nothing else changes. EXTEST, CLAMP and HIGHZ put a running device into reset, with every register at its reset value and memory empty. When such an instruction is followed by another and nothing else holds the device, it leaves reset with the straps last latched (log entry 35). DBG_ACCESS with debug closed shifts one bit 0; with debug open the first one notes the use, and registers are read and written as MGMT does, memory by an access of its own. Without VDD_1V8 nothing changes. -/
def Obligations.Jtag : Prop :=
  ∀ (s u : State) (t : Nat), u = s.advance t →
    (u.jtagUp = true → jtagHolds u.jtag = false →
      exec (.bypass t) s = .next (State.out { u with jtag := .bypass } (.tdo 1 0))
      ∧ exec (.idcode t) s = .next (State.out { u with jtag := .idcode }
          (.tdo 32 (1 + 2 * Config.jedecMfr.toNat + 0x9440 * 2 ^ 12 + 2 ^ 28)))
      ∧ exec (.samplePreload t) s = .next { u with jtag := .samplePreload }
      ∧ exec (.testLogicReset t) s = .next { u with jtag := .idcode }
      ∧ (u.held = false → u.aon.powered = true → ∀ cmd j, (cmd, j) ∈ [(Instr.extest t, JtagInstr.extest), (.clamp t, .clamp),
            (.highz t, .highz)] → ∃ z, exec cmd s = .next z ∧ z.held = true ∧ z.jtag = j ∧ z.chr = u.chr ∧ z.mgmt = u.mgmt
          ∧ z.aon = { u.aon with causes := u.aon.causes ||| 2 } ∧ (∀ a, z.rget a = resetVal a) ∧ (∀ a, memByte z.mem a = 0))
      ∧ (∀ v op, v = { u with jtag := .dbgAccess } → v.pathUp .dbg = false → exec (.dbgAccess t op) s = .next (v.out (.tdo 1 0)))
      ∧ (∀ v w, v = { u with jtag := .dbgAccess } → w = { v with sec := { v.sec with
          debugUsed := v.sec.debugUsed || !v.sec.debugSeen, debugSeen := true } } → v.pathUp .dbg = true →
          (∀ a, exec (.dbgAccess t (.readReg a)) s = .next (w.readOut .dbg a))
          ∧ (∀ a x, exec (.dbgAccess t (.writeReg a x)) s = .next (w.writeIn .dbg a x))
          ∧ (∀ a n, n ≠ 0 → (coreLocal a n && w.past14) = true ∧ w.diePowered (dieOf ((a - localAt 0) / 0x20_0000)) = true
                ∨ (coreLocal a n && w.past14) = false ∧ w.stagingOpen = false ∧ w.bar2Mem a n = true →
              exec (.dbgAccess t (.readMem a n)) s = .next (w.addAux (.bar2 2 a) false false false a n []))
          ∧ (∀ a bs, bs ≠ [] → w.stagingOpen = false → w.bar2Mem a bs.length = true →
              exec (.dbgAccess t (.writeMem a bs)) s = .next (w.addAux (.bar2 2 a) true false false a bs.length bs))))
    ∧ (u.jtagUp = true → jtagHolds u.jtag = true → State.mayRelease { u with jtag := .idcode } = true →
        exec (.testLogicReset t) s = .next (State.release { u with jtag := .idcode } u.boot.straps))
    ∧ (u.jtagUp = false → ∀ cmd ∈ [Instr.bypass t, .idcode t, .samplePreload t, .extest t, .clamp t, .highz t, .testLogicReset t],
        exec cmd s = .next u)

/-- Out of reset with the port served. MGMT_WRITE of four address bytes, aligned, and whole words sets the address and writes the words in turn, up to the length limit; a misaligned or short one only sets ERR. MGMT_READ answers up to the limit the bytes of the registers from the address on, but in I3C less than 4 µs after the write all 0xFF with ERR. MGMT_IBI_RETRY 1 ms after an interrupt that was not taken sends it again. ENEC and DISEC set the enable by bit 0. RSTDAA takes the dynamic address, ENTDAA and SETDASA give one to a port without (SETDASA at the static address), SETNEWDA changes it. GETPID, GETBCR, GETDCR, GETMWL and GETMRL answer their values to a port with a dynamic address; GETSTATUS answers two bytes that the spec leaves open (log entry 5). SETMWL and SETMRL set the limits, 4,096 at most. Another direct code is not acknowledged, another broadcast code ignored. Every code makes the port I3C; a direct one without a dynamic address is not acknowledged (log entry 21). -/
def Obligations.MgmtPort : Prop :=
  (∀ (s u v : State) (t : Nat), u = s.advance t → u.pathUp .mgmt = true → v = u.mgmtUse →
    (∀ d, 4 ≤ d.length → leAt d 0 4 % 4 = 0 → d.length % 4 = 0 → exec (.mgmtWrite t d) s
      = .next (State.mgmtWords { v with mgmt := { v.mgmt with addr := some (leAt d 0 4), addrAt := v.now } }
          ((min d.length u.mgmt.mwl - 4) / 4) (leAt d 0 4) (d.drop 4)))
    ∧ (∀ d, d.length < 4 ∨ leAt d 0 4 % 4 ≠ 0 → exec (.mgmtWrite t d) s = .next { v with mgmt := { v.mgmt with err := true } })
    ∧ (∀ (w : State) (n a : Nat) (bs : List Byte), w.mgmtWords 0 a bs = w ∧ w.mgmtWords (n + 1) a bs
        = (w.writeIn .mgmt a (BitVec.ofNat 32 (leAt bs 0 4))).mgmtWords n (if mgmtStays a = true then a else a + 4) (bs.drop 4))
    ∧ (∀ n, u.mgmt.dynAddr = none ∨ v.mgmt.addrAt + 4000 ≤ v.now → exec (.mgmtRead t n) s
      = .next ((v.mgmtGather (ceilDiv (min n u.mgmt.mrl) 4) (v.mgmt.addr.getD 0)).2.out (.mgmtData
          ((v.mgmtGather (ceilDiv (min n u.mgmt.mrl) 4) (v.mgmt.addr.getD 0)).1.take (min n u.mgmt.mrl)))))
    ∧ (∀ n a, u.mgmt.dynAddr ≠ none → u.mgmt.addr = some a → v.now < v.mgmt.addrAt + 4000 → exec (.mgmtRead t n) s
      = .next (State.out { v with mgmt := { v.mgmt with err := true } } (.mgmtData (List.replicate (min n u.mgmt.mrl) 0xFF))))
    ∧ (∀ c, u.mgmt.events = true → u.mgmt.ibi = some c → u.mgmt.ibiAt + 1_000_000 ≤ u.now → exec (.mgmtIbiRetry t) s = .next (u.putIbi c))
    ∧ (u.mgmt.events = false ∨ u.mgmt.ibi = none ∨ u.now < u.mgmt.ibiAt + 1_000_000 → exec (.mgmtIbiRetry t) s = .next u))
  ∧ (∀ (s u v : State) (t n a : Nat), u = s.advance t → u.pathUp .mgmt = true → v = { u with mgmt := { u.mgmt with i3c := true } } →
    (nbit n 0 = true → exec (.enec t n) s = .next { v with mgmt := { v.mgmt with events := true } }
      ∧ exec (.disec t n) s = .next { v with mgmt := { v.mgmt with events := false } })
    ∧ (nbit n 0 = false → exec (.enec t n) s = .next v ∧ exec (.disec t n) s = .next v)
    ∧ exec (.rstdaa t) s = .next { v with mgmt := { v.mgmt with dynAddr := none } }
    ∧ exec (.unsupportedCcc t true) s = .next (v.out .mgmtNack) ∧ exec (.unsupportedCcc t false) s = .next v
    ∧ (u.mgmt.dynAddr = none →
      (∃ z, z = v.out (.mgmtData (msbFirst 6 v.pid ++ [0x06, 0x00])) ∧ exec (.entdaa t a) s
        = .next { z with mgmt := { z.mgmt with dynAddr := some (a % 128) } })
      ∧ exec (.setdasa t (0x48 + u.boot.straps.mgmtAddr) a) s = .next { v with mgmt := { v.mgmt with dynAddr := some (a % 128) } }
      ∧ (n ≠ 0x48 + u.boot.straps.mgmtAddr → exec (.setdasa t n a) s = .next v)
      ∧ ∀ cmd ∈ [Instr.setnewda t a, .getpid t, .getbcr t, .getdcr t, .getstatus t, .setmwl t n, .getmwl t, .setmrl t n, .getmrl t],
          exec cmd s = .next (v.out .mgmtNack))
    ∧ (u.mgmt.dynAddr ≠ none →
      exec (.setnewda t a) s = .next { v with mgmt := { v.mgmt with dynAddr := some (a % 128) } }
      ∧ exec (.getpid t) s = .next (v.out (.mgmtData (msbFirst 6 v.pid)))
      ∧ exec (.getbcr t) s = .next (v.out (.mgmtData [0x06])) ∧ exec (.getdcr t) s = .next (v.out (.mgmtData [0x00]))
      ∧ (∃ w : Word, exec (.getstatus t) s = .next (State.out { v with freeCount := u.freeCount + 1 } (.mgmtData (msbFirst 2 w.toNat))))
      ∧ exec (.setmwl t n) s = .next { v with mgmt := { v.mgmt with mwl := min n 4096 } }
      ∧ exec (.setmrl t n) s = .next { v with mgmt := { v.mgmt with mrl := min n 4096 } }
      ∧ exec (.getmwl t) s = .next (v.out (.mgmtData (msbFirst 2 u.mgmt.mwl)))
      ∧ exec (.getmrl t) s = .next (v.out (.mgmtData (msbFirst 2 u.mgmt.mrl ++ [1])))
      ∧ exec (.entdaa t a) s = .next v ∧ exec (.setdasa t n a) s = .next v))

/-- PPS_EDGE while PPS is served: an edge is accepted when its pulse lasts at least 100 ns and it comes 1 s plus or minus 200 µs after the last accepted one, or is the first. An accepted edge notes the Chronograph's time and its error, the part of a second counted from the nearer side; it applies a SET_AT_PPS that waits and ends a slew; otherwise in LOCK it steps the count when PHASE_STEP is on and the error is above the threshold, and else corrects FREQ by an eighth of the error and slews by its negative, both within their limits; in MEASURE count, FREQ and SLEW stay. An edge that is not accepted changes nothing but to bring the state in line with the mode. PPS_HOLDOVER 1.5 s after the last edge enters HOLDOVER, sets LOST and ends a slew. -/
def Obligations.PpsEdges : Prop :=
  (∀ (s u : State) (t w : Nat) (c : Chrono), u = s.advance t → c = u.chr.settle →
    (u.held = false → c.served = true → c.accepts u.now w = true → exec (.ppsEdge t w) s = .next { u with chr := c.edge u.now })
    ∧ (u.held = true ∨ c.served = false ∨ c.accepts u.now w = false → exec (.ppsEdge t w) s = .next { u with chr := c })
    ∧ (c.accepts u.now w = true ↔ 100 ≤ w ∧ ∀ l, c.lastEdge = some l → l + 999_800_000 ≤ u.now ∧ u.now ≤ l + 1_000_200_000))
  ∧ (∀ (c d : Chrono) (now r : Nat) (e : Int), r = c.ns % 10 ^ 9 → e = (if r < 500_000_000 then (r : Int) else (r : Int) - 1_000_000_000) →
    d = c.edge now →
    d.ppsLast = c.ns ∧ d.ppsErr = e ∧ d.lastEdge = some now
    ∧ (c.setPending = true → d.count = (c.setTo c.setSec c.setFrac).count ∧ d.valid = true ∧ d.setPending = false ∧ d.slew = 0)
    ∧ (c.setPending = false → c.mode ≠ 2 → d.count = c.count ∧ d.freq = c.freq ∧ d.slew = c.slew)
    ∧ (c.setPending = false → c.mode = 2 → bit c.cfg 3 = true → ((fld c.cfg 16 16 * 1000 : Nat) : Int) < e.natAbs →
        d.count = chronoOfNs ((c.ns : Int) - e).toNat ∧ d.stepped = true ∧ d.slew = 0 ∧ d.freq = c.freq)
    ∧ (c.setPending = false → c.mode = 2 → bit c.cfg 3 = false ∨ (e.natAbs : Int) ≤ ((fld c.cfg 16 16 * 1000 : Nat) : Int) →
        d.count = c.count ∧ d.slew = max (-500_000) (min 500_000 (-e))
        ∧ d.freq = max (-200_000) (min 200_000 (c.freq - e.tdiv 8))))
  ∧ (∀ (s u : State) (t l : Nat), u = s.advance t → u.chr.lastEdge = some l → u.chr.served = true →
    (u.chr.pps = .locked ∨ u.chr.pps = .acquiring → l + 1_500_000_000 ≤ u.now → exec (.ppsHoldover t) s = .next { u with chr := { u.chr with
      pps := .holdover, lost := true, slew := 0, slewLeft := 0, good := 0, lastEdge := none } })
    ∧ (u.now < l + 1_500_000_000 → exec (.ppsHoldover t) s = .next u))

/-- The frame of the commands of the references, the supplies, the always-on domain, the Chronograph, the link's configuration, BAR2 reads, the scrubber, the fuses, the MGMT port's common command codes, GENLOCK and the sensors' bus: whatever the state, none of them changes a byte of device memory, the state of a core, a frame in progress or a DMA channel. -/
def Obligations.EdgeFrames : Prop :=
  ∀ (i : Instr) (s u : State), exec i s = .next u →
    (match i with
      | .rcOscillatorStart .. | .vddCoreSettled .. | .xtalAmpDetect .. | .xtalCountDone .. | .xtalDlyDone .. | .xoStartTimeout ..
      | .avsPeriod .. | .avsResponse .. | .vbatLow .. | .vbatSwitchover .. | .vdd1v8Restored .. | .xt32Stopped .. | .powerOn ..
      | .alwaysOnPowerLoss .. | .ppsEdge .. | .ppsHoldover .. | .linkUp .. | .hotReset .. | .d3hot .. | .pcieConfigRequest ..
      | .bar0Bad .. | .bar2Read .. | .scrubRead .. | .fuseProgramDone .. | .mgmtIbiRetry .. | .enec .. | .disec .. | .rstdaa ..
      | .entdaa .. | .setdasa .. | .setnewda .. | .getpid .. | .getbcr .. | .getdcr .. | .getstatus .. | .setmwl .. | .getmwl ..
      | .setmrl .. | .getmrl .. | .unsupportedCcc .. | .genlockEdge .. | .genlockLost .. | .hsBurstEnd .. | .phyErr .. | .deskew ..
      | .hotJoin .. | .ibi .. | .dmaBeat .. | .stallTimeout .. | .paceProbeStart .. => True
      | _ => False) →
    u.mem = s.mem ∧ u.cores = s.cores ∧ u.flights = s.flights ∧ u.dma = s.dma
end

