-- ==== Sys2Proof/Laws/Memory.lean ====
section
/-! SUPPORT. The finite maps, and the memory operations: each keeps the canonical form. -/

namespace Sys2Proof.Machine

/-! ## Finite maps -/

@[simp] theorem tget_tput {α : Type} (d : α) (m : List (Nat × α)) (i j : Nat) (x : α) :
    tget d (tput m i x) j = if j = i then x else tget d m j := by
  induction m with
  | nil => simp [tput, tget]
  | cons e r ih =>
    obtain ⟨k, v⟩ := e
    simp only [tput]
    split
    · subst_vars; simp only [tget]; split <;> simp_all
    · split
      · simp only [tget]
      · simp only [tget, ih]; split <;> split <;> simp_all

@[simp] theorem tfind_tput {α : Type} (m : List (Nat × α)) (i j : Nat) (x : α) :
    tfind (tput m i x) j = if j = i then some x else tfind m j := by
  induction m with
  | nil => simp [tput, tfind]
  | cons e r ih =>
    obtain ⟨k, v⟩ := e
    simp only [tput]
    split
    · subst_vars; simp only [tfind]; split <;> simp_all
    · split
      · simp only [tfind]
      · simp only [tfind, ih]; split <;> split <;> simp_all

/-! ## Memory in its canonical form -/

/-- The canonical form, as a proposition over the cells. -/
theorem memWf_iff (m : List Host.Cell) :
    memWf m = true ↔ m.Pairwise (fun a b => a.1 < b.1) ∧ ∀ c ∈ m, c.2 ≠ 0 := by
  induction m with
  | nil => simp [memWf]
  | cons c r ih =>
    cases r with
    | nil => obtain ⟨a, b⟩ := c; simp [memWf]
    | cons d r =>
      obtain ⟨a, b⟩ := c
      obtain ⟨a', b'⟩ := d
      simp only [memWf, Bool.and_eq_true, bne_iff_ne, decide_eq_true_eq, ih]
      constructor
      · rintro ⟨⟨hb, ha⟩, hp, hn⟩
        refine ⟨List.pairwise_cons.2 ⟨?_, hp⟩, ?_⟩
        · intro e he
          rcases List.mem_cons.1 he with rfl | he
          · exact ha
          · exact lt_trans ha ((List.pairwise_cons.1 hp).1 e he)
        · intro e he
          rcases List.mem_cons.1 he with rfl | he
          · exact hb
          · exact hn e he
      · rintro ⟨hp, hn⟩
        rw [List.pairwise_cons] at hp
        exact ⟨⟨hn (a, b) (by simp), hp.1 (a', b') (by simp)⟩, hp.2, fun e he => hn e (List.mem_cons_of_mem _ he)⟩

theorem memWf_filter {m : List Host.Cell} (p : Host.Cell → Bool) (h : memWf m = true) : memWf (m.filter p) = true := by
  rw [memWf_iff] at h ⊢
  exact ⟨h.1.sublist List.filter_sublist, fun c hc => h.2 c (List.mem_filter.1 hc).1⟩

theorem memWf_append {a b : List Host.Cell} (k : Nat) (ha : memWf a = true) (hb : memWf b = true)
    (h1 : ∀ c ∈ a, c.1 < k) (h2 : ∀ c ∈ b, k ≤ c.1) : memWf (a ++ b) = true := by
  rw [memWf_iff] at *
  refine ⟨List.pairwise_append.2 ⟨ha.1, hb.1, fun x hx y hy => lt_of_lt_of_le (h1 x hx) (h2 y hy)⟩, ?_⟩
  intro c hc
  rcases List.mem_append.1 hc with hc | hc
  · exact ha.2 c hc
  · exact hb.2 c hc

theorem runCells_bounds (bs : List Byte) (a : Nat) : ∀ c ∈ runCells a bs, a ≤ c.1 ∧ c.1 < a + bs.length := by
  induction bs generalizing a with
  | nil => simp [runCells]
  | cons b bs ih =>
    intro c hc
    have hstep : ∀ c ∈ runCells (a + 1) bs, a ≤ c.1 ∧ c.1 < a + (b :: bs).length := by
      intro c hc
      have := ih (a + 1) c hc
      simp only [List.length_cons]; omega
    unfold runCells at hc
    split at hc
    · exact hstep c hc
    · rcases List.mem_cons.1 hc with rfl | hc
      · simp
      · exact hstep c hc

theorem memWf_runCells (bs : List Byte) (a : Nat) : memWf (runCells a bs) = true := by
  induction bs generalizing a with
  | nil => rfl
  | cons b bs ih =>
    unfold runCells
    split
    · exact ih _
    · rename_i hb
      have h := ih (a + 1)
      rw [memWf_iff] at h ⊢
      refine ⟨List.pairwise_cons.2 ⟨fun c hc => ?_, h.1⟩, ?_⟩
      · have := (runCells_bounds bs (a + 1) c hc).1; simp only; omega
      · intro c hc
        rcases List.mem_cons.1 hc with rfl | hc
        · exact hb
        · exact h.2 c hc

/-- A store keeps the canonical form. -/
theorem memWf_memWrite {m : List Host.Cell} (a : Nat) (bs : List Byte) (h : memWf m = true) :
    memWf (memWrite m a bs) = true := by
  unfold memWrite
  refine memWf_append a (memWf_filter _ h) (memWf_append (a + bs.length) (memWf_runCells bs a) (memWf_filter _ h) ?_ ?_) ?_ ?_
  · exact fun c hc => (runCells_bounds bs a c hc).2
  · intro c hc; simpa using (List.mem_filter.1 hc).2
  · intro c hc; simpa using (List.mem_filter.1 hc).2
  · intro c hc
    rcases List.mem_append.1 hc with hc | hc
    · exact (runCells_bounds bs a c hc).1
    · have := (List.mem_filter.1 hc).2
      simp only [decide_eq_true_eq] at this; omega

/-- Zeroing keeps the canonical form. -/
theorem memWf_memZero {m : List Host.Cell} (lo hi : Nat) (h : memWf m = true) : memWf (memZero m lo hi) = true :=
  memWf_filter _ h

/-- Copying an interval keeps the canonical form. -/
theorem memWf_memCopy {m : List Host.Cell} (src dst n : Nat) (h : memWf m = true) : memWf (memCopy m src dst n) = true := by
  unfold memCopy
  have hmid : memWf ((m.filter (fun c => decide (src ≤ c.1) && decide (c.1 < src + n))).map
      (fun c => (c.1 - src + dst, c.2))) = true := by
    have h' := memWf_filter (fun c => decide (src ≤ c.1) && decide (c.1 < src + n)) h
    rw [memWf_iff] at h' ⊢
    refine ⟨?_, ?_⟩
    · rw [List.pairwise_map]
      refine h'.1.imp_of_mem ?_
      intro a b ha hb hab
      have := (List.mem_filter.1 ha).2
      have := (List.mem_filter.1 hb).2
      simp only [Bool.and_eq_true, decide_eq_true_eq] at *
      omega
    · intro c hc
      obtain ⟨d, hd, rfl⟩ := List.mem_map.1 hc
      exact h'.2 d hd
  refine memWf_append dst (memWf_filter _ h) (memWf_append (dst + n) hmid (memWf_filter _ h) ?_ ?_) ?_ ?_
  · intro c hc
    obtain ⟨d, hd, rfl⟩ := List.mem_map.1 hc
    have := (List.mem_filter.1 hd).2
    simp only [Bool.and_eq_true, decide_eq_true_eq] at *
    omega
  · intro c hc; simpa using (List.mem_filter.1 hc).2
  · intro c hc; simpa using (List.mem_filter.1 hc).2
  · intro c hc
    rcases List.mem_append.1 hc with hc | hc
    · obtain ⟨d, hd, rfl⟩ := List.mem_map.1 hc
      have := (List.mem_filter.1 hd).2
      simp only [Bool.and_eq_true, decide_eq_true_eq] at *
      omega
    · have := (List.mem_filter.1 hc).2
      simp only [decide_eq_true_eq] at this; omega

end Sys2Proof.Machine
end

