-- ==== Sys2Proof/Laws/Evolves.lean ====
section
/-! SUPPORT. What every operation of a command leaves true, `Evolves`, and its laws for the operations that touch what it
speaks of (outputs, free values, memory, fuses). -/

namespace Sys2Proof.Machine

/-! ## What every operation leaves true -/

/-- No programmed bit of fuse words 0 to 127 is lost. -/
def fusesKept (f g : List (Nat × Word)) : Prop :=
  ∀ w i, w < 128 → (tget 0 f w).getLsbD i = true → (tget 0 g w).getLsbD i = true

/-- What an operation of a command may do to the state at one instant: the instant and the queue stay, memory keeps its
canonical form, outputs are only added, free values are only used up, and no fuse bit is lost. -/
structure Evolves (z u : State) : Prop where
  now : u.now = z.now
  pending : u.pending = z.pending
  mem : memWf z.mem = true → memWf u.mem = true
  outbox : z.outbox <:+ u.outbox
  free : z.freeCount ≤ u.freeCount
  fuses : fusesKept z.sec.fuses u.sec.fuses

theorem Evolves.refl (z : State) : Evolves z z :=
  ⟨rfl, rfl, id, List.suffix_refl _, Nat.le_refl _, fun _ _ _ h => h⟩

theorem Evolves.trans {z u v : State} (h : Evolves z u) (k : Evolves u v) : Evolves z v :=
  ⟨k.now.trans h.now, k.pending.trans h.pending, fun m => k.mem (h.mem m), h.outbox.trans k.outbox, h.free.trans k.free,
    fun w i b x => k.fuses w i b (h.fuses w i b x)⟩

/-- An update of the other fields. -/
theorem Evolves.upd {z u : State} (h : Evolves z u) {usTicks poison regs latMgmt latDbg latBar0 held pinResetN pinPwrgood
    railHold jtag boot clk pwr aon sec mgmt chr flt pace ing sctl trig front par flights cores links signals wctrs eph mems
    host dma tx} (hf : sec.fuses = u.sec.fuses) :
    Evolves z (State.mk u.now usTicks u.pending u.outbox u.freeCount u.mem poison regs latMgmt latDbg latBar0 held pinResetN
      pinPwrgood railHold jtag boot clk pwr aon sec mgmt chr flt pace ing sctl trig front par flights cores links signals wctrs
      eph mems host dma tx) :=
  ⟨h.now, h.pending, h.mem, h.outbox, h.free, by simpa [hf] using h.fuses⟩

/-- An update of the other fields and of memory, to a memory in canonical form. -/
theorem Evolves.updMem {z u : State} (h : Evolves z u) {usTicks mem poison regs latMgmt latDbg latBar0 held pinResetN
    pinPwrgood railHold jtag boot clk pwr aon sec mgmt chr flt pace ing sctl trig front par flights cores links signals wctrs
    eph mems host dma tx} (hf : sec.fuses = u.sec.fuses) (hm : memWf u.mem = true → memWf mem = true) :
    Evolves z (State.mk u.now usTicks u.pending u.outbox u.freeCount mem poison regs latMgmt latDbg latBar0 held pinResetN
      pinPwrgood railHold jtag boot clk pwr aon sec mgmt chr flt pace ing sctl trig front par flights cores links signals wctrs
      eph mems host dma tx) :=
  ⟨h.now, h.pending, fun x => hm (h.mem x), h.outbox, h.free, by simpa [hf] using h.fuses⟩

theorem Evolves.ite {z a b : State} {c : Prop} [Decidable c] (ha : Evolves z a) (hb : Evolves z b) :
    Evolves z (if c then a else b) := by split <;> assumption

theorem Evolves.ite1 {α : Type} {z : State} {a b : State × α} {c : Prop} [Decidable c] (ha : Evolves z a.1) (hb : Evolves z b.1) :
    Evolves z (if c then a else b).1 := by split <;> assumption

theorem Evolves.ite2 {α : Type} {z : State} {a b : α × State} {c : Prop} [Decidable c] (ha : Evolves z a.2) (hb : Evolves z b.2) :
    Evolves z (if c then a else b).2 := by split <;> assumption

theorem Evolves.foldl {α : Type} {z : State} {f : State → α → State} {l : List α} {s : State} (h : Evolves z s)
    (hf : ∀ u x, Evolves z u → Evolves z (f u x)) : Evolves z (l.foldl f s) := by
  induction l generalizing s with
  | nil => exact h
  | cons x l ih => exact ih (hf s x h)

theorem Evolves.foldlFst {α β : Type} {z : State} {f : State × β → α → State × β} {l : List α} {s : State × β}
    (h : Evolves z s.1) (hf : ∀ u x, Evolves z u.1 → Evolves z (f u x).1) : Evolves z (l.foldl f s).1 := by
  induction l generalizing s with
  | nil => exact h
  | cons x l ih => exact ih (hf s x h)

theorem Evolves.ofFst {α : Type} {z u : State} {a : α} {p : State × α} (e : p = (u, a)) (h : Evolves z p.1) : Evolves z u := by
  subst e; exact h

theorem Evolves.ofSnd {α : Type} {z u : State} {a : α} {p : α × State} (e : p = (a, u)) (h : Evolves z p.2) : Evolves z u := by
  subst e; exact h

theorem Evolves.someIte {z : State} {a b : Option State} {c : Prop} [Decidable c] (ha : ∀ u, a = some u → Evolves z u)
    (hb : ∀ u, b = some u → Evolves z u) : ∀ u, (if c then a else b) = some u → Evolves z u := by split <;> assumption

theorem Evolves.ofSome {z a : State} (h : Evolves z a) : ∀ u, Option.some a = Option.some u → Evolves z u := by
  intro u e; cases e; exact h

theorem Evolves.noState {z : State} : ∀ u, (Option.none : Option State) = Option.some u → Evolves z u :=
  fun u e => by cases e

theorem State.out_ev {z s : State} (h : Evolves z s) (o : Out) : Evolves z (s.out o) :=
  ⟨h.now, h.pending, h.mem, h.outbox.trans (List.suffix_cons _ _), h.free, h.fuses⟩

theorem State.outs_ev {z s : State} (h : Evolves z s) (os : List Out) : Evolves z (s.outs os) :=
  ⟨h.now, h.pending, h.mem, h.outbox.trans (List.suffix_append _ _), h.free, h.fuses⟩

theorem State.freeW_ev {z s : State} (h : Evolves z s) : Evolves z s.freeW.2 :=
  ⟨h.now, h.pending, h.mem, h.outbox, h.free.trans (Nat.le_succ _), h.fuses⟩

theorem State.freeN_ev {z s : State} (h : Evolves z s) : Evolves z s.freeN.2 :=
  ⟨h.now, h.pending, h.mem, h.outbox, h.free.trans (Nat.le_succ _), h.fuses⟩

theorem State.useFree_ev {z s : State} (h : Evolves z s) (k : Nat) : Evolves z (s.useFree k) :=
  ⟨h.now, h.pending, h.mem, h.outbox, h.free.trans (Nat.le_add_right _ _), h.fuses⟩

theorem State.poke_ev {z s : State} (h : Evolves z s) (a : Nat) (bs : List Byte) : Evolves z (s.poke a bs) :=
  ⟨h.now, h.pending, fun m => memWf_memWrite a bs (h.mem m), h.outbox, h.free, h.fuses⟩

theorem State.wipe_ev {z s : State} (h : Evolves z s) : Evolves z s.wipe :=
  ⟨h.now, h.pending, fun _ => rfl, h.outbox, h.free, h.fuses⟩

theorem State.burn_ev {z s : State} (h : Evolves z s) (r : FuseReq) : Evolves z (s.burn r) := by
  refine ⟨h.now, h.pending, h.mem, h.outbox, h.free, fun w i b x => ?_⟩
  have y := h.fuses w i b x
  simp only [State.burn, tget_tput]
  split
  · rename_i e
    subst e
    have k : (wd ((s.fuse r.word).toNat ||| r.value)) = s.fuse r.word ||| wd r.value := by
      simp [wd, BitVec.ofNat_or]
    rw [k, BitVec.getLsbD_or, Bool.or_eq_true]
    exact Or.inl (by simpa [State.fuse, b] using y)
  · exact y

end Sys2Proof.Machine
end

