-- ==== Sys2Proof/Laws/EvolveCore.lean ====
section
/-! SUPPORT. Each operation of the shared operations, counters and faults, memory accesses, streams and links evolves the state
(Evolves): one lemma per definition, cited by the lemmas of its callers. -/

set_option linter.unusedVariables false
set_option linter.unusedTactic false
set_option linter.unreachableTactic false

namespace Sys2Proof.Machine

theorem State.addAux_ev {z s : State} (h : Evolves z s) (use : AuxUse) (write : Bool) (host : Bool) (noSnoop : Bool)
    (addr : Nat) (len : Nat) (data : List Byte) :
    Evolves z (State.addAux s use write host noSnoop addr len data) := by
  unfold State.addAux
  try dsimp only
  repeat' (first | with_reducible assumption | fail_if_no_progress (with_reducible refine Evolves.upd ?_ (by rfl)))

theorem State.paceWaits_ev {z s : State} (h : Evolves z s) (n : Nat) :
    Evolves z (State.paceWaits s n) := by
  unfold State.paceWaits
  try dsimp only
  repeat' (first | with_reducible assumption | with_reducible apply Evolves.ite
                 | fail_if_no_progress (with_reducible refine Evolves.upd ?_ (by rfl)))

theorem State.putCore_ev {z s : State} (h : Evolves z s) (n : Nat) (c : CoreS) :
    Evolves z (State.putCore s n c) := by
  unfold State.putCore
  try dsimp only
  repeat' (first | with_reducible assumption | fail_if_no_progress (with_reducible refine Evolves.upd ?_ (by rfl)))

theorem State.coreWaits_ev {z s : State} (h : Evolves z s) (n : Nat) :
    Evolves z (State.coreWaits s n) := by
  unfold State.coreWaits
  try dsimp only
  repeat' (first | with_reducible assumption | with_reducible apply State.paceWaits_ev
                 | with_reducible apply State.putCore_ev | with_reducible apply Evolves.ite)

theorem State.putStrm_ev {z s : State} (h : Evolves z s) (r : Nat) (k : Nat) (x : Strm) :
    Evolves z (State.putStrm s r k x) := by
  unfold State.putStrm
  try dsimp only
  repeat' (first | with_reducible assumption | fail_if_no_progress (with_reducible refine Evolves.upd ?_ (by rfl)))

theorem State.noteOut_ev {z s : State} (h : Evolves z s) (r : Nat) (x : Strm) (ended : Bool) :
    Evolves z (State.noteOut s r x ended) := by
  unfold State.noteOut
  try dsimp only
  repeat' (first | with_reducible assumption | fail_if_no_progress (with_reducible refine Evolves.upd ?_ (by rfl)) | split)

theorem State.rput_ev {z s : State} (h : Evolves z s) (a : Nat) (w : Word) :
    Evolves z (State.rput s a w) := by
  unfold State.rput
  try dsimp only
  repeat' (first | with_reducible assumption | fail_if_no_progress (with_reducible refine Evolves.upd ?_ (by rfl)))

theorem State.rset_ev {z s : State} (h : Evolves z s) (a : Nat) (m : Nat) :
    Evolves z (State.rset s a m) := by
  unfold State.rset
  try dsimp only
  repeat' (first | with_reducible assumption | with_reducible apply State.rput_ev)

theorem State.putIbi_ev {z s : State} (h : Evolves z s) (code : Nat) :
    Evolves z (State.putIbi s code) := by
  unfold State.putIbi
  try dsimp only
  repeat' (first | with_reducible assumption | with_reducible apply State.out_ev
                 | fail_if_no_progress (with_reducible refine Evolves.upd ?_ (by rfl)))

theorem State.raiseIbi_ev {z s : State} (h : Evolves z s) (code : Nat) :
    Evolves z (State.raiseIbi s code) := by
  unfold State.raiseIbi
  try dsimp only
  repeat' (first | with_reducible assumption | with_reducible apply State.putIbi_ev | split)

theorem State.noteEvt_ev {z s : State} (h : Evolves z s) (before : Nat) :
    Evolves z (State.noteEvt s before) := by
  unfold State.noteEvt
  try dsimp only
  repeat' (first | with_reducible assumption | with_reducible apply State.raiseIbi_ev | with_reducible apply Evolves.ite)

theorem State.setEvt_ev {z s : State} (h : Evolves z s) (b : Nat) :
    Evolves z (State.setEvt s b) := by
  unfold State.setEvt
  try dsimp only
  repeat' (first | with_reducible assumption | with_reducible apply State.noteEvt_ev | with_reducible apply State.rset_ev)

theorem State.bumpAt_ev {z s : State} (h : Evolves z s) (cnt : Nat) (satReg : Nat) (satBit : Nat) (thr : Nat) (sel : Nat) (selLen :
    Nat) (idx : Nat) :
    Evolves z (State.bumpAt s cnt satReg satBit thr sel selLen idx) := by
  unfold State.bumpAt
  try dsimp only
  repeat' (first | with_reducible assumption | with_reducible apply State.rput_ev | with_reducible apply State.rset_ev
                 | with_reducible apply State.setEvt_ev | with_reducible apply Evolves.ite)

theorem State.bumpHost_ev {z s : State} (h : Evolves z s) (i : Nat) :
    Evolves z (State.bumpHost s i) := by
  unfold State.bumpHost
  try dsimp only
  repeat' (first | with_reducible assumption | with_reducible apply State.bumpAt_ev)

theorem State.rput64_ev {z s : State} (h : Evolves z s) (a : Nat) (v : Nat) :
    Evolves z (State.rput64 s a v) := by
  unfold State.rput64
  try dsimp only
  repeat' (first | with_reducible assumption | with_reducible apply State.rput_ev)

theorem State.bump64_ev {z s : State} (h : Evolves z s) (a : Nat) (n : Nat) :
    Evolves z (State.bump64 s a n) := by
  unfold State.bump64
  try dsimp only
  repeat' (first | with_reducible assumption | with_reducible apply State.rput64_ev)

theorem State.putMsix_ev {z s : State} (h : Evolves z s) (v : Nat) :
    Evolves z (State.putMsix s v) := by
  unfold State.putMsix
  try dsimp only
  repeat' (first | with_reducible assumption | with_reducible apply State.out_ev | with_reducible apply State.bump64_ev)

theorem State.sendMsix_ev {z s : State} (h : Evolves z s) (v : Nat) :
    Evolves z (State.sendMsix s v) := by
  unfold State.sendMsix
  try dsimp only
  repeat' (first | with_reducible assumption | with_reducible apply State.putMsix_ev | with_reducible apply Evolves.ite
                 | fail_if_no_progress (with_reducible refine Evolves.upd ?_ (by rfl)))

theorem State.raiseVec_ev {z s : State} (h : Evolves z s) (v : Nat) :
    Evolves z (State.raiseVec s v) := by
  unfold State.raiseVec
  try dsimp only
  repeat' (first | with_reducible assumption | with_reducible apply State.bumpHost_ev
                 | with_reducible apply State.sendMsix_ev | with_reducible apply Evolves.ite
                 | fail_if_no_progress (with_reducible refine Evolves.upd ?_ (by rfl)))

theorem State.bumpFault_ev {z s : State} (h : Evolves z s) (c : Nat) :
    Evolves z (State.bumpFault s c) := by
  unfold State.bumpFault
  try dsimp only
  repeat' (first | with_reducible assumption | with_reducible apply State.bumpAt_ev)

theorem State.noteRecord_ev {z s : State} (h : Evolves z s) (r : Report) :
    Evolves z (State.noteRecord s r) := by
  unfold State.noteRecord
  try dsimp only
  repeat' (first | with_reducible assumption | with_reducible apply Evolves.ite
                 | fail_if_no_progress (with_reducible refine Evolves.upd ?_ (by rfl)))

theorem State.writeRecord_ev {z s : State} (h : Evolves z s) (r : Report) (time : Nat) :
    Evolves z (State.writeRecord s r time) := by
  unfold State.writeRecord
  try dsimp only
  repeat' (first | with_reducible assumption | with_reducible apply State.noteRecord_ev
                 | with_reducible apply State.raiseIbi_ev | with_reducible apply State.raiseVec_ev
                 | with_reducible apply State.setEvt_ev | with_reducible apply Evolves.ite
                 | fail_if_no_progress (with_reducible refine Evolves.upd ?_ (by rfl)))

theorem State.raiseAt_ev {z s : State} (h : Evolves z s) (r : Report) (time : Nat) :
    Evolves z (State.raiseAt s r time) := by
  unfold State.raiseAt
  try dsimp only
  repeat' (first | with_reducible assumption | with_reducible apply State.bumpFault_ev
                 | with_reducible apply State.writeRecord_ev | split)

theorem State.raise_ev {z s : State} (h : Evolves z s) (r : Report) :
    Evolves z (State.raise s r) := by
  unfold State.raise
  try dsimp only
  repeat' (first | with_reducible assumption | with_reducible apply State.raiseAt_ev)

theorem State.raiseEcc_ev {z s : State} (h : Evolves z s) (cls : Nat) (a : Nat) :
    Evolves z (State.raiseEcc s cls a) := by
  unfold State.raiseEcc
  try dsimp only
  repeat' (first | with_reducible assumption | with_reducible apply State.raise_ev)

theorem State.wr_ev {z s : State} (h : Evolves z s) (a : Nat) (bs : List Byte) :
    Evolves z (s.wr a bs) := by
  unfold State.wr
  refine Evolves.ite h ?_
  refine Evolves.foldl (Evolves.updMem h rfl (memWf_memWrite a bs)) (fun u x hu => ?_)
  exact State.raiseEcc_ev hu 0x11 x

theorem State.scqRecord_ev {z s : State} (h : Evolves z s) (r : Nat) (k : Nat) (x : Strm) (status : Nat) (cause : Nat) :
    Evolves z (State.scqRecord s r k x status cause) := by
  unfold State.scqRecord
  try dsimp only
  repeat' (first | with_reducible assumption | with_reducible apply State.raiseVec_ev
                 | with_reducible apply State.wr_ev | with_reducible apply Evolves.ite
                 | fail_if_no_progress (with_reducible refine Evolves.upd ?_ (by rfl)))

theorem State.endStrm_ev {z s : State} (h : Evolves z s) (r : Nat) (k : Nat) (abnormal : Bool) (status : Nat) (cause : Nat) :
    Evolves z (State.endStrm s r k abnormal status cause) := by
  unfold State.endStrm
  try dsimp only
  repeat' (first | with_reducible assumption | with_reducible apply State.putStrm_ev
                 | with_reducible apply State.noteOut_ev | with_reducible apply State.scqRecord_ev
                 | with_reducible apply Evolves.ite | fail_if_no_progress (with_reducible refine Evolves.upd ?_ (by rfl)))

theorem State.endIfDone_ev {z s : State} (h : Evolves z s) (r : Nat) (k : Nat) :
    Evolves z (State.endIfDone s r k) := by
  unfold State.endIfDone
  try dsimp only
  repeat' (first | with_reducible assumption | with_reducible apply State.endStrm_ev | with_reducible apply Evolves.ite)

theorem State.takeStrm_ev {z s : State} (h : Evolves z s) (n : Nat) (p : Place) (len : Nat) :
    Evolves z (State.takeStrm s n p len).2 := by
  unfold State.takeStrm
  try dsimp only
  repeat' (first | with_reducible assumption | with_reducible apply State.endIfDone_ev
                 | with_reducible apply State.putStrm_ev | with_reducible apply Evolves.ite2)

theorem State.gather_ev {z s : State} (h : Evolves z s) (n : Nat) (t : Tens) (l : List Src) :
    Evolves z (State.gather s n t l).2 := by
  unfold State.gather
  try dsimp only
  repeat' (first | with_reducible assumption | with_reducible apply State.takeStrm_ev | with_reducible apply Evolves.ite2)

theorem State.putLnk_ev {z s : State} (h : Evolves z s) (l : Nat) (x : LinkS) :
    Evolves z (State.putLnk s l x) := by
  unfold State.putLnk
  try dsimp only
  repeat' (first | with_reducible assumption | fail_if_no_progress (with_reducible refine Evolves.upd ?_ (by rfl)))

theorem State.fenceLinks_ev {z s : State} (h : Evolves z s) (p : Nat → LinkCfg → Bool) :
    Evolves z (State.fenceLinks s p) := by
  unfold State.fenceLinks
  try dsimp only
  repeat' (first | with_reducible assumption | with_reducible apply State.putLnk_ev | with_reducible apply Evolves.ite
                 | with_reducible refine Evolves.foldl ?_ (fun _ _ _ => ?_))

theorem State.bumpMem_ev {z s : State} (h : Evolves z s) (i : Nat) :
    Evolves z (State.bumpMem s i) := by
  unfold State.bumpMem
  try dsimp only
  repeat' (first | with_reducible assumption | with_reducible apply State.bumpAt_ev)

theorem State.unpark_ev {z s : State} (h : Evolves z s) (slot : Nat) :
    Evolves z (State.unpark s slot) := by
  unfold State.unpark
  try dsimp only
  repeat' (first | with_reducible assumption | fail_if_no_progress (with_reducible refine Evolves.upd ?_ (by rfl)) | split)

theorem State.hostWrite_ev {z s : State} (h : Evolves z s) (a : Nat) (bs : List Byte) (noSnoop : Bool) (relaxed : Bool) :
    Evolves z (State.hostWrite s a bs noSnoop relaxed) := by
  unfold State.hostWrite
  try dsimp only
  repeat' (first | with_reducible assumption | with_reducible apply State.out_ev | with_reducible apply State.bump64_ev
                 | with_reducible apply State.bumpHost_ev | with_reducible apply Evolves.ite)

theorem State.putRec_ev {z s : State} (h : Evolves z s) (f : Flight) :
    Evolves z (State.putRec s f) := by
  unfold State.putRec
  try dsimp only
  repeat' (first | with_reducible assumption | with_reducible apply State.hostWrite_ev
                 | with_reducible apply State.poke_ev | split)

theorem State.markWhere_ev {z s : State} (h : Evolves z s) (p : Flight → Bool) (m : Nat) :
    Evolves z (State.markWhere s p m) := by
  unfold State.markWhere
  try dsimp only
  repeat' (first | with_reducible assumption | with_reducible apply State.putRec_ev
                 | with_reducible refine Evolves.foldl ?_ (fun _ _ _ => ?_)
                 | fail_if_no_progress (with_reducible refine Evolves.upd ?_ (by rfl)))

theorem State.markTag_ev {z s : State} (h : Evolves z s) (t : Tag) (m : Nat) :
    Evolves z (State.markTag s t m) := by
  unfold State.markTag
  try dsimp only
  repeat' (first | with_reducible assumption | with_reducible apply State.markWhere_ev)

theorem State.cancelStrm_ev {z s : State} (h : Evolves z s) (r : Nat) (k : Nat) (cause : Nat) :
    Evolves z (State.cancelStrm s r k cause) := by
  unfold State.cancelStrm
  try dsimp only
  repeat' (first | with_reducible assumption | with_reducible apply State.bumpMem_ev
                 | with_reducible apply State.putStrm_ev | with_reducible apply State.unpark_ev
                 | with_reducible apply State.markTag_ev | split)

theorem State.cancelAll_ev {z s : State} (h : Evolves z s) (r : Nat) (cause : Nat) :
    Evolves z (State.cancelAll s r cause) := by
  unfold State.cancelAll
  try dsimp only
  repeat' (first | with_reducible assumption | with_reducible apply State.cancelStrm_ev
                 | with_reducible refine Evolves.foldl ?_ (fun _ _ _ => ?_))

theorem State.revokeCore_ev {z s : State} (h : Evolves z s) (n : Nat) :
    Evolves z (State.revokeCore s n) := by
  unfold State.revokeCore
  try dsimp only
  repeat' (first | with_reducible assumption | with_reducible apply State.putCore_ev
                 | with_reducible apply State.fenceLinks_ev | with_reducible apply State.cancelAll_ev)

theorem State.fenceCore_ev {z s : State} (h : Evolves z s) (n : Nat) (r : Report) :
    Evolves z (State.fenceCore s n r) := by
  unfold State.fenceCore
  try dsimp only
  repeat' (first | with_reducible assumption | with_reducible apply State.raise_ev
                 | with_reducible apply State.revokeCore_ev | with_reducible apply Evolves.ite
                 | fail_if_no_progress (with_reducible refine Evolves.upd ?_ (by rfl)))

theorem State.bumpN_ev {z s : State} (h : Evolves z s) (f : State → State) (n : Nat)
    (hf : ∀ u, Evolves z u → Evolves z (f u)) : Evolves z (State.bumpN f n s) := by
  induction n generalizing s with
  | zero => exact h
  | succ n ih => exact ih (hf s h)

theorem State.bumpMatch_ev {z s : State} (h : Evolves z s) (n : Nat) (i : Nat) :
    Evolves z (State.bumpMatch s n i) := by
  unfold State.bumpMatch
  try dsimp only
  repeat' (first | with_reducible assumption | with_reducible apply State.bumpAt_ev)

theorem State.bumpCore_ev {z s : State} (h : Evolves z s) (n : Nat) (i : Nat) :
    Evolves z (State.bumpCore s n i) := by
  unfold State.bumpCore
  try dsimp only
  repeat' (first | with_reducible assumption | with_reducible apply State.bumpAt_ev)

theorem State.putCtx_ev {z s : State} (h : Evolves z s) (n : Nat) (c : Nat) (x : Ctx) :
    Evolves z (State.putCtx s n c x) := by
  unfold State.putCtx
  try dsimp only
  repeat' (first | with_reducible assumption | with_reducible apply State.putCore_ev)

theorem State.modCtx_ev {z s : State} (h : Evolves z s) (n : Nat) (c : Nat) (f : Ctx → Ctx) :
    Evolves z (State.modCtx s n c f) := by
  unfold State.modCtx
  try dsimp only
  repeat' (first | with_reducible assumption | with_reducible apply State.putCtx_ev)

theorem State.poisonStripe_ev {z s : State} (h : Evolves z s) (n : Nat) (c : Nat) (t : Option Tag) :
    Evolves z (State.poisonStripe s n c t) := by
  unfold State.poisonStripe
  try dsimp only
  repeat' (first | with_reducible assumption | with_reducible apply State.modCtx_ev
                 | with_reducible apply State.markTag_ev | split)

theorem State.probeStops_ev {z s : State} (h : Evolves z s) (n : Nat) :
    Evolves z (State.probeStops s n) := by
  unfold State.probeStops
  try dsimp only
  repeat' (first | with_reducible assumption | with_reducible apply Evolves.ite
                 | fail_if_no_progress (with_reducible refine Evolves.upd ?_ (by rfl)))

theorem State.pick_ev {z s : State} (h : Evolves z s) (n : Nat) :
    Evolves z (State.pick s n) := by
  unfold State.pick
  try dsimp only
  repeat' (first | with_reducible assumption | with_reducible apply State.coreWaits_ev
                 | with_reducible apply State.probeStops_ev | with_reducible apply State.putCore_ev
                 | with_reducible apply State.paceWaits_ev | split)

theorem State.revokeCtx_ev {z s : State} (h : Evolves z s) (n : Nat) (c : Nat) :
    Evolves z (State.revokeCtx s n c) := by
  unfold State.revokeCtx
  try dsimp only
  repeat' (first | with_reducible assumption | with_reducible apply State.putCore_ev
                 | with_reducible apply State.fenceLinks_ev | with_reducible apply State.cancelStrm_ev
                 | with_reducible apply Evolves.ite | with_reducible refine Evolves.foldl ?_ (fun _ _ _ => ?_))

theorem State.fenceCtx_ev {z s : State} (h : Evolves z s) (n : Nat) (c : Nat) (r : Report) :
    Evolves z (State.fenceCtx s n c r) := by
  unfold State.fenceCtx
  try dsimp only
  repeat' (first | with_reducible assumption | with_reducible apply State.raise_ev
                 | with_reducible apply State.revokeCtx_ev | with_reducible apply Evolves.ite
                 | fail_if_no_progress (with_reducible refine Evolves.upd ?_ (by rfl)))

theorem State.stopCtx_ev {z s : State} (h : Evolves z s) (n : Nat) (c : Nat) (cls : Nat) (detail : Nat) :
    Evolves z (State.stopCtx s n c cls detail) := by
  unfold State.stopCtx
  try dsimp only
  repeat' (first | with_reducible assumption | with_reducible apply State.markTag_ev
                 | with_reducible apply State.fenceCtx_ev | split)

theorem State.blockTaken_ev {z s : State} (h : Evolves z s) (n : Nat) (t : Tens) (k : Nat) :
    Evolves z (State.blockTaken s n t k) := by
  unfold State.blockTaken
  try dsimp only
  repeat' (first | with_reducible assumption | with_reducible apply State.takeStrm_ev | with_reducible apply Evolves.ite)

theorem State.lockstep_ev {z s : State} (h : Evolves z s) (n : Nat) :
    Evolves z (State.lockstep s n) := by
  unfold State.lockstep
  try dsimp only
  repeat' (first | with_reducible assumption | with_reducible apply State.freeN_ev
                 | with_reducible apply State.fenceCore_ev)

theorem State.bumpFront_ev {z s : State} (h : Evolves z s) (i : Nat) :
    Evolves z (State.bumpFront s i) := by
  unfold State.bumpFront
  try dsimp only
  repeat' (first | with_reducible assumption | with_reducible apply State.rput_ev | with_reducible apply State.rset_ev
                 | with_reducible apply Evolves.ite)

theorem State.dropAux_ev {z s : State} (h : Evolves z s) (p : Aux → Bool) :
    Evolves z (State.dropAux s p) := by
  unfold State.dropAux
  try dsimp only
  repeat' (first | with_reducible assumption | fail_if_no_progress (with_reducible refine Evolves.upd ?_ (by rfl)))

theorem State.pageFault_ev {z s : State} (h : Evolves z s) (e : PfEntry) :
    Evolves z (State.pageFault s e) := by
  unfold State.pageFault
  try dsimp only
  repeat' (first | with_reducible assumption | with_reducible apply State.bumpMem_ev
                 | with_reducible apply State.raiseVec_ev | with_reducible apply Evolves.ite
                 | fail_if_no_progress (with_reducible refine Evolves.upd ?_ (by rfl)))

theorem State.haltStrm_ev {z s : State} (h : Evolves z s) (r : Nat) (k : Nat) :
    Evolves z (State.haltStrm s r k) := by
  unfold State.haltStrm
  try dsimp only
  repeat' (first | with_reducible assumption | with_reducible apply State.pageFault_ev
                 | with_reducible apply State.putStrm_ev)

theorem State.checkHalt_ev {z s : State} (h : Evolves z s) (r : Nat) (k : Nat) :
    Evolves z (State.checkHalt s r k) := by
  unfold State.checkHalt
  try dsimp only
  repeat' (first | with_reducible assumption | with_reducible apply State.haltStrm_ev | split)

theorem State.modFlight_ev {z s : State} (h : Evolves z s) (i : Nat) (fr : Nat) (g : Flight → Flight) :
    Evolves z (State.modFlight s i fr g) := by
  unfold State.modFlight
  try dsimp only
  repeat' (first | with_reducible assumption | fail_if_no_progress (with_reducible refine Evolves.upd ?_ (by rfl)))

theorem State.bumpPort_ev {z s : State} (h : Evolves z s) (n : Nat) (i : Nat) :
    Evolves z (State.bumpPort s n i) := by
  unfold State.bumpPort
  try dsimp only
  repeat' (first | with_reducible assumption | with_reducible apply State.bumpAt_ev)

theorem State.wake_ev {z s : State} (h : Evolves z s) (n : Nat) :
    Evolves z (State.wake s n) := by
  unfold State.wake
  try dsimp only
  repeat' (first | with_reducible assumption | with_reducible apply State.probeStops_ev
                 | with_reducible apply State.putCore_ev | with_reducible apply State.pick_ev
                 | with_reducible apply Evolves.ite)

theorem State.ringWrite_ev {z s : State} (h : Evolves z s) (n : Nat) (x : Strm) (pos : Nat) (bs : List Byte) :
    Evolves z (State.ringWrite s n x pos bs) := by
  unfold State.ringWrite
  try dsimp only
  repeat' (first | with_reducible assumption | with_reducible apply State.wr_ev)

theorem State.modAux_ev {z s : State} (h : Evolves z s) (id : Nat) (g : Aux → Aux) :
    Evolves z (State.modAux s id g) := by
  unfold State.modAux
  try dsimp only
  repeat' (first | with_reducible assumption | fail_if_no_progress (with_reducible refine Evolves.upd ?_ (by rfl)))

theorem State.markFrame_ev {z s : State} (h : Evolves z s) (src : Nat) (fr : Nat) (m : Nat) :
    Evolves z (State.markFrame s src fr m) := by
  unfold State.markFrame
  try dsimp only
  repeat' (first | with_reducible assumption | with_reducible apply State.markWhere_ev)

theorem State.markAll_ev {z s : State} (h : Evolves z s) (m : Nat) :
    Evolves z (State.markAll s m) := by
  unfold State.markAll
  try dsimp only
  repeat' (first | with_reducible assumption | with_reducible apply State.markWhere_ev)

theorem State.giveStrm_ev {z s : State} (h : Evolves z s) (n : Nat) (p : Place) (bs : List Byte) :
    Evolves z (State.giveStrm s n p bs) := by
  unfold State.giveStrm
  try dsimp only
  repeat' (first | with_reducible assumption | with_reducible apply State.putStrm_ev
                 | with_reducible apply State.ringWrite_ev | with_reducible apply Evolves.ite)

theorem State.putPort_ev {z s : State} (h : Evolves z s) (n : Nat) (p : TxPort) :
    Evolves z (State.putPort s n p) := by
  unfold State.putPort
  try dsimp only
  repeat' (first | with_reducible assumption | fail_if_no_progress (with_reducible refine Evolves.upd ?_ (by rfl)))

theorem State.pfInfoRead_ev {z s : State} (h : Evolves z s) :
    Evolves z (State.pfInfoRead s).2 := by
  unfold State.pfInfoRead
  try dsimp only
  repeat' (first | with_reducible assumption | fail_if_no_progress (with_reducible refine Evolves.upd ?_ (by rfl)) | split)

theorem State.useSlot_ev {z s : State} (h : Evolves z s) (l : Nat) (t : Tag) (tile : Nat) :
    Evolves z (State.useSlot s l t tile) := by
  unfold State.useSlot
  try dsimp only
  repeat' (first | with_reducible assumption | with_reducible apply State.putLnk_ev | split)

theorem State.bumpEph_ev {z s : State} (h : Evolves z s) (i : Nat) :
    Evolves z (State.bumpEph s i) := by
  unfold State.bumpEph
  try dsimp only
  repeat' (first | with_reducible assumption | with_reducible apply State.bumpAt_ev)

theorem State.noteLate_ev {z s : State} (h : Evolves z s) (l : Nat) (d : LinkCfg) (t : Tag) :
    Evolves z (State.noteLate s l d t) := by
  unfold State.noteLate
  try dsimp only
  repeat' (first | with_reducible assumption | with_reducible apply State.markTag_ev
                 | with_reducible apply State.bumpEph_ev
                 | fail_if_no_progress (with_reducible refine Evolves.upd ?_ (by rfl)))

theorem State.noteAdvance_ev {z s : State} (h : Evolves z s) (p : Nat) :
    Evolves z (State.noteAdvance s p) := by
  unfold State.noteAdvance
  try dsimp only
  repeat' (first | with_reducible assumption | fail_if_no_progress (with_reducible refine Evolves.upd ?_ (by rfl)))

theorem State.publish_ev {z s : State} (h : Evolves z s) (l : Nat) (t : Option Tag) :
    Evolves z (State.publish s l t) := by
  unfold State.publish
  try dsimp only
  repeat' (first | with_reducible assumption | with_reducible apply State.noteLate_ev
                 | with_reducible apply State.noteAdvance_ev | with_reducible apply State.putLnk_ev | split)

theorem State.takeWait_ev {z s : State} (h : Evolves z s) (l : Nat) (full : Bool) (m : Nat) (k : Nat) :
    Evolves z (State.takeWait s l full m k) := by
  unfold State.takeWait
  try dsimp only
  repeat' (first | with_reducible assumption | with_reducible apply State.putLnk_ev | with_reducible apply Evolves.ite)

theorem State.wakeAll_ev {z s : State} (h : Evolves z s) :
    Evolves z (State.wakeAll s) := by
  unfold State.wakeAll
  try dsimp only
  repeat' (first | with_reducible assumption | with_reducible apply State.wake_ev
                 | with_reducible refine Evolves.foldl ?_ (fun _ _ _ => ?_))

theorem State.zero_ev {z s : State} (h : Evolves z s) (lo : Nat) (hi : Nat) :
    Evolves z (s.zero lo hi) := by
  unfold State.zero
  exact Evolves.updMem h rfl (memWf_memZero lo hi)

theorem State.putFlight_ev {z s : State} (h : Evolves z s) (f : Flight) :
    Evolves z (State.putFlight s f) := by
  unfold State.putFlight
  try dsimp only
  repeat' (first | with_reducible assumption | fail_if_no_progress (with_reducible refine Evolves.upd ?_ (by rfl)))

theorem State.noteWork_ev {z s : State} (h : Evolves z s) (n : Nat) :
    Evolves z (State.noteWork s n) := by
  unfold State.noteWork
  try dsimp only
  repeat' (first | with_reducible assumption | fail_if_no_progress (with_reducible refine Evolves.upd ?_ (by rfl)))

theorem State.issued_ev {z s : State} (h : Evolves z s) (n : Nat) (c : Nat) (i : Nat) :
    Evolves z (State.issued s n c i) := by
  unfold State.issued
  try dsimp only
  repeat' (first | with_reducible assumption | with_reducible apply State.noteWork_ev
                 | with_reducible apply State.probeStops_ev | with_reducible apply State.modCtx_ev
                 | with_reducible apply State.bump64_ev)

theorem State.signalEmpty_ev {z s : State} (h : Evolves z s) (l : Nat) (m : Nat) (k : Nat) :
    Evolves z (State.signalEmpty s l m k) := by
  unfold State.signalEmpty
  try dsimp only
  repeat' (first | with_reducible assumption | with_reducible apply State.noteAdvance_ev
                 | with_reducible apply State.putLnk_ev)

theorem State.beginStripe_ev {z s : State} (h : Evolves z s) (l : Nat) (t : Tag) (limit : Nat) :
    Evolves z (State.beginStripe s l t limit) := by
  unfold State.beginStripe
  try dsimp only
  repeat' (first | with_reducible assumption | with_reducible apply State.putLnk_ev)

theorem State.bumpChan_ev {z s : State} (h : Evolves z s) (c : Nat) (i : Nat) :
    Evolves z (State.bumpChan s c i) := by
  unfold State.bumpChan
  try dsimp only
  repeat' (first | with_reducible assumption | with_reducible apply State.bumpAt_ev)

theorem State.publishRun_ev {z s : State} (h : Evolves z s) (l : Nat) (n : Nat) : Evolves z (s.publishRun l n) := by
  induction n generalizing s with
  | zero => exact h
  | succ n ih =>
    unfold State.publishRun
    dsimp only
    repeat' (first | with_reducible assumption | with_reducible apply ih | with_reducible apply State.publish_ev | split)

theorem State.dupClaim_ev {z s : State} (h : Evolves z s) (l : Nat) (core : Nat) (c : ClaimS) (equal : Bool) :
    Evolves z (State.dupClaim s l core c equal) := by
  unfold State.dupClaim
  try dsimp only
  repeat' (first | with_reducible assumption | with_reducible apply State.markTag_ev
                 | with_reducible apply State.raise_ev | with_reducible apply State.bumpEph_ev)

theorem State.undefineSlot_ev {z s : State} (h : Evolves z s) (l : Nat) (c : ClaimS) :
    Evolves z (State.undefineSlot s l c) := by
  unfold State.undefineSlot
  try dsimp only
  repeat' (first | with_reducible assumption | with_reducible apply State.useFree_ev | with_reducible apply State.wr_ev
                 | split)

theorem State.complete_ev {z s : State} (h : Evolves z s) (l : Nat) (core : Nat) (c : ClaimS) :
    Evolves z (State.complete s l core c) := by
  unfold State.complete
  try dsimp only
  repeat' (first | with_reducible assumption | with_reducible apply State.putLnk_ev
                 | with_reducible apply State.publishRun_ev | with_reducible apply State.dupClaim_ev
                 | with_reducible apply State.undefineSlot_ev | split)

theorem State.publishAll_ev {z s : State} (h : Evolves z s) (l : Nat) (ts : List (Option Tag)) :
    Evolves z (State.publishAll s l ts) := by
  unfold State.publishAll
  try dsimp only
  repeat' (first | with_reducible assumption | with_reducible apply State.publish_ev
                 | with_reducible refine Evolves.foldl ?_ (fun _ _ _ => ?_))

theorem State.issueFail_ev {z s : State} (h : Evolves z s) (n : Nat) (c : Nat) (index : Nat) (r : List Byte) (e : IssueErr) :
    Evolves z (State.issueFail s n c index r e) := by
  unfold State.issueFail
  try dsimp only
  repeat' (first | with_reducible assumption | with_reducible apply State.rput_ev | with_reducible apply State.pick_ev
                 | with_reducible apply State.stopCtx_ev)

theorem State.wrPlace_ev {z s : State} (h : Evolves z s) (n : Nat) (p : Place) (o : Int) (bs : List Byte) :
    Evolves z (State.wrPlace s n p o bs) := by
  unfold State.wrPlace
  try dsimp only
  repeat' (first | with_reducible assumption | with_reducible apply State.wr_ev | with_reducible apply Evolves.ite)

theorem State.flushMsix_ev {z s : State} (h : Evolves z s) :
    Evolves z (State.flushMsix s) := by
  unfold State.flushMsix
  try dsimp only
  repeat' (first | with_reducible assumption | with_reducible apply State.sendMsix_ev
                 | with_reducible apply Evolves.ite | with_reducible refine Evolves.foldl ?_ (fun _ _ _ => ?_))

theorem State.bumpTx_ev {z s : State} (h : Evolves z s) (n : Nat) (i : Nat) :
    Evolves z (State.bumpTx s n i) := by
  unfold State.bumpTx
  try dsimp only
  repeat' (first | with_reducible assumption | with_reducible apply State.bumpAt_ev)

theorem State.rforget_ev {z s : State} (h : Evolves z s) (lo : Nat) (hi : Nat) :
    Evolves z (State.rforget s lo hi) := by
  unfold State.rforget
  try dsimp only
  repeat' (first | with_reducible assumption | fail_if_no_progress (with_reducible refine Evolves.upd ?_ (by rfl)))

theorem pmFlush_ev {z s : State} (h : Evolves z s) :
    Evolves z (pmFlush s) := by
  unfold pmFlush
  try dsimp only
  repeat' (first | with_reducible assumption | fail_if_no_progress (with_reducible refine Evolves.upd ?_ (by rfl)))

theorem resumeWrite_ev {z s : State} (h : Evolves z s) (w : Word) :
    Evolves z (resumeWrite w s) := by
  unfold resumeWrite
  try dsimp only
  repeat' (first | with_reducible assumption | with_reducible apply State.putStrm_ev
                 | with_reducible apply State.unpark_ev | with_reducible apply State.bumpMem_ev
                 | with_reducible apply Evolves.ite)

theorem cancelWrite_ev {z s : State} (h : Evolves z s) (w : Word) :
    Evolves z (cancelWrite w s) := by
  unfold cancelWrite
  try dsimp only
  repeat' (first | with_reducible assumption | with_reducible apply State.cancelStrm_ev
                 | with_reducible apply State.bumpMem_ev | with_reducible apply Evolves.ite)

theorem State.fenceDie_ev {z s : State} (h : Evolves z s) (d : Nat) (r : Report) :
    Evolves z (State.fenceDie s d r) := by
  unfold State.fenceDie
  try dsimp only
  repeat' (first | with_reducible assumption | with_reducible apply State.raise_ev
                 | with_reducible apply State.fenceLinks_ev | with_reducible apply State.revokeCore_ev
                 | with_reducible apply Evolves.ite | with_reducible refine Evolves.foldl ?_ (fun _ _ _ => ?_)
                 | fail_if_no_progress (with_reducible refine Evolves.upd ?_ (by rfl)))

theorem streamCancelDone_ev {z s : State} (h : Evolves z s) (r : Nat) (k : Nat) :
    Evolves z (streamCancelDone r k s) := by
  unfold streamCancelDone
  try dsimp only
  repeat' (first | with_reducible assumption | with_reducible apply State.endStrm_ev | with_reducible apply Evolves.ite)

theorem State.noteWait_ev {z s : State} (h : Evolves z s) (p : Nat) :
    Evolves z (State.noteWait s p) := by
  unfold State.noteWait
  try dsimp only
  repeat' (first | with_reducible assumption | with_reducible apply State.noteAdvance_ev | split)

theorem State.flushMsgs_ev {z s : State} (h : Evolves z s) :
    Evolves z (State.flushMsgs s) := by
  unfold State.flushMsgs
  try dsimp only
  repeat' (first | with_reducible assumption | with_reducible apply State.putMsix_ev
                 | with_reducible refine Evolves.foldl ?_ (fun _ _ _ => ?_)
                 | fail_if_no_progress (with_reducible refine Evolves.upd ?_ (by rfl)))

theorem State.fenceHead_ev {z s : State} (h : Evolves z s) (n a : Nat) : Evolves z (State.fenceHead s n a) :=
  State.fenceCore_ev h n _

theorem State.queueWritten_ev {z s : State} (h : Evolves z s) (a : Nat) : Evolves z (State.queueWritten s a) := by
  unfold State.queueWritten
  with_reducible refine Evolves.upd ?_ (by rfl)
  exact h

theorem handshakeTimeout_ev {z s : State} (h : Evolves z s) (die : Nat) (pos : Nat) (kind : Nat) :
    Evolves z (handshakeTimeout die pos kind s) := by
  unfold handshakeTimeout
  try dsimp only
  repeat' (first | with_reducible assumption | with_reducible apply State.fenceCore_ev
                 | with_reducible apply State.fenceDie_ev | with_reducible apply Evolves.ite)

end Sys2Proof.Machine
end

