-- ==== Sys2Proof/Laws/EvolveFront.lean ====
section
/-! SUPPORT. Each operation of the parameter stages, the sensors, the ingress, the ephemerides, the data channels and the transmit path evolves the state
(Evolves): one lemma per definition, cited by the lemmas of its callers. -/

set_option linter.unusedVariables false
set_option linter.unusedTactic false
set_option linter.unreachableTactic false

namespace Sys2Proof.Machine

theorem State.putPs_ev {z s : State} (h : Evolves z s) (src : Nat) (p : ParamSet) :
    Evolves z (State.putPs s src p) := by
  unfold State.putPs
  try dsimp only
  repeat' (first | with_reducible assumption | fail_if_no_progress (with_reducible refine Evolves.upd ?_ (by rfl)))

theorem State.ctlCfgDone_ev {z s : State} (h : Evolves z s) (n : Nat) (old : Word) :
    Evolves z (State.ctlCfgDone s n old) := by
  unfold State.ctlCfgDone
  try dsimp only
  repeat' (first | with_reducible assumption | with_reducible apply State.out_ev | with_reducible apply Evolves.ite)

theorem State.startOp_ev {z s : State} (h : Evolves z s) (n : Nat) (c : Nat) (o : Op) :
    Evolves z (State.startOp s n c o) := by
  unfold State.startOp
  try dsimp only
  repeat' (first | with_reducible assumption | with_reducible apply State.putCore_ev | with_reducible apply Evolves.ite)

theorem State.modInl_ev {z s : State} (h : Evolves z s) (fr : Nat) (g : InlineS → InlineS) :
    Evolves z (State.modInl s fr g) := by
  unfold State.modInl
  try dsimp only
  repeat' (first | with_reducible assumption | fail_if_no_progress (with_reducible refine Evolves.upd ?_ (by rfl)))

theorem State.putTapWrites_ev {z s : State} (h : Evolves z s) (q : Nat) (l : List TapWrite) :
    Evolves z (State.putTapWrites s q l) := by
  unfold State.putTapWrites
  try dsimp only
  repeat' (first | with_reducible assumption | fail_if_no_progress (with_reducible refine Evolves.upd ?_ (by rfl)))

theorem State.pushTap_ev {z s : State} (h : Evolves z s) (q : Nat) (w : TapWrite) :
    Evolves z (State.pushTap s q w) := by
  unfold State.pushTap
  try dsimp only
  repeat' (first | with_reducible assumption | with_reducible apply State.putTapWrites_ev
                 | fail_if_no_progress (with_reducible refine Evolves.upd ?_ (by rfl)))

theorem State.tapEnd_ev {z s : State} (h : Evolves z s) (q : Nat) (src : Nat) (t : Nat) (fr : Nat) :
    Evolves z (State.tapEnd s q src t fr) := by
  unfold State.tapEnd
  try dsimp only
  repeat' (first | with_reducible assumption | with_reducible apply State.pushTap_ev
                 | fail_if_no_progress (with_reducible refine Evolves.upd ?_ (by rfl)) | split)

theorem State.putTap_ev {z s : State} (h : Evolves z s) (r : TapRun) :
    Evolves z (State.putTap s r) := by
  unfold State.putTap
  try dsimp only
  repeat' (first | with_reducible assumption | fail_if_no_progress (with_reducible refine Evolves.upd ?_ (by rfl)))

theorem State.tapBytes_ev {z s : State} (h : Evolves z s) (q : Nat) (src : Nat) (t : Nat) (fr : Nat) (sh : TapShape) (line : Nat)
    (len : Nat) (off : Nat) (bs : List Byte) :
    Evolves z (State.tapBytes s q src t fr sh line len off bs) := by
  unfold State.tapBytes
  try dsimp only
  repeat' (first | with_reducible assumption | with_reducible apply State.pushTap_ev
                 | with_reducible apply State.bumpFront_ev | with_reducible apply State.putTapWrites_ev
                 | with_reducible apply State.tapEnd_ev | with_reducible apply State.putTap_ev
                 | with_reducible apply Evolves.ite)

theorem State.tapLine_ev {z s : State} (h : Evolves z s) (q : Nat) (src : Nat) (t : Nat) (fr : Nat) (sh : TapShape) (line : Nat)
    (bs : List Byte) :
    Evolves z (State.tapLine s q src t fr sh line bs) := by
  unfold State.tapLine
  try dsimp only
  repeat' (first | with_reducible assumption | with_reducible apply State.tapBytes_ev)

theorem State.frontTaps_ev {z s : State} (h : Evolves z s) (q : Nat) (src : Nat) (fr : Nat) (l : Nat) (raw : List (List Byte))
    (lins : List (List Nat)) (merged : List Nat) :
    Evolves z (State.frontTaps s q src fr l raw lins merged) := by
  unfold State.frontTaps
  try dsimp only
  repeat' (first | with_reducible assumption | with_reducible apply State.tapLine_ev
                 | with_reducible refine Evolves.foldl ?_ (fun _ _ _ => ?_))

theorem State.inlTap_ev {z s : State} (h : Evolves z s) (src : Nat) (i : InlineS) (line : Nat) :
    Evolves z (State.inlTap s src i line) := by
  unfold State.inlTap
  try dsimp only
  repeat' (first | with_reducible assumption | with_reducible apply State.frontTaps_ev)

theorem State.inlTaps_ev {z s : State} (h : Evolves z s) :
    Evolves z (State.inlTaps s) := by
  unfold State.inlTaps
  try dsimp only
  repeat' (first | with_reducible assumption | with_reducible apply State.modInl_ev
                 | with_reducible apply State.inlTap_ev | with_reducible refine Evolves.foldl ?_ (fun _ _ _ => ?_) | split)

theorem State.frontPoison_ev {z s : State} (h : Evolves z s) (slot : Nat) :
    Evolves z (State.frontPoison s slot) := by
  unfold State.frontPoison
  try dsimp only
  repeat' (first | with_reducible assumption | with_reducible apply State.markTag_ev
                 | fail_if_no_progress (with_reducible refine Evolves.upd ?_ (by rfl)) | split)

theorem State.parkBusy_ev {z s : State} (h : Evolves z s) :
    Evolves z (State.parkBusy s) := by
  unfold State.parkBusy
  try dsimp only
  repeat' (first | with_reducible assumption | fail_if_no_progress (with_reducible refine Evolves.upd ?_ (by rfl)) | split)

theorem State.putIng_ev {z s : State} (h : Evolves z s) (n : Nat) (p : IngPort) :
    Evolves z (State.putIng s n p) := by
  unfold State.putIng
  try dsimp only
  repeat' (first | with_reducible assumption | fail_if_no_progress (with_reducible refine Evolves.upd ?_ (by rfl)))

theorem State.dropWrite_ev {z s : State} (h : Evolves z s) (port : Nat) (id : Nat) :
    Evolves z (State.dropWrite s port id) := by
  unfold State.dropWrite
  try dsimp only
  repeat' (first | with_reducible assumption | with_reducible apply State.putIng_ev)

theorem State.bufGive_ev {z s : State} (h : Evolves z s) (port : Nat) (n : Nat) :
    Evolves z (State.bufGive s port n) := by
  unfold State.bufGive
  try dsimp only
  repeat' (first | with_reducible assumption | with_reducible apply State.putIng_ev)

theorem State.addWrite_ev {z s : State} (h : Evolves z s) (port : Nat) (w : IngWrite) :
    Evolves z (State.addWrite s port w) := by
  unfold State.addWrite
  try dsimp only
  repeat' (first | with_reducible assumption | with_reducible apply State.putIng_ev)

theorem State.recordIfReady_ev {z s : State} (h : Evolves z s) (src : Nat) (fr : Nat) :
    Evolves z (State.recordIfReady s src fr) := by
  unfold State.recordIfReady
  try dsimp only
  repeat' (first | with_reducible assumption | with_reducible apply State.addWrite_ev | split)

theorem State.writeOver_ev {z s : State} (h : Evolves z s) (port : Nat) (w : IngWrite) :
    Evolves z (State.writeOver s port w) := by
  unfold State.writeOver
  try dsimp only
  repeat' (first | with_reducible assumption | with_reducible apply State.recordIfReady_ev
                 | with_reducible apply State.modFlight_ev | with_reducible apply State.dropWrite_ev)

theorem State.modWrite_ev {z s : State} (h : Evolves z s) (port : Nat) (id : Nat) (g : IngWrite → IngWrite) :
    Evolves z (State.modWrite s port id g) := by
  unfold State.modWrite
  try dsimp only
  repeat' (first | with_reducible assumption | with_reducible apply State.putIng_ev)

theorem State.ingDrop_ev {z s : State} (h : Evolves z s) (port : Nat) (w : IngWrite) :
    Evolves z (State.ingDrop s port w) := by
  unfold State.ingDrop
  try dsimp only
  repeat' (first | with_reducible assumption | with_reducible apply State.modFlight_ev
                 | with_reducible apply State.dropWrite_ev | with_reducible apply State.bumpPort_ev
                 | with_reducible apply State.bufGive_ev | with_reducible apply State.writeOver_ev
                 | with_reducible apply State.modWrite_ev | with_reducible apply Evolves.ite)

theorem State.ingFault_ev {z s : State} (h : Evolves z s) (port : Nat) (w : IngWrite) :
    Evolves z (State.ingFault s port w) := by
  unfold State.ingFault
  try dsimp only
  repeat' (first | with_reducible assumption | with_reducible apply State.pageFault_ev
                 | with_reducible apply State.ingDrop_ev)

theorem State.tapOver_ev {z s : State} (h : Evolves z s) (src : Nat) (t : Nat) (fr : Nat) :
    Evolves z (State.tapOver s src t fr) := by
  unfold State.tapOver
  try dsimp only
  repeat' (first | with_reducible assumption | with_reducible apply State.modFlight_ev)

theorem State.dropTap_ev {z s : State} (h : Evolves z s) (q : Nat) (p : TapWrite → Bool) :
    Evolves z (State.dropTap s q p) := by
  unfold State.dropTap
  try dsimp only
  repeat' (first | with_reducible assumption | with_reducible apply State.putTapWrites_ev)

theorem State.modTap_ev {z s : State} (h : Evolves z s) (q : Nat) (id : Nat) (g : TapWrite → TapWrite) :
    Evolves z (State.modTap s q id g) := by
  unfold State.modTap
  try dsimp only
  repeat' (first | with_reducible assumption | with_reducible apply State.putTapWrites_ev)

theorem State.tapLost_ev {z s : State} (h : Evolves z s) (q : Nat) (w : TapWrite) :
    Evolves z (State.tapLost s q w) := by
  unfold State.tapLost
  try dsimp only
  repeat' (first | with_reducible assumption | with_reducible apply State.tapOver_ev
                 | with_reducible apply State.dropTap_ev | with_reducible apply State.modTap_ev
                 | with_reducible apply State.bumpFront_ev | with_reducible apply State.putTap_ev
                 | with_reducible apply State.tapEnd_ev | split)

theorem State.tapFault_ev {z s : State} (h : Evolves z s) (q : Nat) (w : TapWrite) :
    Evolves z (State.tapFault s q w) := by
  unfold State.tapFault
  try dsimp only
  repeat' (first | with_reducible assumption | with_reducible apply State.pageFault_ev
                 | with_reducible apply State.tapLost_ev)

theorem State.putBusy_ev {z s : State} (h : Evolves z s) (f : Option FrontStripe) :
    Evolves z (State.putBusy s f) := by
  unfold State.putBusy
  try dsimp only
  repeat' (first | with_reducible assumption | fail_if_no_progress (with_reducible refine Evolves.upd ?_ (by rfl)))

theorem State.sharedTap_ev {z s : State} (h : Evolves z s) (f : FrontStripe) (y : Nat) :
    Evolves z (State.sharedTap s f y) := by
  unfold State.sharedTap
  try dsimp only
  repeat' (first | with_reducible assumption | with_reducible apply State.frontTaps_ev)

theorem State.sharedTaps_ev {z s : State} (h : Evolves z s) :
    Evolves z (State.sharedTaps s) := by
  unfold State.sharedTaps
  try dsimp only
  repeat' (first | with_reducible assumption | with_reducible apply State.putBusy_ev
                 | with_reducible apply State.sharedTap_ev | with_reducible refine Evolves.foldl ?_ (fun _ _ _ => ?_)
                 | split)

theorem State.openFrontStrm_ev {z s : State} (h : Evolves z s) (f : FrontStripe) :
    Evolves z (State.openFrontStrm s f) := by
  unfold State.openFrontStrm
  try dsimp only
  repeat' (first | with_reducible assumption | with_reducible apply State.putBusy_ev
                 | with_reducible apply State.putStrm_ev | split)

theorem State.frontAdvance_ev {z s0 : State} (h : Evolves z s0) :
    Evolves z (State.frontAdvance s0) := by
  unfold State.frontAdvance
  try dsimp only
  repeat' (first | with_reducible assumption | with_reducible apply State.sharedTaps_ev
                 | with_reducible apply State.endIfDone_ev | with_reducible apply State.putStrm_ev
                 | with_reducible apply State.putBusy_ev | with_reducible apply State.openFrontStrm_ev | split)

theorem State.frontGot_ev {z s : State} (h : Evolves z s) (slot : Nat) (pos : Nat) (bs : List Byte) :
    Evolves z (State.frontGot s slot pos bs) := by
  unfold State.frontGot
  try dsimp only
  repeat' (first | with_reducible assumption | fail_if_no_progress (with_reducible refine Evolves.upd ?_ (by rfl)))

theorem State.putChan_ev {z s : State} (h : Evolves z s) (c : Nat) (x : Chan) :
    Evolves z (State.putChan s c x) := by
  unfold State.putChan
  try dsimp only
  repeat' (first | with_reducible assumption | fail_if_no_progress (with_reducible refine Evolves.upd ?_ (by rfl)))

theorem State.sourceFrame_ev {z s : State} (h : Evolves z s) (c : Nat) (src : Nat) (frame : Option (Nat × Nat)) :
    Evolves z (State.sourceFrame s c src frame).2 := by
  unfold State.sourceFrame
  try dsimp only
  repeat' (first | with_reducible assumption | with_reducible apply State.freeN_ev | split)

theorem State.dmaRecord_ev {z s0 : State} (h : Evolves z s0) (c : Nat) (status : Nat) (tag : Nat) (index : Nat) (cause : Nat) (done
    : Nat) (addr : Nat) (src : Nat) (frame : Option (Nat × Nat)) (irq : Bool) :
    Evolves z (State.dmaRecord s0 c status tag index cause done addr src frame irq) := by
  unfold State.dmaRecord
  try dsimp only
  repeat' (first | with_reducible assumption | with_reducible apply State.sourceFrame_ev
                 | with_reducible apply State.addAux_ev | with_reducible apply State.putChan_ev)

theorem State.abortRest_ev {z s : State} (h : Evolves z s) (c : Nat) (n : Nat) : Evolves z (s.abortRest c n) := by
  induction n generalizing s with
  | zero => exact h
  | succ n ih =>
    unfold State.abortRest
    dsimp only
    repeat' (first | with_reducible assumption | with_reducible apply ih | with_reducible apply State.dmaRecord_ev
                   | with_reducible apply State.freeN_ev | with_reducible apply Evolves.ite | split)

theorem State.chanRest_ev {z s : State} (h : Evolves z s) (c : Nat) :
    Evolves z (State.chanRest s c) := by
  unfold State.chanRest
  try dsimp only
  repeat' (first | with_reducible assumption | with_reducible apply State.putChan_ev
                 | with_reducible apply State.abortRest_ev | split)

theorem State.hostArrived_ev {z s : State} (h : Evolves z s) (src : Nat) (fr : Nat) (lines : Nat) :
    Evolves z (State.hostArrived s src fr lines) := by
  unfold State.hostArrived
  try dsimp only
  repeat' (first | with_reducible assumption | with_reducible apply State.modFlight_ev)

theorem State.hostRecord_ev {z s : State} (h : Evolves z s) (c : Nat) (src : Nat) (fr : Nat) :
    Evolves z (State.hostRecord s c src fr) := by
  unfold State.hostRecord
  try dsimp only
  repeat' (first | with_reducible assumption | with_reducible apply State.addAux_ev
                 | with_reducible apply State.pageFault_ev | with_reducible apply State.modFlight_ev | split)

theorem State.closeHost_ev {z s : State} (h : Evolves z s) (src : Nat) (fr : Nat) (lines : Nat) (cancelled : Bool) :
    Evolves z (State.closeHost s src fr lines cancelled) := by
  unfold State.closeHost
  try dsimp only
  repeat' (first | with_reducible assumption | with_reducible apply State.modFlight_ev
                 | with_reducible apply State.hostArrived_ev | with_reducible apply State.raise_ev
                 | with_reducible apply State.hostRecord_ev | with_reducible refine Evolves.foldl ?_ (fun _ _ _ => ?_)
                 | split)

theorem State.jobRecord_ev {z s : State} (h : Evolves z s) (c : Nat) (j : Job) :
    Evolves z (State.jobRecord s c j) := by
  unfold State.jobRecord
  try dsimp only
  repeat' (first | with_reducible assumption | with_reducible apply State.dmaRecord_ev
                 | with_reducible apply State.raise_ev | split)

theorem State.chanSettle_ev {z s : State} (h : Evolves z s) (c : Nat) (n : Nat) : Evolves z (s.chanSettle c n) := by
  induction n generalizing s with
  | zero => exact h
  | succ n ih =>
    unfold State.chanSettle
    dsimp only
    repeat' (first | with_reducible assumption | with_reducible apply ih | with_reducible apply State.chanRest_ev
                   | with_reducible apply State.jobRecord_ev | with_reducible apply State.putChan_ev
                   | with_reducible apply State.closeHost_ev | with_reducible apply Evolves.ite | split)

theorem State.settleChan_ev {z s : State} (h : Evolves z s) (c : Nat) :
    Evolves z (State.settleChan s c) := by
  unfold State.settleChan
  try dsimp only
  repeat' (first | with_reducible assumption | with_reducible apply State.chanSettle_ev)

theorem State.modJob_ev {z s : State} (h : Evolves z s) (c : Nat) (id : Nat) (g : Job → Job) :
    Evolves z (State.modJob s c id g) := by
  unfold State.modJob
  try dsimp only
  repeat' (first | with_reducible assumption | with_reducible apply State.putChan_ev)

theorem State.jobGot_ev {z s : State} (h : Evolves z s) (c : Nat) (id : Nat) (pos : Nat) (bs : List Byte) :
    Evolves z (State.jobGot s c id pos bs) := by
  unfold State.jobGot
  try dsimp only
  repeat' (first | with_reducible assumption | with_reducible apply State.modJob_ev)

theorem State.failJob_ev {z s : State} (h : Evolves z s) (c : Nat) (id : Nat) (pos : Nat) (cause : Nat) (addr : Nat) (device : Bool) :
    Evolves z (State.failJob s c id pos cause addr device) := by
  unfold State.failJob
  try dsimp only
  repeat' (first | with_reducible assumption | with_reducible apply State.modJob_ev
                 | with_reducible apply State.putChan_ev | split)

theorem State.gotDescs_ev {z s : State} (h : Evolves z s) (c : Nat) (index : Nat) (count : Nat) (bad : Option Nat) (bs : List
    Byte) :
    Evolves z (State.gotDescs s c index count bad bs) := by
  unfold State.gotDescs
  try dsimp only
  repeat' (first | with_reducible assumption | with_reducible apply State.settleChan_ev
                 | with_reducible apply State.putChan_ev | split)

theorem State.eccUncorr_ev {z s : State} (h : Evolves z s) (port : Nat) :
    Evolves z (State.eccUncorr s port) := by
  unfold State.eccUncorr
  try dsimp only
  repeat' (first | with_reducible assumption | with_reducible apply State.bumpPort_ev
                 | with_reducible apply State.putIng_ev
                 | fail_if_no_progress (with_reducible refine Evolves.upd ?_ (by rfl)))

theorem State.eccCorr_ev {z s : State} (h : Evolves z s) (port : Nat) (src : Option Nat) :
    Evolves z (State.eccCorr s port src) := by
  unfold State.eccCorr
  try dsimp only
  repeat' (first | with_reducible assumption | with_reducible apply State.bumpPort_ev
                 | fail_if_no_progress (with_reducible refine Evolves.upd ?_ (by rfl)) | split)

theorem State.header_ev {z s : State} (h : Evolves z s) (port : Nat) (vc : Nat) (ecc : Nat) (start : Bool) :
    Evolves z (State.header s port vc ecc start).1 := by
  unfold State.header
  try dsimp only
  repeat' (first | with_reducible assumption | with_reducible apply State.putIng_ev
                 | with_reducible apply State.eccUncorr_ev | with_reducible apply State.eccCorr_ev
                 | with_reducible apply Evolves.ite | with_reducible apply Evolves.ite1)

theorem genlockEdge_ev {z s : State} (h : Evolves z s) (width : Nat) :
    Evolves z (genlockEdge width s) := by
  unfold genlockEdge
  try dsimp only
  repeat' (first | with_reducible assumption | with_reducible apply State.setEvt_ev
                 | fail_if_no_progress (with_reducible refine Evolves.upd ?_ (by rfl)) | split)

theorem State.putSp_ev {z s : State} (h : Evolves z s) (n : Nat) (p : SctlPort) :
    Evolves z (State.putSp s n p) := by
  unfold State.putSp
  try dsimp only
  repeat' (first | with_reducible assumption | fail_if_no_progress (with_reducible refine Evolves.upd ?_ (by rfl)))

theorem State.scRdata_ev {z s : State} (h : Evolves z s) (n : Nat) :
    Evolves z (State.scRdata s n).2 := by
  unfold State.scRdata
  try dsimp only
  repeat' (first | with_reducible assumption | with_reducible apply State.putSp_ev | split)

theorem State.scIbi_ev {z s : State} (h : Evolves z s) (n : Nat) :
    Evolves z (State.scIbi s n).2 := by
  unfold State.scIbi
  try dsimp only
  repeat' (first | with_reducible assumption | with_reducible apply State.putSp_ev | split)

theorem State.abortChan_ev {z s : State} (h : Evolves z s) (c : Nat) (cause : Nat) :
    Evolves z (State.abortChan s c cause) := by
  unfold State.abortChan
  try dsimp only
  repeat' (first | with_reducible assumption | with_reducible apply State.settleChan_ev
                 | with_reducible apply State.putChan_ev)

theorem State.dmaRearm_ev {z s : State} (h : Evolves z s) (abort : Bool) :
    Evolves z (State.dmaRearm s abort) := by
  unfold State.dmaRearm
  try dsimp only
  repeat' (first | with_reducible assumption | with_reducible apply State.abortChan_ev
                 | with_reducible apply State.settleChan_ev | with_reducible apply State.putChan_ev
                 | with_reducible refine Evolves.foldl ?_ (fun _ _ _ => ?_) | split)

theorem State.putSegment_ev {z s : State} (h : Evolves z s) (l : Nat) (t : Tag) (pieces : List (Nat × List Byte)) :
    Evolves z (State.putSegment s l t pieces) := by
  unfold State.putSegment
  try dsimp only
  repeat' (first | with_reducible assumption | with_reducible apply State.publish_ev | with_reducible apply State.wr_ev
                 | with_reducible apply State.takeWait_ev | with_reducible apply Evolves.ite
                 | with_reducible refine Evolves.foldl ?_ (fun _ _ _ => ?_))

theorem State.sharedPublish_ev {z s : State} (h : Evolves z s) (l : Nat) (f : FrontStripe) (bs : List Byte) (k : Nat) (n
    : Nat) :
    Evolves z (s.sharedPublish l f bs k n).1 := by
  induction n generalizing s f with
  | zero => exact h
  | succ n ih =>
    unfold State.sharedPublish
    exact Evolves.ite1 h (ih (State.putSegment_ev h _ _ _) _)

theorem sharedStripeDone_ev {z s0 : State} (h : Evolves z s0) :
    Evolves z (sharedStripeDone s0) := by
  unfold sharedStripeDone
  try dsimp only
  repeat' (first | with_reducible assumption | with_reducible apply State.frontAdvance_ev
                 | with_reducible apply State.useFree_ev | with_reducible apply State.sharedPublish_ev
                 | with_reducible apply State.putBusy_ev | with_reducible apply State.bump64_ev
                 | with_reducible apply State.wakeAll_ev | split)

theorem sensorIbi_ev {z s : State} (h : Evolves z s) (n : Nat) (addr : Nat) (payload : List Byte) :
    Evolves z (sensorIbi n addr payload s) := by
  unfold sensorIbi
  try dsimp only
  repeat' (first | with_reducible assumption | with_reducible apply State.out_ev | with_reducible apply State.putSp_ev
                 | with_reducible apply Evolves.ite)

theorem State.dmaArm_ev {z s : State} (h : Evolves z s) :
    Evolves z (State.dmaArm s) := by
  unfold State.dmaArm
  try dsimp only
  repeat' (first | with_reducible assumption | fail_if_no_progress (with_reducible refine Evolves.upd ?_ (by rfl)))

theorem State.beginOp_ev {z s : State} (h : Evolves z s) (n : Nat) (c : Nat) (o : Op) :
    Evolves z (State.beginOp s n c o) := by
  unfold State.beginOp
  try dsimp only
  repeat' (first | with_reducible assumption | with_reducible apply State.putCore_ev
                 | with_reducible apply State.startOp_ev | with_reducible apply Evolves.ite)

theorem State.putSlots_ev {z s : State} (h : Evolves z s) (src : Nat) (x : SlotState) :
    Evolves z (State.putSlots s src x) := by
  unfold State.putSlots
  try dsimp only
  repeat' (first | with_reducible assumption | fail_if_no_progress (with_reducible refine Evolves.upd ?_ (by rfl)))

theorem State.expireTo_ev {z s : State} (h : Evolves z s) (src : Nat) (k : Nat) :
    Evolves z (State.expireTo s src k) := by
  unfold State.expireTo
  try dsimp only
  repeat' (first | with_reducible assumption | with_reducible apply State.putSlots_ev
                 | with_reducible apply State.bumpN_ev | with_reducible apply State.bumpPort_ev
                 | with_reducible apply Evolves.ite | intro _)

theorem State.lockViolation_ev {z s : State} (h : Evolves z s) (addr : Nat) (lock : Nat) (origin : Nat) :
    Evolves z (State.lockViolation s addr lock origin) := by
  unfold State.lockViolation
  try dsimp only
  repeat' (first | with_reducible assumption | with_reducible apply State.raise_ev)

theorem State.outBegun_ev {z s : State} (h : Evolves z s) (n : Nat) (c : Nat) (t : Option Tag) :
    Evolves z (State.outBegun s n c t) := by
  unfold State.outBegun
  try dsimp only
  repeat' (first | with_reducible assumption | fail_if_no_progress (with_reducible refine Evolves.upd ?_ (by rfl)) | split)

theorem State.activate_ev {z s : State} (h : Evolves z s) (n : Nat) (c : Nat) (o : Op) (foldW : FoldW) (p : Place) (slot : Nat)
    (t : Tens) (write : Bool) :
    Evolves z (State.activate s n c o foldW p slot t write) := by
  unfold State.activate
  try dsimp only
  repeat' (first | with_reducible assumption | with_reducible apply State.putStrm_ev
                 | with_reducible apply State.lockViolation_ev | with_reducible apply State.putCore_ev
                 | with_reducible apply State.outBegun_ev | split)

theorem State.csiFault_ev {z s : State} (h : Evolves z s) (f : Flight) (cls : Nat) (count : Nat) :
    Evolves z (State.csiFault s f cls count) := by
  unfold State.csiFault
  try dsimp only
  repeat' (first | with_reducible assumption | with_reducible apply State.raise_ev)

theorem State.queueSets_ev {z s : State} (h : Evolves z s) (src : Nat) (f : Nat) :
    Evolves z (State.queueSets s src f) := by
  unfold State.queueSets
  try dsimp only
  repeat' (first | with_reducible assumption | with_reducible apply State.modFlight_ev
                 | with_reducible apply State.putSp_ev | split)

theorem State.inlFetch_ev {z s : State} (h : Evolves z s) (port : Nat) (src : Nat) (fr : Nat) (n : Nat) :
    Evolves z (State.inlFetch s port src fr n) := by
  unfold State.inlFetch
  try dsimp only
  repeat' (first | with_reducible assumption | with_reducible apply State.addAux_ev
                 | with_reducible apply State.modInl_ev | with_reducible refine Evolves.foldl ?_ (fun _ _ _ => ?_) | split)

theorem State.closeFrame_ev {z s : State} (h : Evolves z s) (f0 : Flight) (aborted : Bool) :
    Evolves z (State.closeFrame s f0 aborted) := by
  unfold State.closeFrame
  try dsimp only
  repeat' (first | with_reducible assumption | with_reducible apply State.bumpPort_ev
                 | with_reducible apply State.putFlight_ev | with_reducible apply State.csiFault_ev
                 | with_reducible apply State.modInl_ev | with_reducible apply State.queueSets_ev
                 | with_reducible apply State.recordIfReady_ev | with_reducible apply State.inlFetch_ev
                 | with_reducible apply Evolves.ite)

theorem State.psActivate_ev {z s : State} (h : Evolves z s) (src : Nat) (f : Nat) (host : Bool) :
    Evolves z (State.psActivate s src f host) := by
  unfold State.psActivate
  try dsimp only
  repeat' (first | with_reducible assumption | with_reducible apply State.putPs_ev | with_reducible apply State.wr_ev
                 | split)

theorem State.readSet_ev {z s : State} (h : Evolves z s) (src : Nat) (f : Nat) (slot : Nat) :
    Evolves z (State.readSet s src f slot) := by
  unfold State.readSet
  try dsimp only
  repeat' (first | with_reducible assumption | with_reducible apply State.addAux_ev)

theorem State.markParamLate_ev {z s : State} (h : Evolves z s) (src : Nat) (f : Nat) :
    Evolves z (State.markParamLate s src f) := by
  unfold State.markParamLate
  try dsimp only
  repeat' (first | with_reducible assumption | with_reducible apply State.bumpFront_ev
                 | with_reducible apply State.markFrame_ev | split)

theorem State.psBound_ev {z s : State} (h : Evolves z s) (src : Nat) (f : Nat) :
    Evolves z (State.psBound s src f) := by
  unfold State.psBound
  try dsimp only
  repeat' (first | with_reducible assumption | with_reducible apply State.putPs_ev
                 | with_reducible apply State.markParamLate_ev | split)

theorem State.openFrame_ev {z s : State} (h : Evolves z s) (src : Nat) (fr : Nat) (host : Bool) (plate : Nat) (expect : Nat)
    (csiFn : Nat) (late : Bool) (lateUs : Nat) (corr : Nat) :
    Evolves z (State.openFrame s src fr host plate expect csiFn late lateUs corr) := by
  unfold State.openFrame
  try dsimp only
  repeat' (first | with_reducible assumption | with_reducible apply State.psActivate_ev
                 | with_reducible apply State.readSet_ev | with_reducible apply State.psBound_ev
                 | fail_if_no_progress (with_reducible refine Evolves.upd ?_ (by rfl)))

theorem State.acceptStart_ev {z s : State} (h : Evolves z s) (src : Nat) (fr : Nat) (expect : Nat) (fn : Nat) (corr : Nat) :
    Evolves z (State.acceptStart s src fr expect fn corr) := by
  unfold State.acceptStart
  try dsimp only
  repeat' (first | with_reducible assumption | with_reducible apply State.closeFrame_ev
                 | with_reducible apply State.openFrame_ev | with_reducible apply State.bumpPort_ev
                 | fail_if_no_progress (with_reducible refine Evolves.upd ?_ (by rfl)) | split)

theorem State.start0_ev {z s : State} (h : Evolves z s) (src : Nat) (fn : Nat) (corr : Nat) :
    Evolves z (State.start0 s src fn corr) := by
  unfold State.start0
  try dsimp only
  repeat' (first | with_reducible assumption | with_reducible apply State.putSlots_ev
                 | with_reducible apply State.bumpPort_ev | with_reducible apply State.closeFrame_ev
                 | with_reducible apply State.acceptStart_ev | with_reducible apply State.expireTo_ev | split)

theorem hsBurstEnd_ev {z s : State} (h : Evolves z s) (port : Nat) :
    Evolves z (hsBurstEnd port s) := by
  unfold hsBurstEnd
  try dsimp only
  repeat' (first | with_reducible assumption | with_reducible apply State.putIng_ev | with_reducible apply Evolves.ite)

theorem State.putFs_ev {z s : State} (h : Evolves z s) (j : Nat) (o : FsOut) :
    Evolves z (State.putFs s j o) := by
  unfold State.putFs
  try dsimp only
  repeat' (first | with_reducible assumption | fail_if_no_progress (with_reducible refine Evolves.upd ?_ (by rfl)))

theorem State.txStop_ev {z s : State} (h : Evolves z s) (port : Nat) :
    Evolves z (State.txStop s port) := by
  unfold State.txStop
  try dsimp only
  repeat' (first | with_reducible assumption | with_reducible apply State.putPort_ev)

theorem State.updTarget_ev {z s : State} (h : Evolves z s) :
    Evolves z (State.updTarget s) := by
  unfold State.updTarget
  try dsimp only
  repeat' (first | with_reducible assumption | with_reducible apply State.out_ev | with_reducible apply Evolves.ite
                 | fail_if_no_progress (with_reducible refine Evolves.upd ?_ (by rfl)))

theorem State.mclkWrite_ev {z s : State} (h : Evolves z s) (n : Nat) (w : Word) :
    Evolves z (State.mclkWrite s n w) := by
  unfold State.mclkWrite
  try dsimp only
  repeat' (first | with_reducible assumption | with_reducible apply State.rput_ev | with_reducible apply Evolves.ite)

theorem State.setWriteDone_ev {z s : State} (h : Evolves z s) (src : Nat) (key : Nat) (nack : Bool) :
    Evolves z (State.setWriteDone s src key nack) := by
  unfold State.setWriteDone
  try dsimp only
  repeat' (first | with_reducible assumption | with_reducible apply State.putPs_ev
                 | with_reducible apply State.markParamLate_ev | split)

theorem sensorDone_ev {z s : State} (h : Evolves z s) (n : Nat) (rdata : List Word) (nack : Bool) :
    Evolves z (sensorDone n rdata nack s) := by
  unfold sensorDone
  try dsimp only
  repeat' (first | with_reducible assumption | with_reducible apply State.setWriteDone_ev
                 | with_reducible apply State.putSp_ev | split)

theorem State.addJob_ev {z s : State} (h : Evolves z s) (c : Nat) (j : Job) :
    Evolves z (State.addJob s c j) := by
  unfold State.addJob
  try dsimp only
  repeat' (first | with_reducible assumption | with_reducible apply State.settleChan_ev
                 | with_reducible apply State.putChan_ev)

theorem sourceAccept_ev {z s : State} (h : Evolves z s) (c : Nat) :
    Evolves z (sourceAccept c s) := by
  unfold sourceAccept
  try dsimp only
  repeat' (first | with_reducible assumption | with_reducible apply State.putSlots_ev
                 | with_reducible apply State.bumpN_ev | with_reducible apply State.bumpChan_ev
                 | with_reducible apply State.openFrame_ev | with_reducible apply State.addJob_ev
                 | with_reducible apply State.closeHost_ev | split | intro _)

theorem State.fsStart_ev {z s : State} (h : Evolves z s) :
    Evolves z (State.fsStart s) := by
  unfold State.fsStart
  try dsimp only
  repeat' (first | with_reducible assumption | with_reducible apply State.putFs_ev | with_reducible apply State.out_ev
                 | with_reducible apply Evolves.ite | with_reducible refine Evolves.foldl ?_ (fun _ _ _ => ?_)
                 | fail_if_no_progress (with_reducible refine Evolves.upd ?_ (by rfl)))

theorem State.startTimetable_ev {z s : State} (h : Evolves z s) :
    Evolves z (State.startTimetable s) := by
  unfold State.startTimetable
  try dsimp only
  repeat' (first | with_reducible assumption | with_reducible apply State.fsStart_ev
                 | fail_if_no_progress (with_reducible refine Evolves.upd ?_ (by rfl)))

theorem chStart_ev {z s : State} (h : Evolves z s) (c : Nat) :
    Evolves z (chStart c s) := by
  unfold chStart
  try dsimp only
  repeat' (first | with_reducible assumption | with_reducible apply State.putChan_ev | with_reducible apply Evolves.ite)

theorem chStop_ev {z s : State} (h : Evolves z s) (c : Nat) :
    Evolves z (chStop c s) := by
  unfold chStop
  try dsimp only
  repeat' (first | with_reducible assumption | with_reducible apply State.settleChan_ev
                 | with_reducible apply State.putChan_ev | with_reducible apply Evolves.ite)

theorem chAbort_ev {z s : State} (h : Evolves z s) (c : Nat) :
    Evolves z (chAbort c s) := by
  unfold chAbort
  try dsimp only
  repeat' (first | with_reducible assumption | with_reducible apply State.abortChan_ev | with_reducible apply Evolves.ite)

theorem chRestart_ev {z s : State} (h : Evolves z s) (c : Nat) :
    Evolves z (chRestart c s) := by
  unfold chRestart
  try dsimp only
  repeat' (first | with_reducible assumption | with_reducible apply State.putChan_ev | with_reducible apply Evolves.ite)

theorem chResetIdx_ev {z s : State} (h : Evolves z s) (c : Nat) :
    Evolves z (chResetIdx c s) := by
  unfold chResetIdx
  try dsimp only
  repeat' (first | with_reducible assumption | with_reducible apply State.putChan_ev | with_reducible apply Evolves.ite)

theorem State.produceTaps_ev {z s : State} (h : Evolves z s) :
    Evolves z (State.produceTaps s) := by
  unfold State.produceTaps
  try dsimp only
  repeat' (first | with_reducible assumption | with_reducible apply State.inlTaps_ev
                 | with_reducible apply State.sharedTaps_ev)

theorem frameStart_ev {z s : State} (h : Evolves z s) (port : Nat) (vc : Nat) (fn : Nat) (ecc : Nat) :
    Evolves z (frameStart port vc fn ecc s) := by
  unfold frameStart
  try dsimp only
  repeat' (first | with_reducible assumption | with_reducible apply State.header_ev
                 | with_reducible apply State.start0_ev | with_reducible apply State.bumpPort_ev
                 | with_reducible refine Evolves.ofFst (by with_reducible assumption) ?_ | split)

theorem State.bufTake_ev {z s : State} (h : Evolves z s) (port : Nat) (n : Nat) :
    Evolves z (State.bufTake s port n) := by
  unfold State.bufTake
  try dsimp only
  repeat' (first | with_reducible assumption | with_reducible apply State.putIng_ev)

theorem State.pushWrite_ev {z s : State} (h : Evolves z s) (port : Nat) (w : IngWrite) :
    Evolves z (State.pushWrite s port w) := by
  unfold State.pushWrite
  try dsimp only
  repeat' (first | with_reducible assumption | with_reducible apply State.modFlight_ev
                 | with_reducible apply State.addWrite_ev | with_reducible apply State.bufTake_ev
                 | with_reducible apply Evolves.ite)

theorem State.takeEmb_ev {z s : State} (h : Evolves z s) (port : Nat) (f : Flight) (bs : List Byte) :
    Evolves z (State.takeEmb s port f bs) := by
  unfold State.takeEmb
  try dsimp only
  repeat' (first | with_reducible assumption | with_reducible apply State.modFlight_ev
                 | with_reducible apply State.bumpPort_ev | with_reducible apply State.pushWrite_ev
                 | with_reducible apply Evolves.ite)

theorem shortPacket_ev {z s : State} (h : Evolves z s) (port : Nat) (vc : Nat) (ecc : Nat) :
    Evolves z (shortPacket port vc ecc s) := by
  unfold shortPacket
  try dsimp only
  repeat' (first | with_reducible assumption | with_reducible apply State.header_ev)

theorem frameSlotExpire_ev {z s : State} (h : Evolves z s) (src : Nat) :
    Evolves z (frameSlotExpire src s) := by
  unfold frameSlotExpire
  try dsimp only
  repeat' (first | with_reducible assumption | with_reducible apply State.expireTo_ev | with_reducible apply Evolves.ite)

theorem State.txPiece_ev {z s : State} (h : Evolves z s) (port : Nat) (k : Nat) (x : Strm) (g : Tag) (p : Nat × Nat × List Byte) :
    Evolves z (State.txPiece s port k x g p) := by
  unfold State.txPiece
  try dsimp only
  repeat' (first | with_reducible assumption | with_reducible apply State.bumpTx_ev
                 | with_reducible apply State.putPort_ev | split)

theorem State.putTxStrm_ev {z s : State} (h : Evolves z s) (port : Nat) (k : Nat) (x : TxStream) :
    Evolves z (State.putTxStrm s port k x) := by
  unfold State.putTxStrm
  try dsimp only
  repeat' (first | with_reducible assumption | with_reducible apply State.putPort_ev)

theorem State.txTake_ev {z s : State} (h : Evolves z s) (x : Strm) (pos : Nat) (bs : List Byte) :
    Evolves z (State.txTake s x pos bs) := by
  unfold State.txTake
  try dsimp only
  repeat' (first | with_reducible assumption | with_reducible apply State.txPiece_ev
                 | with_reducible apply State.putTxStrm_ev | with_reducible refine Evolves.foldl ?_ (fun _ _ _ => ?_)
                 | split)

theorem State.pllCfgWrite_ev {z s : State} (h : Evolves z s) (n : Nat) (w : Word) :
    Evolves z (State.pllCfgWrite s n w) := by
  unfold State.pllCfgWrite
  try dsimp only
  repeat' (first | with_reducible assumption | with_reducible apply State.rput_ev | with_reducible apply Evolves.ite
                 | fail_if_no_progress (with_reducible refine Evolves.upd ?_ (by rfl)))

theorem State.skipSlots_ev {z s : State} (h : Evolves z s) :
    Evolves z (State.skipSlots s) := by
  unfold State.skipSlots
  try dsimp only
  repeat' (first | with_reducible assumption | with_reducible apply State.putSlots_ev
                 | with_reducible apply Evolves.ite | with_reducible refine Evolves.foldl ?_ (fun _ _ _ => ?_))

theorem State.sscWrite_ev {z s : State} (h : Evolves z s) (n : Nat) (w : Word) :
    Evolves z (State.sscWrite s n w) := by
  unfold State.sscWrite
  try dsimp only
  repeat' (first | with_reducible assumption | with_reducible apply State.rput_ev | with_reducible apply Evolves.ite)

theorem State.fuseProgram_ev {z s : State} (h : Evolves z s) (p : Path) :
    Evolves z (State.fuseProgram s p) := by
  unfold State.fuseProgram
  try dsimp only
  repeat' (first | with_reducible assumption | with_reducible apply State.out_ev | with_reducible apply Evolves.ite
                 | fail_if_no_progress (with_reducible refine Evolves.upd ?_ (by rfl)))

theorem scCmdWrite_ev {z s : State} (h : Evolves z s) (n : Nat) (w : Word) :
    Evolves z (scCmdWrite n w s) := by
  unfold scCmdWrite
  try dsimp only
  repeat' (first | with_reducible assumption | with_reducible apply State.putSp_ev | with_reducible apply Evolves.ite)

theorem scFlush_ev {z s : State} (h : Evolves z s) (n : Nat) :
    Evolves z (scFlush n s) := by
  unfold scFlush
  try dsimp only
  repeat' (first | with_reducible assumption | with_reducible apply State.putSp_ev)

theorem chDoorbell_ev {z s : State} (h : Evolves z s) (c : Nat) (pi : Nat) :
    Evolves z (chDoorbell c pi s) := by
  unfold chDoorbell
  try dsimp only
  repeat' (first | with_reducible assumption | with_reducible apply State.bumpChan_ev
                 | with_reducible apply State.putChan_ev | with_reducible apply Evolves.ite)

theorem psCtrl_ev {z s : State} (h : Evolves z s) (src : Nat) (commit : Bool) (next : Bool) (discard : Bool) :
    Evolves z (psCtrl src commit next discard s) := by
  unfold psCtrl
  try dsimp only
  repeat' (first | with_reducible assumption | with_reducible apply State.putPs_ev
                 | with_reducible apply State.bumpFront_ev | with_reducible apply Evolves.ite)

theorem State.psRearm_ev {z s : State} (h : Evolves z s) :
    Evolves z (State.psRearm s) := by
  unfold State.psRearm
  try dsimp only
  repeat' (first | with_reducible assumption | fail_if_no_progress (with_reducible refine Evolves.upd ?_ (by rfl)))

theorem State.dropInl_ev {z s : State} (h : Evolves z s) :
    Evolves z (State.dropInl s) := by
  unfold State.dropInl
  try dsimp only
  repeat' (first | with_reducible assumption | with_reducible apply State.bufGive_ev
                 | fail_if_no_progress (with_reducible refine Evolves.upd ?_ (by rfl)) | split)

theorem State.dmaTick_ev {z s : State} (h : Evolves z s) :
    Evolves z (State.dmaTick s) := by
  unfold State.dmaTick
  try dsimp only
  repeat' (first | with_reducible assumption | fail_if_no_progress (with_reducible refine Evolves.upd ?_ (by rfl)))

theorem State.cancelOps_ev {z s : State} (h : Evolves z s) (n : Nat) (slots : List Nat) :
    Evolves z (State.cancelOps s n slots) := by
  unfold State.cancelOps
  try dsimp only
  repeat' (first | with_reducible assumption | with_reducible apply State.cancelStrm_ev
                 | with_reducible refine Evolves.foldl ?_ (fun _ _ _ => ?_))

theorem State.txDrop_ev {z s : State} (h : Evolves z s) (port : Nat) (k : Nat) (fr : Nat) :
    Evolves z (State.txDrop s port k fr) := by
  unfold State.txDrop
  try dsimp only
  repeat' (first | with_reducible assumption | with_reducible apply State.putPort_ev)

theorem State.frameRecDone_ev {z s : State} (h : Evolves z s) (src : Nat) (fr : Nat) (bs : List Byte) :
    Evolves z (State.frameRecDone s src fr bs) := by
  unfold State.frameRecDone
  try dsimp only
  repeat' (first | with_reducible assumption | with_reducible apply State.modFlight_ev
                 | with_reducible apply State.putRec_ev | split)

theorem State.txOut_ev {z s : State} (h : Evolves z s) (port : Nat) (vc : Nat) (dt : Nat) (bs : List Byte) :
    Evolves z (State.txOut s port vc dt bs) := by
  unfold State.txOut
  try dsimp only
  repeat' (first | with_reducible assumption | with_reducible apply State.out_ev | with_reducible apply Evolves.ite)

theorem State.txNext_ev {z s : State} (h : Evolves z s) (port : Nat) :
    Evolves z (State.txNext s port) := by
  unfold State.txNext
  try dsimp only
  repeat' (first | with_reducible assumption | with_reducible apply State.txOut_ev
                 | with_reducible apply State.putPort_ev | split)

theorem State.endLeft_ev {z s : State} (h : Evolves z s) (port : Nat) (k : Nat) (src : Nat) (fr : Nat) :
    Evolves z (State.endLeft s port k src fr) := by
  unfold State.endLeft
  try dsimp only
  repeat' (first | with_reducible assumption | with_reducible apply State.modFlight_ev)

theorem State.txSend_ev {z s : State} (h : Evolves z s) (port : Nat) (ks : List TxPkt) :
    Evolves z (State.txSend s port ks) := by
  unfold State.txSend
  try dsimp only
  repeat' (first | with_reducible assumption | with_reducible apply State.txNext_ev | with_reducible apply State.putPort_ev)

theorem State.txStart_ev {z s : State} (h : Evolves z s) (port : Nat) (k : Nat) (f : Flight) :
    Evolves z (State.txStart s port k f) := by
  unfold State.txStart
  try dsimp only
  repeat' (first | with_reducible assumption | with_reducible apply State.endLeft_ev
                 | with_reducible apply State.bumpTx_ev | with_reducible apply State.txDrop_ev
                 | with_reducible apply State.txSend_ev | with_reducible apply State.putTxStrm_ev
                 | with_reducible apply Evolves.ite)

theorem frameCloseTimeout_ev {z s : State} (h : Evolves z s) (src : Nat) :
    Evolves z (frameCloseTimeout src s) := by
  unfold frameCloseTimeout
  try dsimp only
  repeat' (first | with_reducible assumption | with_reducible apply State.closeFrame_ev | split)

theorem State.fuseNext_ev {z s : State} (h : Evolves z s) :
    Evolves z (State.fuseNext s) := by
  unfold State.fuseNext
  try dsimp only
  repeat' (first | with_reducible assumption | with_reducible apply State.out_ev
                 | fail_if_no_progress (with_reducible refine Evolves.upd ?_ (by rfl)) | split)

theorem State.fuseWork_ev {z s : State} (h : Evolves z s) :
    Evolves z (State.fuseWork s) := by
  unfold State.fuseWork
  try dsimp only
  repeat' (first | with_reducible assumption | with_reducible apply State.out_ev
                 | with_reducible apply State.fuseNext_ev
                 | fail_if_no_progress (with_reducible refine Evolves.upd ?_ (by rfl)) | split)

theorem fuseDone_ev {z s : State} (h : Evolves z s) (readBack : Word) :
    Evolves z (fuseDone readBack s) := by
  unfold fuseDone
  try dsimp only
  repeat' (first | with_reducible assumption | with_reducible apply State.burn_ev
                 | with_reducible apply State.fuseWork_ev
                 | fail_if_no_progress (with_reducible refine Evolves.upd ?_ (by rfl)) | split)

theorem State.fsEmit_ev {z s : State} (h : Evolves z s) (j : Nat) (ctrl : Word) (t : Nat) (next : Option Nat) :
    Evolves z (State.fsEmit s j ctrl t next) := by
  unfold State.fsEmit
  try dsimp only
  repeat' (first | with_reducible assumption | with_reducible apply State.rput_ev | with_reducible apply State.outs_ev
                 | with_reducible apply Evolves.ite)

theorem fsyncPulse_ev {z s : State} (h : Evolves z s) (j : Nat) :
    Evolves z (fsyncPulse j s) := by
  unfold fsyncPulse
  try dsimp only
  repeat' (first | with_reducible assumption | with_reducible apply State.putFs_ev
                 | with_reducible apply State.fsEmit_ev
                 | fail_if_no_progress (with_reducible refine Evolves.upd ?_ (by rfl)) | split)

theorem State.dropImageCmds_ev {z s : State} (h : Evolves z s) :
    Evolves z (State.dropImageCmds s) := by
  unfold State.dropImageCmds
  try dsimp only
  repeat' (first | with_reducible assumption | fail_if_no_progress (with_reducible refine Evolves.upd ?_ (by rfl)))

theorem deskew_ev {z s : State} (h : Evolves z s) (port : Nat) :
    Evolves z (deskew port s) := by
  unfold deskew
  try dsimp only
  repeat' (first | with_reducible assumption | with_reducible apply State.putIng_ev | with_reducible apply Evolves.ite)

theorem State.openTens_ev {z s : State} (h : Evolves z s) (n : Nat) (c : Nat) (o : Op) (foldW : FoldW) (t : Tens) (write :
    Bool) (slots : List Nat) :
    Evolves z (State.openTens s n c o foldW t write slots).1 := by
  unfold State.openTens
  try dsimp only
  repeat' (first | with_reducible assumption | with_reducible apply State.activate_ev | split)

theorem State.openStreams_ev {z s : State} (h : Evolves z s) (n : Nat) (c : Nat) (o : Op) (foldW : FoldW) (slots : List Nat) :
    Evolves z (State.openStreams s n c o foldW slots).1 := by
  unfold State.openStreams
  try dsimp only
  repeat' (first | with_reducible assumption | with_reducible apply State.openTens_ev | split)

theorem State.noteResplit_ev {z s : State} (h : Evolves z s) (n : Nat) (c : Nat) (index : Nat) (o : Op) :
    Evolves z (State.noteResplit s n c index o) := by
  unfold State.noteResplit
  try dsimp only
  repeat' (first | with_reducible assumption | with_reducible apply State.rput_ev | with_reducible apply Evolves.ite)

theorem State.issueData_ev {z s : State} (h : Evolves z s) (n : Nat) (want : List Byte → Bool) :
    Evolves z (State.issueData n want s) := by
  unfold State.issueData
  try dsimp only
  repeat' (first | with_reducible assumption | with_reducible apply State.issueFail_ev
                 | with_reducible apply State.coreWaits_ev | with_reducible apply State.openStreams_ev
                 | with_reducible apply State.cancelOps_ev | with_reducible apply State.wake_ev
                 | with_reducible apply State.beginOp_ev | with_reducible apply State.noteResplit_ev
                 | with_reducible apply State.issued_ev | with_reducible apply State.fenceHead_ev | split)

theorem State.txLineSlot_ev {z s : State} (h : Evolves z s) (port : Nat) (k : Nat) (fr : Nat) (l : Nat) :
    Evolves z (State.txLineSlot s port k fr l) := by
  unfold State.txLineSlot
  try dsimp only
  repeat' (first | with_reducible assumption | with_reducible apply State.putPort_ev
                 | with_reducible apply State.bumpN_ev | with_reducible apply State.bumpTx_ev
                 | with_reducible apply State.markFrame_ev | with_reducible apply State.txSend_ev
                 | with_reducible apply State.useFree_ev | with_reducible apply State.putTxStrm_ev
                 | with_reducible apply Evolves.ite | intro _)

theorem State.tapAccepted_ev {z s : State} (h : Evolves z s) (q : Nat) (id : Nat) (n : Nat) :
    Evolves z (State.tapAccepted s q id n) := by
  unfold State.tapAccepted
  try dsimp only
  repeat' (first | with_reducible assumption | with_reducible apply State.modTap_ev
                 | with_reducible apply State.dropTap_ev | with_reducible apply State.tapEnd_ev
                 | with_reducible apply State.raiseVec_ev | with_reducible apply State.tapOver_ev | split)

theorem phyErr_ev {z s : State} (h : Evolves z s) (port : Nat) :
    Evolves z (phyErr port s) := by
  unfold phyErr
  try dsimp only
  repeat' (first | with_reducible assumption | with_reducible apply State.bumpPort_ev | with_reducible apply Evolves.ite)

theorem State.txAdvance_ev {z s : State} (h : Evolves z s) (port : Nat) (k : Nat) (fr : Nat) (sof : Nat) (i : Nat) :
    Evolves z (State.txAdvance s port k fr sof i) := by
  unfold State.txAdvance
  try dsimp only
  repeat' (first | with_reducible assumption | with_reducible apply State.putTxStrm_ev
                 | with_reducible apply State.txLineSlot_ev | with_reducible apply State.txSend_ev
                 | with_reducible apply Evolves.ite)

theorem txSlot_ev {z s : State} (h : Evolves z s) (port : Nat) (k : Nat) :
    Evolves z (txSlot port k s) := by
  unfold txSlot
  try dsimp only
  repeat' (first | with_reducible assumption | with_reducible apply State.txAdvance_ev
                 | with_reducible apply State.txStart_ev | split)

theorem State.txEnd_ev {z s : State} (h : Evolves z s) (port : Nat) (k : Nat) (fr : Nat) :
    Evolves z (State.txEnd s port k fr) := by
  unfold State.txEnd
  try dsimp only
  repeat' (first | with_reducible assumption | with_reducible apply State.endLeft_ev
                 | with_reducible apply State.bumpTx_ev | with_reducible apply State.putTxStrm_ev
                 | with_reducible apply State.raise_ev | with_reducible apply Evolves.ite)

theorem State.ingAccepted_ev {z s : State} (h : Evolves z s) (port : Nat) (id : Nat) (bs : List Byte) :
    Evolves z (State.ingAccepted s port id bs) := by
  unfold State.ingAccepted
  try dsimp only
  repeat' (first | with_reducible assumption | with_reducible apply State.frameRecDone_ev
                 | with_reducible apply State.dropWrite_ev | with_reducible apply State.modWrite_ev
                 | with_reducible apply State.bufGive_ev | with_reducible apply State.writeOver_ev | split)

theorem stallTimeout_ev {z s : State} (h : Evolves z s) (p : Nat) :
    Evolves z (stallTimeout p s) := by
  unfold stallTimeout
  try dsimp only
  repeat' (first | with_reducible assumption | with_reducible apply State.noteEvt_ev
                 | fail_if_no_progress (with_reducible refine Evolves.upd ?_ (by rfl)) | split)

theorem frameEnd_ev {z s : State} (h : Evolves z s) (port : Nat) (vc : Nat) (ecc : Nat) :
    Evolves z (frameEnd port vc ecc s) := by
  unfold frameEnd
  try dsimp only
  repeat' (first | with_reducible assumption | with_reducible apply State.header_ev
                 | with_reducible apply State.bumpPort_ev | with_reducible apply State.putFlight_ev
                 | with_reducible apply State.closeFrame_ev
                 | with_reducible refine Evolves.ofFst (by with_reducible assumption) ?_ | split)

theorem descriptorFetch_ev {z s : State} (h : Evolves z s) (c : Nat) :
    Evolves z (descriptorFetch c s) := by
  unfold descriptorFetch
  try dsimp only
  repeat' (first | with_reducible assumption | with_reducible apply State.addAux_ev
                 | with_reducible apply State.putChan_ev | with_reducible apply Evolves.ite)

theorem State.jobAccepted_ev {z s : State} (h : Evolves z s) (c : Nat) (id : Nat) (n : Nat) :
    Evolves z (State.jobAccepted s c id n) := by
  unfold State.jobAccepted
  try dsimp only
  repeat' (first | with_reducible assumption | with_reducible apply State.bump64_ev
                 | with_reducible apply State.modJob_ev | with_reducible apply State.hostArrived_ev
                 | with_reducible apply State.settleChan_ev | split)

theorem State.makeRelease_ev {z s : State} (h : Evolves z s) (r : Rel) :
    Evolves z (State.makeRelease s r) := by
  unfold State.makeRelease
  try dsimp only
  repeat' (first | with_reducible assumption | with_reducible apply State.bump64_ev
                 | with_reducible apply State.bumpEph_ev | with_reducible apply Evolves.ite
                 | fail_if_no_progress (with_reducible refine Evolves.upd ?_ (by rfl)))

theorem State.unstall_ev {z s : State} (h : Evolves z s) :
    Evolves z (State.unstall s) := by
  unfold State.unstall
  try dsimp only
  repeat' (first | with_reducible assumption | with_reducible apply State.makeRelease_ev
                 | fail_if_no_progress (with_reducible refine Evolves.upd ?_ (by rfl)) | split)

theorem sharedStripeStart_ev {z s0 : State} (h : Evolves z s0) :
    Evolves z (sharedStripeStart s0) := by
  unfold sharedStripeStart
  try dsimp only
  repeat' (first | with_reducible assumption | with_reducible apply State.parkBusy_ev
                 | with_reducible apply State.unstall_ev | with_reducible apply State.openFrontStrm_ev
                 | with_reducible apply State.putBusy_ev
                 | fail_if_no_progress (with_reducible refine Evolves.upd ?_ (by rfl)) | split)

theorem State.inlDrain_ev {z s : State} (h : Evolves z s) (port : Nat) (src : Nat) :
    Evolves z (State.inlDrain s port src) := by
  unfold State.inlDrain
  try dsimp only
  repeat' (first | with_reducible assumption | with_reducible apply State.bufGive_ev
                 | with_reducible apply State.modInl_ev | split)

theorem State.inlineLine_ev {z s : State} (h : Evolves z s) (port : Nat) (f : Flight) (x : Nat) (l : Nat) (bs : List Byte) :
    Evolves z (State.inlineLine s port f x l bs) := by
  unfold State.inlineLine
  try dsimp only
  repeat' (first | with_reducible assumption | with_reducible apply State.bufTake_ev
                 | with_reducible apply State.modInl_ev | with_reducible apply State.addAux_ev
                 | with_reducible apply State.inlDrain_ev | with_reducible apply Evolves.ite)

theorem State.takeLine_ev {z s : State} (h : Evolves z s) (port : Nat) (f : Flight) (x : Nat) (bs : List Byte) :
    Evolves z (State.takeLine s port f x bs) := by
  unfold State.takeLine
  try dsimp only
  repeat' (first | with_reducible assumption | with_reducible apply State.putFlight_ev
                 | with_reducible apply State.bumpPort_ev | with_reducible apply State.modFlight_ev
                 | with_reducible apply State.inlineLine_ev | with_reducible apply State.pushWrite_ev
                 | with_reducible apply State.inlFetch_ev | with_reducible apply State.queueSets_ev
                 | with_reducible apply Evolves.ite)

theorem longPacket_ev {z s : State} (h : Evolves z s) (port : Nat) (vc : Nat) (dt : Nat) (wc : Nat) (ecc : Nat) (data : List Byte)
    (crcOk : Bool) :
    Evolves z (longPacket port vc dt wc ecc data crcOk s) := by
  unfold longPacket
  try dsimp only
  repeat' (first | with_reducible assumption | with_reducible apply State.header_ev
                 | with_reducible apply State.putIng_ev | with_reducible apply State.bumpPort_ev
                 | with_reducible apply State.putFlight_ev | with_reducible apply State.takeLine_ev
                 | with_reducible apply State.takeEmb_ev
                 | with_reducible refine Evolves.ofFst (by with_reducible assumption) ?_ | split)

theorem txPacketSent_ev {z s : State} (h : Evolves z s) (port : Nat) :
    Evolves z (txPacketSent port s) := by
  unfold txPacketSent
  try dsimp only
  repeat' (first | with_reducible assumption | with_reducible apply State.putPort_ev
                 | with_reducible apply State.bump64_ev | with_reducible apply State.txEnd_ev
                 | with_reducible apply State.txNext_ev | split)

theorem State.txArm_ev {z s : State} (h : Evolves z s) :
    Evolves z (State.txArm s) := by
  unfold State.txArm
  try dsimp only
  repeat' (first | with_reducible assumption | with_reducible apply State.putPort_ev
                 | with_reducible apply State.out_ev | with_reducible apply Evolves.ite
                 | with_reducible refine Evolves.foldl ?_ (fun _ _ _ => ?_))

theorem State.psStart_ev {z s : State} (h : Evolves z s) :
    Evolves z (State.psStart s) := by
  unfold State.psStart
  try dsimp only
  repeat' (first | with_reducible assumption | with_reducible apply State.putPs_ev | with_reducible apply State.wr_ev
                 | with_reducible refine Evolves.foldl ?_ (fun _ _ _ => ?_)
                 | fail_if_no_progress (with_reducible refine Evolves.upd ?_ (by rfl)))

theorem State.sendRead_ev {z s : State} (h : Evolves z s) (tag : Nat) (addr : Nat) (len : Nat) (request : Nat) (noSnoop : Bool) :
    Evolves z (State.sendRead s tag addr len request noSnoop) := by
  unfold State.sendRead
  try dsimp only
  repeat' (first | with_reducible assumption | with_reducible apply State.out_ev
                 | fail_if_no_progress (with_reducible refine Evolves.upd ?_ (by rfl)))

theorem inlineSegmentOffer_ev {z s0 : State} (h : Evolves z s0) :
    Evolves z (inlineSegmentOffer s0) := by
  unfold inlineSegmentOffer
  try dsimp only
  repeat' (first | with_reducible assumption | with_reducible apply State.inlTaps_ev
                 | with_reducible apply State.bump64_ev | with_reducible apply State.putSegment_ev
                 | with_reducible apply State.modFlight_ev | with_reducible apply State.wakeAll_ev
                 | with_reducible apply State.inlDrain_ev
                 | fail_if_no_progress (with_reducible refine Evolves.upd ?_ (by rfl)) | split)

theorem stripeRelease_ev {z s : State} (h : Evolves z s) (src : Nat) (fr : Nat) (j : Nat) :
    Evolves z (stripeRelease src fr j s) := by
  unfold stripeRelease
  try dsimp only
  repeat' (first | with_reducible assumption | with_reducible apply State.makeRelease_ev
                 | with_reducible apply State.bumpEph_ev
                 | fail_if_no_progress (with_reducible refine Evolves.upd ?_ (by rfl)) | split)

theorem descriptorReceived_ev {z s : State} (h : Evolves z s) (c : Nat) :
    Evolves z (descriptorReceived c s) := by
  unfold descriptorReceived
  try dsimp only
  repeat' (first | with_reducible assumption | with_reducible apply State.freeN_ev
                 | with_reducible apply State.putChan_ev | with_reducible apply State.settleChan_ev
                 | with_reducible apply State.failJob_ev | with_reducible apply State.addJob_ev | split)

theorem dmaBeat_ev {z s : State} (h : Evolves z s) (path : Nat) :
    Evolves z (dmaBeat path s) := by
  unfold dmaBeat
  try dsimp only
  repeat' (first | with_reducible assumption | fail_if_no_progress (with_reducible refine Evolves.upd ?_ (by rfl)) | split)

theorem genlockLost_ev {z s : State} (h : Evolves z s) :
    Evolves z (genlockLost s) := by
  unfold genlockLost
  try dsimp only
  repeat' (first | with_reducible assumption | with_reducible apply State.setEvt_ev
                 | fail_if_no_progress (with_reducible refine Evolves.upd ?_ (by rfl)) | split)

theorem hotJoin_ev {z s : State} (h : Evolves z s) (n : Nat) :
    Evolves z (hotJoin n s) := by
  unfold hotJoin
  try dsimp only
  repeat' (first | with_reducible assumption | with_reducible apply State.out_ev | with_reducible apply Evolves.ite)

theorem sensorIssue_ev {z s : State} (h : Evolves z s) (n : Nat) :
    Evolves z (sensorIssue n s) := by
  unfold sensorIssue
  try dsimp only
  repeat' (first | with_reducible assumption | with_reducible apply State.out_ev | with_reducible apply State.putSp_ev
                 | split)

end Sys2Proof.Machine
end

