-- ==== Sys2Proof/Laws/EvolveArray.lean ====
section
/-! SUPPORT. Each operation of the arbitration, the array, the drain and the control instructions evolves the state
(Evolves): one lemma per definition, cited by the lemmas of its callers. -/

set_option linter.unusedVariables false
set_option linter.unusedTactic false
set_option linter.unreachableTactic false

namespace Sys2Proof.Machine

theorem State.loadK_ev {z s : State} (h : Evolves z s) (n : Nat) (w : Walk) :
    ∀ cs cb tk u, (State.loadK s n w) = .ok cs cb tk u → Evolves z u := by
  unfold State.loadK
  intro cs cb tk u e
  try dsimp only at e
  repeat' (first | cases e | split at e)
  all_goals (try dsimp only)
  all_goals repeat' (first | with_reducible assumption | with_reducible apply State.gather_ev)

theorem State.prefetch_ev {z s : State} (h : Evolves z s) (n : Nat) (w : Walk) :
    Evolves z (State.prefetch s n w).1 := by
  unfold State.prefetch
  try dsimp only
  repeat' (first | with_reducible assumption | refine State.loadK_ev ?_ _ _ _ _ _ _ (by with_reducible assumption)
                 | with_reducible apply State.putCore_ev | split)

theorem State.shadowCycle_ev {z s : State} (h : Evolves z s) (n : Nat) (w : Walk) :
    Evolves z (State.shadowCycle s n w).1 := by
  unfold State.shadowCycle
  try dsimp only
  repeat' (first | with_reducible assumption | with_reducible apply State.prefetch_ev | with_reducible apply Evolves.ite1)

theorem State.putWalk_ev {z s : State} (h : Evolves z s) (n : Nat) (w : Walk) :
    Evolves z (State.putWalk s n w) := by
  unfold State.putWalk
  try dsimp only
  repeat' (first | with_reducible assumption | with_reducible apply State.putCore_ev | with_reducible apply Evolves.ite)

theorem State.paceCycle_ev {z s : State} (h : Evolves z s) (n : Nat) :
    Evolves z (State.paceCycle s n) := by
  unfold State.paceCycle
  try dsimp only
  repeat' (first | with_reducible assumption | fail_if_no_progress (with_reducible refine Evolves.upd ?_ (by rfl)))

theorem State.countSats_ev {z s : State} (h : Evolves z s) (n : Nat) (w : Walk) :
    Evolves z (State.countSats s n w) := by
  unfold State.countSats
  try dsimp only
  repeat' (first | with_reducible assumption | with_reducible apply State.bumpN_ev
                 | with_reducible apply State.bumpMatch_ev | with_reducible apply State.bumpCore_ev
                 | with_reducible apply Evolves.ite | intro _)

theorem State.startReplay_ev {z s : State} (h : Evolves z s) (n : Nat) (w : Walk) :
    Evolves z (State.startReplay s n w) := by
  unfold State.startReplay
  try dsimp only
  repeat' (first | with_reducible assumption | with_reducible apply State.putCore_ev)

theorem State.tileReport_ev {z s : State} (h : Evolves z s) (n : Nat) (w : Walk) (cls : Nat) (detail : Nat) (action : Nat)
    (replayed : Bool) :
    Evolves z (State.tileReport s n w cls detail action replayed) := by
  unfold State.tileReport
  try dsimp only
  repeat' (first | with_reducible assumption | with_reducible apply State.raise_ev)

theorem State.skipTile_ev {z s : State} (h : Evolves z s) (n : Nat) (w : Walk) :
    Evolves z (State.skipTile s n w) := by
  unfold State.skipTile
  try dsimp only
  repeat' (first | with_reducible assumption | with_reducible apply State.putCore_ev | split)

theorem State.addTile_ev {z s : State} (h : Evolves z s) (n : Nat) (j : DrainJob) :
    Evolves z (State.addTile s n j) := by
  unfold State.addTile
  try dsimp only
  repeat' (first | with_reducible assumption | with_reducible apply State.putCore_ev)

theorem State.tileFails_ev {z s : State} (h : Evolves z s) (n : Nat) (w : Walk) (cls : Nat) (detail : Nat) :
    Evolves z (State.tileFails s n w cls detail) := by
  unfold State.tileFails
  try dsimp only
  repeat' (first | with_reducible assumption | with_reducible apply State.putCore_ev
                 | with_reducible apply State.fenceCore_ev | with_reducible apply State.countSats_ev
                 | with_reducible apply State.startReplay_ev | with_reducible apply State.tileReport_ev
                 | with_reducible apply State.poisonStripe_ev | with_reducible apply State.markTag_ev
                 | with_reducible apply State.skipTile_ev | with_reducible apply State.addTile_ev | split)

theorem State.closeTile_ev {z s : State} (h : Evolves z s) (n : Nat) (w : Walk) :
    Evolves z (State.closeTile s n w) := by
  unfold State.closeTile
  try dsimp only
  repeat' (first | with_reducible assumption | with_reducible apply State.wr_ev
                 | with_reducible apply State.countSats_ev | with_reducible apply State.putCore_ev
                 | with_reducible apply Evolves.ite | with_reducible refine Evolves.foldl ?_ (fun _ _ _ => ?_))

theorem State.unitEnd_ev {z s : State} (h : Evolves z s) (n : Nat) (w : Walk) :
    Evolves z (State.unitEnd s n w) := by
  unfold State.unitEnd
  try dsimp only
  repeat' (first | with_reducible assumption | with_reducible apply State.bump64_ev | with_reducible apply Evolves.ite)

theorem State.leave_ev {z s : State} (h : Evolves z s) (n : Nat) (w : Walk) :
    Evolves z (State.leave s n w).1 := by
  unfold State.leave
  try dsimp only
  repeat' (first | with_reducible assumption | with_reducible apply State.tileFails_ev
                 | with_reducible apply State.closeTile_ev | with_reducible apply State.unitEnd_ev | split)

theorem State.endInput_ev {z s : State} (h : Evolves z s) (n : Nat) (p : Place) (skew : Bool) :
    Evolves z (State.endInput s n p skew) := by
  unfold State.endInput
  try dsimp only
  repeat' (first | with_reducible assumption | with_reducible apply State.endStrm_ev
                 | with_reducible apply State.endIfDone_ev | with_reducible apply State.putStrm_ev
                 | with_reducible apply Evolves.ite)

theorem State.endInputs_ev {z s : State} (h : Evolves z s) (n : Nat) (o : Op) (skew : Bool) :
    Evolves z (State.endInputs s n o skew) := by
  unfold State.endInputs
  try dsimp only
  repeat' (first | with_reducible assumption | with_reducible apply State.endInput_ev | split)

theorem State.walkOver_ev {z s : State} (h : Evolves z s) (n : Nat) (w : Walk) :
    Evolves z (State.walkOver s n w) := by
  unfold State.walkOver
  try dsimp only
  repeat' (first | with_reducible assumption | with_reducible apply State.endInputs_ev
                 | with_reducible apply State.putCore_ev | with_reducible apply State.pick_ev
                 | with_reducible apply State.startOp_ev | split)

theorem State.badStop_ev {z s : State} (h : Evolves z s) (n : Nat) (w : Walk) (word : Nat) (check : Nat) :
    Evolves z (State.badStop s n w word check) := by
  unfold State.badStop
  try dsimp only
  repeat' (first | with_reducible assumption | with_reducible apply State.stopCtx_ev)

theorem State.arrive_ev {z s : State} (h : Evolves z s) (n : Nat) (fuel : Nat) (w : Walk) (e : Bool) :
    (∀ u, s.arrive n fuel w e = .stop u → Evolves z u) ∧ (∀ u, s.arrive n fuel w e = .over u → Evolves z u) ∧
      ∀ u v b, s.arrive n fuel w e = .place u v b → Evolves z u := by
  induction fuel generalizing s w e with
  | zero => refine ⟨?_, ?_, ?_⟩ <;> · unfold State.arrive; intros; rename_i k; cases k <;> exact h
  | succ fuel ih =>
    unfold State.arrive
    dsimp only
    split
    · refine ⟨?_, ?_, ?_⟩ <;> · intros; rename_i k; cases k <;> exact h
    · split
      · refine ⟨?_, ?_, ?_⟩ <;> · intros; rename_i k; cases k <;> exact State.badStop_ev h _ _ _ _
      · have k : Evolves z ((if w.dead = true then s else s.bump64 (coreReg n 0x88) 1).leave n w).1 :=
          State.leave_ev (Evolves.ite h (State.bump64_ev h _ _)) _ _
        split
        · have k2 := Evolves.ofFst (by assumption) k
          split
          · refine ⟨?_, ?_, ?_⟩ <;> · intros; rename_i k; cases k <;> exact k2
          · exact ih k2 _ _
        · have k2 := Evolves.ofFst (by assumption) k
          split
          · refine ⟨?_, ?_, ?_⟩ <;> · intros; rename_i k; cases k <;> exact k2
          · refine ⟨?_, ?_, ?_⟩ <;> · intros; rename_i k; cases k <;> exact k2

theorem State.kstepDone_ev {z s : State} (h : Evolves z s) (n : Nat) (w : Walk) : Evolves z (s.kstepDone n w) := by
  unfold State.kstepDone
  dsimp only
  have k := State.leave_ev h n { w with took := tdel w.took w.step }
  refine Evolves.ite k ?_
  split
  · exact State.walkOver_ev k _ _
  · split
    · exact (State.arrive_ev k _ _ _ _).1 _ (by assumption)
    · exact State.walkOver_ev ((State.arrive_ev k _ _ _ _).2.1 _ (by assumption)) _ _
    · have k2 := (State.arrive_ev k _ _ _ _).2.2 _ _ _ (by assumption)
      exact Evolves.ite (State.pick_ev (State.putWalk_ev k2 _ _) _) (State.putWalk_ev k2 _ _)

theorem State.update_ev {z s : State} (h : Evolves z s) (n : Nat) (w : Walk) (start : Bool) (cols : List (Nat × Cell)) (up :
    Option (Nat × LaneUpset)) :
    Evolves z (State.update s n w start cols up).1 := by
  unfold State.update
  try dsimp only
  repeat' (first | with_reducible assumption | with_reducible apply State.wr_ev | with_reducible apply State.putCore_ev
                 | with_reducible refine Evolves.foldl ?_ (fun _ _ _ => ?_))

theorem State.present_ev {z s : State} (h : Evolves z s) (n : Nat) (w : Walk) (start : Bool)
    (cols : State → List (Nat × Cell)) (up : Option (Nat × LaneUpset)) (next : State → Walk → State)
    (hnext : ∀ u v, Evolves z u → Evolves z (next u v)) : Evolves z (s.present n w start cols up next) := by
  unfold State.present
  dsimp only
  refine Evolves.ite (State.paceCycle_ev (hnext _ _ h) _) ?_
  split
  · exact State.tileFails_ev h _ _ _ _
  · exact State.paceCycle_ev (hnext _ _ (State.update_ev h _ _ _ _ _)) _

theorem State.positionDone_ev {z s : State} (h : Evolves z s) (n : Nat) (w : Walk) :
    Evolves z (State.positionDone s n w) := by
  unfold State.positionDone
  try dsimp only
  repeat' (first | with_reducible assumption | with_reducible apply State.putWalk_ev
                 | with_reducible apply State.kstepDone_ev | with_reducible apply Evolves.ite)

theorem State.putSegs_ev {z s : State} (h : Evolves z s) (n : Nat) (w : Walk) (xs : List Int) :
    Evolves z (State.putSegs s n w xs) := by
  unfold State.putSegs
  try dsimp only
  repeat' (first | with_reducible assumption | with_reducible apply State.wr_ev
                 | with_reducible refine Evolves.foldl ?_ (fun _ _ _ => ?_))

theorem State.gatherDiag_ev {z s : State} (h : Evolves z s) (n : Nat) (w : Walk) :
    ∀ u v, s.gatherDiag n w = .ok u v → Evolves z u := by
  intro u v e
  unfold State.gatherDiag at e
  dsimp only at e
  split at e
  · cases e
  · injection e with e1 e2
    subst e1
    exact State.putSegs_ev (Evolves.foldlFst h (fun u x hu => State.gather_ev hu _ _ _)) _ _ _

theorem State.stopTens_ev {z s : State} (h : Evolves z s) (n : Nat) (t : Tens) :
    Evolves z (State.stopTens s n t) := by
  unfold State.stopTens
  try dsimp only
  repeat' (first | with_reducible assumption | with_reducible apply State.putStrm_ev | with_reducible apply Evolves.ite)

theorem State.skew_ev {z s : State} (h : Evolves z s) (n : Nat) (o : Op) (b : Block) :
    Evolves z (State.skew s n o b) := by
  unfold State.skew
  try dsimp only
  repeat' (first | with_reducible assumption | with_reducible apply State.rput_ev
                 | with_reducible apply State.bumpMatch_ev | with_reducible apply State.markTag_ev
                 | with_reducible apply State.raise_ev | split)

theorem State.takeBlocks_ev {z s : State} (h : Evolves z s) (n : Nat) (o : Op) (t : Tens) (quiet : Bool) (qs : List Nat)
    (k : Nat) (sk : Bool) : ∀ u, s.takeBlocks n o t quiet qs k sk = some u → Evolves z u.1 := by
  induction qs generalizing s k sk with
  | nil => intro u e; cases e; exact h
  | cons q r ih =>
    intro u e
    unfold State.takeBlocks at e
    dsimp only at e
    repeat' (first | cases e | split at e)
    · rename_i a; have := ih h _ _ _ a; exact this
    · rename_i a; have := ih (State.blockTaken_ev h _ _ _) _ _ _ a; exact this
    all_goals
      rename_i a
      have := ih (Evolves.ite h (State.stopTens_ev (State.skew_ev h _ _ _) _ _)) _ _ _ a
      exact this

theorem State.putLine_ev {z s : State} (h : Evolves z s) (n : Nat) (w : Walk) (m : Nat) (xs : List Int) :
    Evolves z (State.putLine s n w m xs) := by
  unfold State.putLine
  try dsimp only
  repeat' (first | with_reducible assumption | with_reducible apply State.wr_ev)

theorem State.gatherStd_ev {z s : State} (h : Evolves z s) (n : Nat) (w : Walk) :
    ∀ u v, s.gatherStd n w = .ok u v → Evolves z u := by
  intro u v e
  unfold State.gatherStd at e
  dsimp only at e
  split at e
  · injection e with e1 e2; subst e1; exact h
  · split at e
    · split at e
      · cases e
      · rename_i e3
        have k := State.takeBlocks_ev h _ _ _ _ _ _ _ (_, _) e3
        split at e <;> (injection e with e1 e2; subst e1; exact State.putLine_ev k _ _ _ _)
    · split at e
      · cases e
      · injection e with e1 e2
        subst e1
        exact State.putLine_ev (State.gather_ev h _ _ _) _ _ _ _

theorem State.poisonLine_ev {z s : State} (h : Evolves z s) (n : Nat) (w : Walk) :
    Evolves z (State.poisonLine s n w) := by
  unfold State.poisonLine
  try dsimp only
  repeat' (first | with_reducible assumption | fail_if_no_progress (with_reducible refine Evolves.upd ?_ (by rfl)))

theorem State.runCycle_ev {z s : State} (h : Evolves z s) (n : Nat) (w : Walk) (up : Option (Nat × LaneUpset)) :
    Evolves z (s.runCycle n w up) := by
  unfold State.runCycle
  dsimp only
  have k : Evolves z ((s.shadowCycle n w).1.putWalk n (s.shadowCycle n w).2) :=
    State.putWalk_ev (State.shadowCycle_ev h n w) _ _
  have fin : ∀ u v, Evolves z u → Evolves z (State.positionDone u n v) := fun u v hu => State.positionDone_ev hu n v
  have sub : ∀ (u : State) (v : Walk) (t : Nat), Evolves z u →
      Evolves z (if t + 1 < (s.shadowCycle n w).2.op.cyclesPer then u.putWalk n { v with sub := t + 2 } else
          u.positionDone n v) :=
    fun u v t hu => Evolves.ite (State.putWalk_ev hu _ _) (fin u v hu)
  repeat' (first | with_reducible assumption | with_reducible apply State.paceCycle_ev
                 | with_reducible apply State.kstepDone_ev | with_reducible apply State.coreWaits_ev
                 | with_reducible apply State.tileFails_ev | with_reducible apply State.putWalk_ev
                 | with_reducible apply State.poisonLine_ev
                 | refine State.present_ev ?_ _ _ _ _ _ _ (fun u v hu => sub u v _ hu)
                 | refine State.present_ev ?_ _ _ _ _ _ _ fin
                 | refine State.gatherDiag_ev (by with_reducible assumption) _ _ _ _ (by with_reducible assumption)
                 | refine State.gatherStd_ev (by with_reducible assumption) _ _ _ _ (by with_reducible assumption)
                 | with_reducible apply Evolves.ite | split)

theorem State.beginK_ev {z s : State} (h : Evolves z s) (n : Nat) (w : Walk) (codes : List Byte) (cbs : List Byte) :
    Evolves z (State.beginK s n w codes cbs).1 := by
  unfold State.beginK
  try dsimp only
  repeat' (first | with_reducible assumption | with_reducible apply State.putWalk_ev
                 | with_reducible apply State.putCore_ev)

theorem State.walkCycle_ev {z s : State} (h : Evolves z s) (n : Nat) (w : Walk) (up : Option (Nat × LaneUpset)) :
    Evolves z (s.walkCycle n w up) := by
  unfold State.walkCycle
  dsimp only
  refine Evolves.ite (State.coreWaits_ev h _) (Evolves.ite (State.runCycle_ev h _ _ _) (Evolves.ite (State.coreWaits_ev h
      _) ?_))
  have arr : ∀ r, (if w.loadLeft = 0 && w.m = 0 && w.sub = 0 then s.arrive n w.fuel w false else .place s w false) = r →
      (∀ u, r = .stop u → Evolves z u) ∧ (∀ u, r = .over u → Evolves z u) ∧ ∀ u v b, r = .place u v b → Evolves z u := by
    intro r e
    subst e
    split
    · exact State.arrive_ev h _ _ _ _
    · refine ⟨?_, ?_, ?_⟩ <;> · intros; rename_i k; cases k <;> exact h
  split
  · exact (arr _ (by assumption)).1 _ rfl
  · exact State.walkOver_ev ((arr _ (by assumption)).2.1 _ rfl) _ _
  · rename_i u v b e
    have k := (arr _ e).2.2 _ _ _ rfl
    have k3 : Evolves z (if b = true then (u.putWalk n v).pick n else u.putWalk n v) :=
      Evolves.ite (State.pick_ev (State.putWalk_ev k _ _) _) (State.putWalk_ev k _ _)
    revert k3
    generalize (if b = true then (u.putWalk n v).pick n else u.putWalk n v) = s3
    intro k3
    repeat' (first | with_reducible assumption | with_reducible apply State.paceCycle_ev
                   | with_reducible apply State.coreWaits_ev | with_reducible apply State.tileFails_ev
                   | with_reducible apply State.putWalk_ev | with_reducible apply State.runCycle_ev
                   | with_reducible apply State.badStop_ev | with_reducible apply State.beginK_ev
                   | refine State.loadK_ev (by with_reducible assumption) _ _ _ _ _ _ (by with_reducible assumption)
                   | with_reducible apply Evolves.ite | split)

theorem State.residueFails_ev {z s : State} (h : Evolves z s) (n : Nat) (w : Walk) (lane : Nat) (close : Nat) :
    Evolves z (State.residueFails s n w lane close) := by
  unfold State.residueFails
  try dsimp only
  repeat' (first | with_reducible assumption | with_reducible apply State.tileFails_ev
                 | with_reducible apply State.rput_ev | with_reducible apply State.bumpCore_ev)

theorem coreCycle_ev {z s : State} (h : Evolves z s) (n : Nat) (u : Upset) :
    Evolves z (coreCycle n u s) := by
  unfold coreCycle
  try dsimp only
  repeat' (first | with_reducible assumption | with_reducible apply State.walkCycle_ev
                 | with_reducible apply State.coreWaits_ev | with_reducible apply State.lockstep_ev
                 | with_reducible apply State.tileFails_ev | with_reducible apply State.raiseEcc_ev
                 | with_reducible apply State.residueFails_ev | with_reducible apply State.freeW_ev | split)

theorem State.markClient_ev {z s : State} (h : Evolves z s) (q : Req) (m : Nat) :
    Evolves z (State.markClient s q m) := by
  unfold State.markClient
  repeat' (first | with_reducible assumption | with_reducible apply State.markTag_ev
                 | with_reducible apply State.markFrame_ev | split)

theorem State.readFault_ev {z s : State} (h : Evolves z s) (q : Req) (e : Ended) :
    Evolves z (State.readFault s q e) := by
  unfold State.readFault
  try dsimp only
  repeat' (first | with_reducible assumption | with_reducible apply State.raise_ev
                 | with_reducible apply State.freeN_ev | with_reducible apply State.bumpMem_ev
                 | with_reducible apply State.markClient_ev | split)

theorem State.strmPoison_ev {z s : State} (h : Evolves z s) (r : Nat) (k : Nat) :
    Evolves z (State.strmPoison s r k) := by
  unfold State.strmPoison
  try dsimp only
  repeat' (first | with_reducible assumption | with_reducible apply State.frontPoison_ev
                 | with_reducible apply State.poisonStripe_ev | with_reducible apply Evolves.ite)

theorem State.putWcur_ev {z s : State} (h : Evolves z s) (key : Nat) (c : Cursor) :
    Evolves z (State.putWcur s key c) := by
  unfold State.putWcur
  try dsimp only
  repeat' (first | with_reducible assumption | fail_if_no_progress (with_reducible refine Evolves.upd ?_ (by rfl)))

theorem State.settleWriter_ev {z s : State} (h : Evolves z s) (key : Nat) (a : Nat) (spans : List (Nat × Nat)) :
    Evolves z (State.settleWriter s key a spans) := by
  unfold State.settleWriter
  try dsimp only
  repeat' (first | with_reducible assumption | with_reducible apply State.putWcur_ev)

theorem State.prepIng_ev {z s : State} (h : Evolves z s) (port : Nat) :
    Evolves z (State.prepIng s port) := by
  unfold State.prepIng
  try dsimp only
  repeat' (first | with_reducible assumption | with_reducible apply State.settleWriter_ev
                 | with_reducible apply State.ingFault_ev | split)

theorem State.prepTap_ev {z s : State} (h : Evolves z s) (q : Nat) :
    Evolves z (State.prepTap s q) := by
  unfold State.prepTap
  try dsimp only
  repeat' (first | with_reducible assumption | with_reducible apply State.settleWriter_ev
                 | with_reducible apply State.tapFault_ev | split)

theorem State.entryDone_ev {z s : State} (h : Evolves z s) (q : Req) (cur : Bool) (v : Nat) :
    Evolves z (State.entryDone s q cur v) := by
  unfold State.entryDone
  try dsimp only
  repeat' (first | with_reducible assumption | with_reducible apply State.parkBusy_ev
                 | with_reducible apply State.checkHalt_ev | with_reducible apply State.putStrm_ev
                 | with_reducible apply State.prepIng_ev | with_reducible apply State.putWcur_ev
                 | with_reducible apply State.prepTap_ev | split)

theorem State.strmArrive_ev {z s : State} (h : Evolves z s) (r : Nat) (k : Nat) (pos : Nat) (bs : List Byte) :
    Evolves z (State.strmArrive s r k pos bs) := by
  unfold State.strmArrive
  try dsimp only
  repeat' (first | with_reducible assumption | with_reducible apply State.putStrm_ev
                 | with_reducible apply State.frontAdvance_ev | with_reducible apply State.frontGot_ev
                 | with_reducible apply State.wake_ev | with_reducible apply State.ringWrite_ev
                 | with_reducible apply Evolves.ite)

theorem State.bar2Reply_ev {z s : State} (h : Evolves z s) (off : Nat) (bs : List Byte) (ep : Bool) (n : Nat) :
    Evolves z (s.bar2Reply off bs ep n) := by
  induction n generalizing s off bs with
  | zero => exact h
  | succ n ih =>
    unfold State.bar2Reply
    have k : Evolves z s := h
    exact Evolves.ite (State.out_ev (State.bump64_ev k _ _) _) (ih (State.out_ev (State.bump64_ev k _ _) _) _ _)

theorem State.auxRead_ev {z s : State} (h : Evolves z s) (a : Aux) :
    Evolves z (State.auxRead s a) := by
  unfold State.auxRead
  try dsimp only
  repeat' (first | with_reducible assumption | with_reducible apply State.modInl_ev
                 | with_reducible apply State.markFrame_ev | with_reducible apply State.modFlight_ev
                 | with_reducible apply State.gotDescs_ev | with_reducible apply State.bar2Reply_ev
                 | with_reducible apply State.out_ev | split)

theorem State.auxArrived_ev {z s : State} (h : Evolves z s) (id : Nat) (pos : Nat) (bs : List Byte) (e : Ended) :
    Evolves z (State.auxArrived s id pos bs e) := by
  unfold State.auxArrived
  try dsimp only
  repeat' (first | with_reducible assumption | with_reducible apply State.modAux_ev
                 | with_reducible apply State.auxRead_ev | with_reducible apply State.dropAux_ev | split)

theorem State.deliver_ev {z s : State} (h : Evolves z s) (q : Req) (bs : List Byte) (e : Ended) :
    Evolves z (State.deliver s q bs e) := by
  unfold State.deliver
  try dsimp only
  repeat' (first | with_reducible assumption | with_reducible apply State.readFault_ev
                 | with_reducible apply State.strmPoison_ev | with_reducible apply State.entryDone_ev
                 | with_reducible apply State.putStrm_ev | with_reducible apply State.strmArrive_ev
                 | with_reducible apply State.settleChan_ev | with_reducible apply State.jobGot_ev
                 | with_reducible apply State.failJob_ev | with_reducible apply State.auxArrived_ev | split)

theorem State.dropReq_ev {z s : State} (h : Evolves z s) (id : Nat) :
    Evolves z (State.dropReq s id) := by
  unfold State.dropReq
  try dsimp only
  repeat' (first | with_reducible assumption | fail_if_no_progress (with_reducible refine Evolves.upd ?_ (by rfl)))

theorem State.tapPut_ev {z s : State} (h : Evolves z s) (n : Nat) (o : Op) (e : Nat) (y : Nat) (x : Nat) (pix : Nat) (off : Nat) (bs
    : List Byte) :
    Evolves z (State.tapPut s n o e y x pix off bs) := by
  unfold State.tapPut
  try dsimp only
  repeat' (first | with_reducible assumption | with_reducible apply State.tapBytes_ev | split)

theorem State.tapRow_ev {z s : State} (h : Evolves z s) (n : Nat) (o : Op) (row : List Samp) :
    Evolves z (State.tapRow s n o row) := by
  unfold State.tapRow
  try dsimp only
  repeat' (first | with_reducible assumption | with_reducible apply State.tapPut_ev
                 | with_reducible refine Evolves.foldl ?_ (fun _ _ _ => ?_))

theorem State.loopIssue_ev {z s : State} (h : Evolves z s) (n : Nat) (c : Nat) (i : Nat) (r : List Byte) (count : Nat) :
    Evolves z (State.loopIssue n c i r count s) := by
  unfold State.loopIssue
  try dsimp only
  repeat' (first | with_reducible assumption | with_reducible apply State.modCtx_ev
                 | with_reducible apply State.bump64_ev | with_reducible apply State.wake_ev)

theorem State.refetch_ev {z s : State} (h : Evolves z s) (n : Nat) (w : Walk) :
    Evolves z (State.refetch s n w) := by
  unfold State.refetch
  try dsimp only
  repeat' (first | with_reducible assumption | refine State.gatherStd_ev ?_ _ _ _ _ (by with_reducible assumption)
                 | with_reducible refine Evolves.foldlFst ?_ (fun _ _ _ => ?_) | split)

theorem State.endReplay_ev {z s : State} (h : Evolves z s) (n : Nat) (w : Walk) :
    Evolves z (State.endReplay s n w) := by
  unfold State.endReplay
  try dsimp only
  repeat' (first | with_reducible assumption | with_reducible apply State.putCore_ev
                 | with_reducible apply State.refetch_ev | split)

theorem State.passStripe_ev {z s : State} (h : Evolves z s) (n : Nat) (c : Nat) :
    Evolves z (State.passStripe s n c) := by
  unfold State.passStripe
  try dsimp only
  repeat' (first | with_reducible assumption | fail_if_no_progress (with_reducible refine Evolves.upd ?_ (by rfl)) | split)

theorem State.setBits_ev {z s : State} (h : Evolves z s) (a : Nat) (lo : Nat) (len : Nat) (v : Nat) :
    Evolves z (State.setBits s a lo len v) := by
  unfold State.setBits
  try dsimp only
  repeat' (first | with_reducible assumption | with_reducible apply State.wr_ev)

theorem State.putCentroid_ev {z s : State} (h : Evolves z s) (n : Nat) (w : Nat) (k : Nat) (v : Int) :
    Evolves z (State.putCentroid s n w k v) := by
  unfold State.putCentroid
  try dsimp only
  repeat' (first | with_reducible assumption | with_reducible apply State.setBits_ev)

theorem State.pubWords_ev {z s : State} (h : Evolves z s) (n : Nat) (o : Op) (vs : List Int) :
    Evolves z (State.pubWords s n o vs).1 := by
  unfold State.pubWords
  try dsimp only
  repeat' (first | with_reducible assumption | with_reducible apply State.putCentroid_ev
                 | with_reducible apply State.wr_ev | with_reducible apply Evolves.ite
                 | with_reducible apply Evolves.ite1 | with_reducible refine Evolves.foldl ?_ (fun _ _ _ => ?_))

theorem publication_ev {z s : State} (h : Evolves z s) (n : Nat) :
    Evolves z (publication n s) := by
  unfold publication
  try dsimp only
  repeat' (first | with_reducible assumption | with_reducible apply State.pubWords_ev
                 | with_reducible apply State.putCore_ev | with_reducible apply State.wake_ev
                 | with_reducible apply State.modCtx_ev | with_reducible apply State.bump64_ev | split)

theorem State.signalIssue_ev {z s : State} (h : Evolves z s) (n : Nat) (c : Nat) (i : Nat) (r : List Byte) (_v : Nat) :
    Evolves z (State.signalIssue n c i r _v s) := by
  unfold State.signalIssue
  try dsimp only
  repeat' (first | with_reducible assumption | with_reducible apply State.coreWaits_ev
                 | with_reducible apply State.wake_ev | with_reducible apply State.issued_ev
                 | with_reducible apply State.modCtx_ev | with_reducible apply Evolves.ite
                 | fail_if_no_progress (with_reducible refine Evolves.upd ?_ (by rfl)))

theorem State.stepGrad_ev {z s : State} (h : Evolves z s) (n : Nat) (j : DrainJob) (srcs : List Src) :
    ∀ u, s.stepGrad n j srcs = some u → Evolves z u.1 := by
  intro u e
  unfold State.stepGrad at e
  dsimp only at e
  repeat' (first | cases e | split at e)
  · exact State.takeBlocks_ev h _ _ _ _ _ _ _ (_, _) (by assumption)
  · exact State.gather_ev h _ _ _

theorem State.missRecord_ev {z s : State} (h : Evolves z s) (f : Flight) :
    Evolves z (State.missRecord s f) := by
  unfold State.missRecord
  try dsimp only
  repeat' (first | with_reducible assumption | with_reducible apply State.raise_ev | split)

theorem State.notify_ev {z s : State} (h : Evolves z s) (f : Flight) :
    Evolves z (State.notify s f) := by
  unfold State.notify
  try dsimp only
  repeat' (first | with_reducible assumption | with_reducible apply State.addAux_ev
                 | with_reducible apply State.putChan_ev | with_reducible apply Evolves.ite
                 | with_reducible refine Evolves.foldl ?_ (fun _ _ _ => ?_))

theorem frameRecordFinal_ev {z s : State} (h : Evolves z s) (src : Nat) (fr : Nat) :
    Evolves z (frameRecordFinal src fr s) := by
  unfold frameRecordFinal
  try dsimp only
  repeat' (first | with_reducible assumption | with_reducible apply State.putFlight_ev
                 | with_reducible apply State.bumpEph_ev | with_reducible apply State.putRec_ev
                 | with_reducible apply State.missRecord_ev | with_reducible apply State.notify_ev
                 | fail_if_no_progress (with_reducible refine Evolves.upd ?_ (by rfl)) | split)

theorem State.refuseSignal_ev {z s : State} (h : Evolves z s) (g : Signal) :
    Evolves z (State.refuseSignal s g) := by
  unfold State.refuseSignal
  try dsimp only
  repeat' (first | with_reducible assumption | with_reducible apply State.pick_ev | with_reducible apply State.stopCtx_ev)

theorem State.applySignal_ev {z s : State} (h : Evolves z s) (g : Signal) :
    Evolves z (State.applySignal s g) := by
  unfold State.applySignal
  try dsimp only
  repeat' (first | with_reducible assumption | with_reducible apply State.refuseSignal_ev
                 | with_reducible apply State.complete_ev | with_reducible apply State.publishAll_ev
                 | with_reducible apply State.signalEmpty_ev | split)

theorem State.ctrlEcc_ev {z s : State} (h : Evolves z s) (die l : Nat) (t : Option Tag) (ecc : Option Bool) :
    Evolves z (State.ctrlEcc s die l t ecc) := by
  unfold State.ctrlEcc
  dsimp only
  cases ecc <;> dsimp only <;>
  repeat' (first | with_reducible assumption | with_reducible apply State.fenceLinks_ev
                 | with_reducible apply State.raise_ev | with_reducible apply State.markTag_ev
                 | with_reducible apply State.freeN_ev | split)

theorem semaphoreUpdate_ev {z s : State} (h : Evolves z s) (ecc : Option Bool) :
    Evolves z (semaphoreUpdate ecc s) := by
  unfold semaphoreUpdate
  try dsimp only
  repeat' (first | with_reducible assumption | with_reducible apply State.wakeAll_ev
                 | with_reducible apply State.applySignal_ev | with_reducible apply State.ctrlEcc_ev
                 | fail_if_no_progress (with_reducible refine Evolves.upd ?_ (by rfl)) | split)

theorem State.issueCtl_ev {z s : State} (h : Evolves z s) (n : Nat) (want : List Byte → Bool) (act : Nat → Nat → List Byte → Nat
    → State → State) (hact : ∀ a b c d u, Evolves z u → Evolves z (act a b c d u)) :
    Evolves z (State.issueCtl n want act s) := by
  unfold State.issueCtl
  try dsimp only
  repeat' (first | with_reducible assumption | with_reducible refine hact _ _ _ _ _ ?_
                 | with_reducible apply State.coreWaits_ev | with_reducible apply State.issueFail_ev
                 | with_reducible apply State.fenceHead_ev | split)

theorem State.returnCredit_ev {z s : State} (h : Evolves z s) (l : Nat) :
    Evolves z (State.returnCredit s l) := by
  unfold State.returnCredit
  try dsimp only
  repeat' (first | with_reducible assumption | with_reducible apply State.noteAdvance_ev
                 | with_reducible apply State.putLnk_ev)

theorem State.drainFails_ev {z s : State} (h : Evolves z s) (n : Nat) (j : DrainJob) (cls : Nat) (detail : Nat) :
    Evolves z (State.drainFails s n j cls detail) := by
  unfold State.drainFails
  try dsimp only
  repeat' (first | with_reducible assumption | with_reducible apply State.tileFails_ev
                 | with_reducible apply State.putCore_ev | with_reducible apply State.fenceCore_ev
                 | with_reducible apply State.tileReport_ev | with_reducible apply State.poisonStripe_ev
                 | with_reducible apply State.markTag_ev | split)

theorem State.jobNext_ev {z s : State} (h : Evolves z s) (n : Nat) (j : DrainJob) (by' : Nat) :
    Evolves z (State.jobNext s n j by') := by
  unfold State.jobNext
  try dsimp only
  repeat' (first | with_reducible assumption | with_reducible apply State.noteWork_ev
                 | with_reducible apply State.putCore_ev | with_reducible apply State.endInputs_ev
                 | with_reducible apply State.wake_ev | with_reducible apply Evolves.ite)

theorem State.outWrite_ev {z s : State} (h : Evolves z s) (n : Nat) (o : Op) (p : Place) (a : Int) (bs : List Byte) :
    Evolves z (State.outWrite s n o p a bs) := by
  unfold State.outWrite
  try dsimp only
  repeat' (first | with_reducible assumption | with_reducible apply State.modCtx_ev
                 | with_reducible apply State.wrPlace_ev | split)

theorem State.putBlock_ev {z s : State} (h : Evolves z s) (n : Nat) (o : Op) (q : Nat) (ms : List Int) (e : Nat) :
    Evolves z (State.putBlock s n o q ms e) := by
  unfold State.putBlock
  try dsimp only
  repeat' (first | with_reducible assumption | with_reducible apply State.giveStrm_ev
                 | with_reducible apply State.outWrite_ev | with_reducible apply State.putCore_ev
                 | with_reducible apply Evolves.ite)

theorem State.encodeBlock_ev {z s : State} (h : Evolves z s) (n : Nat) (o : Op) (q : Nat) (xs : List Int) (eb : Int) :
    Evolves z (State.encodeBlock s n o q xs eb) := by
  unfold State.encodeBlock
  try dsimp only
  repeat' (first | with_reducible assumption | with_reducible apply State.tapPut_ev
                 | with_reducible apply State.putBlock_ev | with_reducible apply State.bumpMatch_ev
                 | with_reducible apply Evolves.ite)

theorem State.emitB8_ev {z s : State} (h : Evolves z s) (n : Nat) (o : Op) (row : List Samp) :
    Evolves z (State.emitB8 s n o row) := by
  unfold State.emitB8
  try dsimp only
  repeat' (first | with_reducible assumption | with_reducible apply State.encodeBlock_ev
                 | with_reducible refine Evolves.foldl ?_ (fun _ _ _ => ?_) | split)

theorem State.emitRow_ev {z s : State} (h : Evolves z s) (n : Nat) (o : Op) (row : List Samp) :
    Evolves z (State.emitRow s n o row) := by
  unfold State.emitRow
  try dsimp only
  repeat' (first | with_reducible assumption | with_reducible apply State.giveStrm_ev
                 | with_reducible apply State.outWrite_ev | with_reducible apply Evolves.ite
                 | with_reducible refine Evolves.foldl ?_ (fun _ _ _ => ?_))

theorem State.drainSamples_ev {z s : State} (h : Evolves z s) (n : Nat) (o : Op) (row : List Samp) (zero : Bool) :
    Evolves z (State.drainSamples s n o row zero) := by
  unfold State.drainSamples
  try dsimp only
  repeat' (first | with_reducible assumption | with_reducible apply State.bumpN_ev
                 | with_reducible apply State.bumpCore_ev | with_reducible apply State.emitB8_ev
                 | with_reducible apply State.tapRow_ev | with_reducible apply State.emitRow_ev
                 | with_reducible apply Evolves.ite | intro _)

theorem State.jobWaits_ev {z s : State} (h : Evolves z s) (n : Nat) (j : DrainJob) :
    Evolves z (State.jobWaits s n j) := by
  unfold State.jobWaits
  try dsimp only
  repeat' (first | with_reducible assumption | with_reducible apply State.coreWaits_ev | with_reducible apply Evolves.ite)

theorem State.stepBlock_ev {z s : State} (h : Evolves z s) (n : Nat) (o : Op) (q : Nat) (gs : List Int) (eg : Int) (mom : List Int
    × Nat) (lfsr : Nat) :
    Evolves z (State.stepBlock s n o q gs eg mom lfsr).1 := by
  unfold State.stepBlock
  try dsimp only
  repeat' (first | with_reducible assumption | with_reducible apply State.wrPlace_ev
                 | with_reducible apply State.bumpMatch_ev | with_reducible apply State.bump64_ev
                 | with_reducible refine Evolves.foldlFst ?_ (fun _ _ _ => ?_) | split)

theorem State.pubTensor_ev {z s : State} (h : Evolves z s) (n : Nat) (o : Op) (ws : List Int) :
    Evolves z (State.pubTensor s n o ws) := by
  unfold State.pubTensor
  try dsimp only
  repeat' (first | with_reducible assumption | with_reducible apply State.wrPlace_ev
                 | with_reducible refine Evolves.foldl ?_ (fun _ _ _ => ?_) | split)

theorem State.updateEnd_ev {z s : State} (h : Evolves z s) (n : Nat) (j : DrainJob) :
    Evolves z (State.updateEnd s n j) := by
  unfold State.updateEnd
  try dsimp only
  repeat' (first | with_reducible assumption | with_reducible apply State.pubTensor_ev
                 | with_reducible apply State.modCtx_ev | split)

theorem State.updateNext_ev {z s : State} (h : Evolves z s) (n : Nat) (j : DrainJob) :
    Evolves z (State.updateNext s n j) := by
  unfold State.updateNext
  try dsimp only
  repeat' (first | with_reducible assumption | with_reducible apply State.updateEnd_ev
                 | with_reducible apply State.jobNext_ev | with_reducible apply Evolves.ite)

theorem State.stepRow_ev {z s : State} (h : Evolves z s) (n : Nat) (j : DrainJob) : Evolves z (s.stepRow n j) := by
  unfold State.stepRow
  dsimp only
  split
  · exact State.jobWaits_ev h _ _
  · rename_i s1 k sk gs eg e
    have h1 : Evolves z s1 := State.stepGrad_ev h _ _ _ (_, _) e
    split
    · rename_i s2 k2 sk2 m2 e2
      have h2 : Evolves z s2 := by
        split at e2
        · exact State.takeBlocks_ev h1 _ _ _ _ _ _ _ (_, _) e2
        · cases e2
      split
      · exact State.drainFails_ev h _ _ _ _
      · exact State.updateNext_ev (State.rput_ev (Evolves.ite1 h2 (State.stepBlock_ev h2 _ _ _ _ _ _ _)) _ _) _ _
    · exact State.jobWaits_ev h _ _

theorem State.updateRow_ev {z s : State} (h : Evolves z s) (n : Nat) (j : DrainJob) : Evolves z (s.updateRow n j) := by
  unfold State.updateRow
  dsimp only
  refine Evolves.ite (State.stepRow_ev h _ _) (Evolves.ite (State.jobWaits_ev h _ _) ?_)
  split
  · exact State.drainFails_ev h _ _ _ _
  · exact Evolves.ite (State.updateNext_ev (State.gather_ev h _ _ _) _ _)
      (State.updateNext_ev (State.encodeBlock_ev (State.gather_ev h _ _ _) _ _ _ _ _) _ _)

theorem State.copyRow_ev {z s : State} (h : Evolves z s) (n : Nat) (j : DrainJob) :
    Evolves z (State.copyRow s n j) := by
  unfold State.copyRow
  try dsimp only
  repeat' (first | with_reducible assumption | with_reducible apply State.takeStrm_ev
                 | with_reducible apply State.giveStrm_ev | with_reducible apply State.outWrite_ev
                 | with_reducible apply State.jobWaits_ev | with_reducible apply State.drainFails_ev
                 | with_reducible apply State.jobNext_ev | with_reducible refine Evolves.foldl ?_ (fun _ _ _ => ?_) | split)

theorem State.elemRow_ev {z s : State} (h : Evolves z s) (n : Nat) (j : DrainJob) :
    Evolves z (State.elemRow s n j) := by
  unfold State.elemRow
  try dsimp only
  repeat' (first | with_reducible assumption | with_reducible apply State.jobWaits_ev
                 | with_reducible apply State.gather_ev | with_reducible apply State.drainFails_ev
                 | with_reducible apply State.drainSamples_ev | with_reducible apply State.emitRow_ev
                 | with_reducible apply State.jobNext_ev | split)

theorem State.drainHead_ev {z s : State} (h : Evolves z s) (n : Nat) (j : DrainJob) :
    Evolves z (State.drainHead s n j) := by
  unfold State.drainHead
  try dsimp only
  repeat' (first | with_reducible assumption | with_reducible apply State.drainFails_ev
                 | with_reducible apply State.jobNext_ev | with_reducible apply State.bump64_ev
                 | with_reducible apply State.drainSamples_ev | with_reducible apply State.jobWaits_ev
                 | with_reducible apply State.updateRow_ev | with_reducible apply State.copyRow_ev
                 | with_reducible apply State.elemRow_ev | split)

theorem State.prepare_ev {z s : State} (h : Evolves z s) :
    Evolves z (State.prepare s) := by
  unfold State.prepare
  try dsimp only
  repeat' (first | with_reducible assumption | with_reducible apply State.checkHalt_ev
                 | with_reducible apply State.putStrm_ev | with_reducible apply State.prepIng_ev
                 | with_reducible apply State.produceTaps_ev | with_reducible apply State.parkBusy_ev
                 | with_reducible apply State.prepTap_ev | with_reducible refine Evolves.foldl ?_ (fun _ _ _ => ?_))

theorem State.claimTake_ev {z s : State} (h : Evolves z s) (n : Nat) (c : Nat) (i : Nat) (r : List Byte) (a : ClaimAsk) (tile :
    Nat) (seq : Nat) :
    Evolves z (State.claimTake s n c i r a tile seq) := by
  unfold State.claimTake
  try dsimp only
  repeat' (first | with_reducible assumption | with_reducible apply State.wake_ev
                 | with_reducible apply State.modCtx_ev | with_reducible apply State.bump64_ev)

theorem residueTimeout_ev {z s : State} (h : Evolves z s) (n : Nat) :
    Evolves z (residueTimeout n s) := by
  unfold residueTimeout
  try dsimp only
  repeat' (first | with_reducible assumption | with_reducible apply State.putCore_ev | split)

theorem State.endIssue_ev {z s : State} (h : Evolves z s) (n : Nat) (c : Nat) (_i : Nat) (r : List Byte) (_v : Nat) :
    Evolves z (State.endIssue n c _i r _v s) := by
  unfold State.endIssue
  try dsimp only
  repeat' (first | with_reducible assumption | with_reducible apply State.pick_ev
                 | with_reducible apply State.modCtx_ev | with_reducible apply State.bump64_ev
                 | with_reducible apply State.passStripe_ev)

theorem macroFetch_ev {z s : State} (h : Evolves z s) (n : Nat) (c : Nat) (ecc : Option Bool) :
    Evolves z (macroFetch n c ecc s) := by
  unfold macroFetch
  try dsimp only
  repeat' (first | with_reducible assumption | with_reducible apply State.fenceCore_ev
                 | with_reducible apply State.raise_ev | with_reducible apply State.wake_ev
                 | with_reducible apply State.modCtx_ev | with_reducible apply State.queueWritten_ev
                 | with_reducible apply Evolves.ite)

theorem pageMapEntryRead_ev {z s : State} (h : Evolves z s) (id : Nat) (st : ReadStatus) :
    Evolves z (pageMapEntryRead id st s) := by
  unfold pageMapEntryRead
  try dsimp only
  repeat' (first | with_reducible assumption | with_reducible apply State.deliver_ev
                 | with_reducible apply State.dropReq_ev | split)

theorem State.strmAccepted_ev {z s : State} (h : Evolves z s) (r : Nat) (k : Nat) (q : Req) :
    Evolves z (State.strmAccepted s r k q) := by
  unfold State.strmAccepted
  try dsimp only
  repeat' (first | with_reducible assumption | with_reducible apply State.wake_ev
                 | with_reducible apply State.endIfDone_ev | with_reducible apply State.noteOut_ev
                 | with_reducible apply State.putStrm_ev | with_reducible apply Evolves.ite)

theorem State.auxWritten_ev {z s : State} (h : Evolves z s) (a : Aux) :
    Evolves z (State.auxWritten s a) := by
  unfold State.auxWritten
  try dsimp only
  repeat' (first | with_reducible assumption | with_reducible apply State.bufGive_ev
                 | with_reducible apply State.settleChan_ev | with_reducible apply State.raiseVec_ev
                 | with_reducible apply State.frameRecDone_ev | with_reducible apply State.lockViolation_ev | split)

theorem State.auxAccepted_ev {z s : State} (h : Evolves z s) (id : Nat) (n : Nat) :
    Evolves z (State.auxAccepted s id n) := by
  unfold State.auxAccepted
  try dsimp only
  repeat' (first | with_reducible assumption | with_reducible apply State.modAux_ev
                 | with_reducible apply State.auxWritten_ev | with_reducible apply State.dropAux_ev | split)

theorem claimAnswer_ev {z s : State} (h : Evolves z s) (n : Nat) (c : Nat) (stuck : Bool) (ecc : Option Bool) :
    Evolves z (claimAnswer n c stuck ecc s) := by
  unfold claimAnswer
  try dsimp only
  repeat' (first | with_reducible assumption | with_reducible apply State.wakeAll_ev
                 | with_reducible apply State.returnCredit_ev | with_reducible apply State.claimTake_ev
                 | with_reducible apply State.beginStripe_ev | with_reducible apply State.noteAdvance_ev
                 | with_reducible apply State.useSlot_ev | with_reducible apply State.ctrlEcc_ev
                 | fail_if_no_progress (with_reducible refine Evolves.upd ?_ (by rfl)) | split)

theorem State.regTick_ev {z s : State} (h : Evolves z s) :
    Evolves z (State.regTick s) := by
  unfold State.regTick
  try dsimp only
  repeat' (first | with_reducible assumption | fail_if_no_progress (with_reducible refine Evolves.upd ?_ (by rfl)))

theorem State.claimIssue_ev {z s : State} (h : Evolves z s) (n : Nat) (c : Nat) (_i : Nat) (r : List Byte) (limit : Nat) :
    Evolves z (State.claimIssue n c _i r limit s) := by
  unfold State.claimIssue
  try dsimp only
  repeat' (first | with_reducible assumption | with_reducible apply State.pick_ev
                 | with_reducible apply State.noteWait_ev | with_reducible apply State.modCtx_ev
                 | with_reducible apply Evolves.ite)

theorem State.putBucket_ev {z s : State} (h : Evolves z s) (r : Nat) (p : Nat) (v : Nat) :
    Evolves z (State.putBucket s r p v) := by
  unfold State.putBucket
  try dsimp only
  repeat' (first | with_reducible assumption | fail_if_no_progress (with_reducible refine Evolves.upd ?_ (by rfl)))

theorem State.storeReq_ev {z s : State} (h : Evolves z s) (q : Req) :
    Evolves z (State.storeReq s q) := by
  unfold State.storeReq
  try dsimp only
  repeat' (first | with_reducible assumption | with_reducible apply State.hostWrite_ev
                 | with_reducible apply State.txTake_ev | with_reducible apply State.wr_ev | split)

theorem writeAccept_ev {z s : State} (h : Evolves z s) (id : Nat) :
    Evolves z (writeAccept id s) := by
  unfold writeAccept
  try dsimp only
  repeat' (first | with_reducible assumption | with_reducible apply State.dropReq_ev
                 | with_reducible apply State.storeReq_ev | with_reducible apply State.flushMsgs_ev
                 | with_reducible apply State.strmAccepted_ev | with_reducible apply State.ingAccepted_ev
                 | with_reducible apply State.tapAccepted_ev | with_reducible apply State.jobAccepted_ev
                 | with_reducible apply State.auxAccepted_ev | split)

theorem State.regArm_ev {z s : State} (h : Evolves z s) :
    Evolves z (State.regArm s) := by
  unfold State.regArm
  try dsimp only
  repeat' (first | with_reducible assumption | fail_if_no_progress (with_reducible refine Evolves.upd ?_ (by rfl)))

theorem State.tilePasses_ev {z s : State} (h : Evolves z s) (n : Nat) (w : Walk) :
    Evolves z (State.tilePasses s n w) := by
  unfold State.tilePasses
  try dsimp only
  repeat' (first | with_reducible assumption | with_reducible apply State.bump64_ev
                 | with_reducible apply State.tileReport_ev | with_reducible apply State.markTag_ev
                 | with_reducible apply State.skipTile_ev | with_reducible apply State.endReplay_ev
                 | with_reducible apply State.wake_ev | with_reducible apply State.addTile_ev | split)

theorem State.chanCharge_ev {z s : State} (h : Evolves z s) (c : Nat) (charge : Nat) (path : Nat) :
    Evolves z (State.chanCharge s c charge path) := by
  unfold State.chanCharge
  try dsimp only
  repeat' (first | with_reducible assumption | with_reducible apply State.putChan_ev
                 | fail_if_no_progress (with_reducible refine Evolves.upd ?_ (by rfl)))

theorem State.clientIssued_ev {z s : State} (h : Evolves z s) (q : Req) (charge : Nat) :
    Evolves z (State.clientIssued s q charge) := by
  unfold State.clientIssued
  try dsimp only
  repeat' (first | with_reducible assumption | with_reducible apply State.putStrm_ev
                 | with_reducible apply State.modWrite_ev | with_reducible apply State.modTap_ev
                 | with_reducible apply State.chanCharge_ev | with_reducible apply State.modJob_ev
                 | with_reducible apply State.modAux_ev | split)

theorem State.writeDown_ev {z s : State} (h : Evolves z s) (q : Req) :
    Evolves z (State.writeDown s q) := by
  unfold State.writeDown
  try dsimp only
  repeat' (first | with_reducible assumption | with_reducible apply State.bumpHost_ev
                 | with_reducible apply State.strmPoison_ev | with_reducible apply State.readFault_ev
                 | with_reducible apply State.strmAccepted_ev | with_reducible apply State.putStrm_ev
                 | with_reducible apply State.ingDrop_ev | with_reducible apply State.tapLost_ev
                 | with_reducible apply State.auxAccepted_ev | split)

theorem State.bufFault_ev {z s : State} (h : Evolves z s) (q : Req) (ue : Bool) (unit : Nat) (word : Option Nat) :
    Evolves z (State.bufFault s q ue unit word) := by
  unfold State.bufFault
  dsimp only
  cases word <;> cases ue <;> dsimp only <;>
  repeat' (first | with_reducible assumption | with_reducible apply State.raise_ev
                 | with_reducible apply State.freeN_ev | with_reducible apply State.markClient_ev | split)

theorem State.zeroMarks_ev {z s : State} (h : Evolves z s) (q : Req) :
    Evolves z (State.zeroMarks s q) := by
  unfold State.zeroMarks
  repeat' (first | with_reducible assumption | with_reducible apply State.strmPoison_ev
                 | with_reducible apply State.modFlight_ev | with_reducible apply State.modInl_ev
                 | with_reducible apply State.markClient_ev | split)

theorem State.beatFails_ev {z s : State} (h : Evolves z s) (ch : Nat) (q : Req) (cause : Nat) (device : Bool) :
    Evolves z (State.beatFails s ch q cause device) := by
  unfold State.beatFails
  repeat' (first | with_reducible assumption | with_reducible apply State.settleChan_ev
                 | with_reducible apply State.failJob_ev
                 | fail_if_no_progress (with_reducible refine Evolves.upd ?_ (by rfl)))

theorem State.issueReq_ev {z s : State} (h : Evolves z s) (c : Cand) (zeros : Bool) :
    Evolves z (State.issueReq s c zeros) := by
  unfold State.issueReq
  try dsimp only
  repeat' (first | with_reducible assumption | with_reducible apply State.bump64_ev
                 | with_reducible apply State.putBucket_ev | with_reducible apply State.bumpN_ev
                 | with_reducible apply State.bumpMem_ev | with_reducible apply State.settleChan_ev
                 | with_reducible apply State.beatFails_ev | with_reducible apply State.clientIssued_ev
                 | with_reducible apply State.writeDown_ev | with_reducible apply State.deliver_ev
                 | with_reducible apply State.sendRead_ev
                 | fail_if_no_progress (with_reducible refine Evolves.upd ?_ (by rfl)) | split | intro _)

theorem State.issueErr_ev {z s : State} (h : Evolves z s) (c : Cand) (ue : Bool) (unit : Nat) (word : Option Nat) :
    Evolves z (State.issueErr s c ue unit word) := by
  unfold State.issueErr
  try dsimp only
  repeat' (first | with_reducible assumption | with_reducible apply State.issueReq_ev
                 | with_reducible apply State.bufFault_ev | with_reducible apply State.zeroMarks_ev
                 | with_reducible apply State.beatFails_ev | split)

theorem arbitrationGrant_ev {z s0 : State} (h : Evolves z s0) (point : Nat) (ecc : Option Bool) :
    Evolves z (arbitrationGrant point ecc s0) := by
  unfold arbitrationGrant
  try dsimp only
  repeat' (first | with_reducible assumption | with_reducible apply State.prepare_ev
                 | with_reducible apply State.issueReq_ev | with_reducible apply State.issueErr_ev | split)

theorem State.waitIssue_ev {z s : State} (h : Evolves z s) (n : Nat) (c : Nat) (i : Nat) (r : List Byte) (_v : Nat) :
    Evolves z (State.waitIssue n c i r _v s) := by
  unfold State.waitIssue
  try dsimp only
  repeat' (first | with_reducible assumption | with_reducible apply State.pick_ev
                 | with_reducible apply State.noteWait_ev | with_reducible apply State.modCtx_ev
                 | with_reducible apply State.takeWait_ev | with_reducible apply State.passStripe_ev
                 | with_reducible apply State.markTag_ev | with_reducible apply State.wake_ev
                 | with_reducible apply State.noteAdvance_ev | with_reducible apply State.issued_ev
                 | with_reducible refine Evolves.foldl ?_ (fun _ _ _ => ?_) | split)

theorem tagTimeout_ev {z s : State} (h : Evolves z s) (id : Nat) :
    Evolves z (tagTimeout id s) := by
  unfold tagTimeout
  try dsimp only
  repeat' (first | with_reducible assumption | with_reducible apply State.deliver_ev
                 | with_reducible apply State.dropReq_ev | split)

theorem readCompletion_ev {z s : State} (h : Evolves z s) (id : Nat) (st : ReadStatus) :
    Evolves z (readCompletion id st s) := by
  unfold readCompletion
  try dsimp only
  repeat' (first | with_reducible assumption | with_reducible apply State.raiseEcc_ev
                 | with_reducible apply State.deliver_ev | with_reducible apply State.dropReq_ev | split)

theorem residueCompare_ev {z s : State} (h : Evolves z s) (n : Nat) :
    Evolves z (residueCompare n s) := by
  unfold residueCompare
  try dsimp only
  repeat' (first | with_reducible assumption | with_reducible apply State.putCore_ev
                 | with_reducible apply State.residueFails_ev | with_reducible apply State.tilePasses_ev | split)

theorem drainRow_ev {z s : State} (h : Evolves z s) (n : Nat) (u : Upset) :
    Evolves z (drainRow n u s) := by
  unfold drainRow
  try dsimp only
  repeat' (first | with_reducible assumption | with_reducible apply State.drainHead_ev
                 | with_reducible apply State.lockstep_ev | with_reducible apply State.drainFails_ev
                 | with_reducible apply State.raiseEcc_ev | with_reducible apply State.rput_ev
                 | with_reducible apply State.bumpCore_ev | split)

end Sys2Proof.Machine
end

