-- ==== Sys2Proof/Laws/EvolveHost.lean ====
section
/-! SUPPORT. Each operation of the host link, the start-up sequence, the clocks, the power states and the register accesses evolves the state
(Evolves): one lemma per definition, cited by the lemmas of its callers. -/

set_option linter.unusedVariables false
set_option linter.unusedTactic false
set_option linter.unreachableTactic false

namespace Sys2Proof.Machine

theorem State.probesGate_ev {z s : State} (h : Evolves z s) :
    Evolves z (State.probesGate s) := by
  unfold State.probesGate
  try dsimp only
  repeat' (first | with_reducible assumption | with_reducible apply Evolves.ite
                 | fail_if_no_progress (with_reducible refine Evolves.upd ?_ (by rfl)))

theorem State.dropInbound_ev {z s : State} (h : Evolves z s) :
    Evolves z (State.dropInbound s) := by
  unfold State.dropInbound
  try dsimp only
  repeat' (first | with_reducible assumption | with_reducible apply State.dropAux_ev
                 | fail_if_no_progress (with_reducible refine Evolves.upd ?_ (by rfl)))

theorem State.endRead_ev {z s : State} (h : Evolves z s) (r : HostRead) (bad : Option Nat) (bs : List Byte) :
    Evolves z (State.endRead s r bad bs) := by
  unfold State.endRead
  try dsimp only
  repeat' (first | with_reducible assumption | with_reducible apply State.deliver_ev
                 | with_reducible apply State.dropReq_ev
                 | fail_if_no_progress (with_reducible refine Evolves.upd ?_ (by rfl)) | split)

theorem State.linkDown_ev {z s : State} (h : Evolves z s) :
    Evolves z (State.linkDown s) := by
  unfold State.linkDown
  try dsimp only
  repeat' (first | with_reducible assumption | with_reducible apply State.dropInbound_ev
                 | with_reducible apply State.endRead_ev | with_reducible apply State.bumpHost_ev
                 | with_reducible apply Evolves.ite | with_reducible refine Evolves.foldl ?_ (fun _ _ _ => ?_)
                 | fail_if_no_progress (with_reducible refine Evolves.upd ?_ (by rfl)))

theorem pllUnlock_ev {z s : State} (h : Evolves z s) (n : Nat) (xoFailing : Bool) :
    Evolves z (pllUnlock n xoFailing s) := by
  unfold pllUnlock
  try dsimp only
  repeat' (first | with_reducible assumption | with_reducible apply State.linkDown_ev
                 | with_reducible apply State.raise_ev | with_reducible apply State.markAll_ev
                 | with_reducible apply Evolves.ite | fail_if_no_progress (with_reducible refine Evolves.upd ?_ (by rfl)))

theorem rcTimeout_ev {z s : State} (h : Evolves z s) :
    Evolves z (rcTimeout s) := by
  unfold rcTimeout
  try dsimp only
  repeat' (first | with_reducible assumption | with_reducible apply State.raise_ev
                 | with_reducible apply State.markAll_ev | with_reducible apply Evolves.ite
                 | fail_if_no_progress (with_reducible refine Evolves.upd ?_ (by rfl)))

theorem State.thermNote_ev {z s : State} (h : Evolves z s) (ts : List Int) :
    Evolves z (State.thermNote s ts) := by
  unfold State.thermNote
  try dsimp only
  repeat' (first | with_reducible assumption | fail_if_no_progress (with_reducible refine Evolves.upd ?_ (by rfl)))

theorem State.writePace_ev {z s : State} (h : Evolves z s) (w : Word) :
    Evolves z (State.writePace s w) := by
  unfold State.writePace
  try dsimp only
  repeat' (first | with_reducible assumption | with_reducible apply State.probesGate_ev
                 | with_reducible apply State.rput_ev | with_reducible apply Evolves.ite
                 | fail_if_no_progress (with_reducible refine Evolves.upd ?_ (by rfl)))

theorem State.chronoSet_ev {z s : State} (h : Evolves z s) (p : Path) :
    Evolves z (State.chronoSet s p) := by
  unfold State.chronoSet
  try dsimp only
  repeat' (first | with_reducible assumption | with_reducible apply Evolves.ite
                 | fail_if_no_progress (with_reducible refine Evolves.upd ?_ (by rfl)))

theorem pcieCompletion_ev {z s : State} (h : Evolves z s) (tag : Nat) (st : CplStatus) (data : List Byte) :
    Evolves z (pcieCompletion tag st data s) := by
  unfold pcieCompletion
  try dsimp only
  repeat' (first | with_reducible assumption | with_reducible apply State.endRead_ev
                 | with_reducible apply State.bump64_ev | split)

theorem State.monMinRead_ev {z s : State} (h : Evolves z s) (n : Nat) :
    Evolves z (State.monMinRead s n).2 := by
  unfold State.monMinRead
  try dsimp only
  repeat' (first | with_reducible assumption | fail_if_no_progress (with_reducible refine Evolves.upd ?_ (by rfl)))

theorem State.readClears_ev {z s : State} (h : Evolves z s) (a : Nat) :
    Evolves z (State.readClears s a) := by
  unfold State.readClears
  try dsimp only
  repeat' (first | with_reducible assumption | with_reducible apply State.monMinRead_ev
                 | with_reducible apply State.putIng_ev | with_reducible apply State.scRdata_ev
                 | with_reducible apply State.scIbi_ev | with_reducible apply State.putPort_ev
                 | with_reducible apply State.pfInfoRead_ev | with_reducible apply State.rput_ev
                 | fail_if_no_progress (with_reducible refine Evolves.upd ?_ (by rfl)) | split)

theorem ppsEdge_ev {z s : State} (h : Evolves z s) (width : Nat) :
    Evolves z (ppsEdge width s) := by
  unfold ppsEdge
  try dsimp only
  repeat' (first | with_reducible assumption | with_reducible apply Evolves.ite
                 | fail_if_no_progress (with_reducible refine Evolves.upd ?_ (by rfl)))

theorem State.imageFuse_ev {z s : State} (h : Evolves z s) (h : Header) :
    Evolves z (State.imageFuse s h).1 := by
  unfold State.imageFuse
  try dsimp only
  repeat' (first | with_reducible assumption | with_reducible apply Evolves.ite1
                 | fail_if_no_progress (with_reducible refine Evolves.upd ?_ (by rfl)))

theorem State.setPhase_ev {z s : State} (h : Evolves z s) (p : Phase) :
    Evolves z (State.setPhase s p) := by
  unfold State.setPhase
  try dsimp only
  repeat' (first | with_reducible assumption | with_reducible apply State.raiseIbi_ev
                 | fail_if_no_progress (with_reducible refine Evolves.upd ?_ (by rfl)) | split)

theorem State.loadFail_ev {z s : State} (h : Evolves z s) (cause : Nat) (record : Nat) (offset : Nat) :
    Evolves z (State.loadFail s cause record offset) := by
  unfold State.loadFail
  try dsimp only
  repeat' (first | with_reducible assumption | with_reducible apply State.setPhase_ev
                 | with_reducible apply State.raise_ev
                 | fail_if_no_progress (with_reducible refine Evolves.upd ?_ (by rfl)))

theorem State.bar2Get_ev {z s : State} (h : Evolves z s) (path : Nat) (off : Nat) (n : Nat) (st : ReadStatus) :
    Evolves z (State.bar2Get s path off n st) := by
  unfold State.bar2Get
  try dsimp only
  repeat' (first | with_reducible assumption | with_reducible apply State.out_ev | with_reducible apply State.bump64_ev
                 | with_reducible apply State.raiseEcc_ev | with_reducible apply State.addAux_ev
                 | with_reducible apply State.bumpHost_ev | split)

theorem State.enterMemInit_ev {z s : State} (h : Evolves z s) :
    Evolves z (State.enterMemInit s) := by
  unfold State.enterMemInit
  try dsimp only
  repeat' (first | with_reducible assumption | with_reducible apply State.out_ev | with_reducible apply Evolves.ite
                 | fail_if_no_progress (with_reducible refine Evolves.upd ?_ (by rfl)))

theorem State.switchover_ev {z s : State} (h : Evolves z s) (count : Nat) :
    Evolves z (State.switchover s count) := by
  unfold State.switchover
  try dsimp only
  repeat' (first | with_reducible assumption | with_reducible apply State.raise_ev
                 | with_reducible apply State.markAll_ev
                 | fail_if_no_progress (with_reducible refine Evolves.upd ?_ (by rfl)))

theorem xtalDly_ev {z s : State} (h : Evolves z s) :
    Evolves z (xtalDly s) := by
  unfold xtalDly
  try dsimp only
  repeat' (first | with_reducible assumption | fail_if_no_progress (with_reducible refine Evolves.upd ?_ (by rfl)) | split)

theorem State.runChecks_ev {z s : State} (h : Evolves z s) :
    Evolves z (State.runChecks s) := by
  unfold State.runChecks
  try dsimp only
  repeat' (first | with_reducible assumption | with_reducible apply State.rput_ev
                 | fail_if_no_progress (with_reducible refine Evolves.upd ?_ (by rfl)))

theorem alwaysOnLoss_ev {z s : State} (h : Evolves z s) :
    Evolves z (alwaysOnLoss s) := by
  unfold alwaysOnLoss
  try dsimp only
  repeat' (first | with_reducible assumption | with_reducible apply Evolves.ite
                 | fail_if_no_progress (with_reducible refine Evolves.upd ?_ (by rfl)))

theorem State.chronoSetAtPps_ev {z s : State} (h : Evolves z s) (p : Path) :
    Evolves z (State.chronoSetAtPps s p) := by
  unfold State.chronoSetAtPps
  try dsimp only
  repeat' (first | with_reducible assumption | with_reducible apply Evolves.ite
                 | fail_if_no_progress (with_reducible refine Evolves.upd ?_ (by rfl)))

theorem State.putTrans_ev {z s : State} (h : Evolves z s) (t : Option Transition) :
    Evolves z (State.putTrans s t) := by
  unfold State.putTrans
  try dsimp only
  repeat' (first | with_reducible assumption | fail_if_no_progress (with_reducible refine Evolves.upd ?_ (by rfl)))

theorem State.atStep_ev {z s : State} (h : Evolves z s) (t : Transition) (n : Nat) :
    Evolves z (State.atStep s t n) := by
  unfold State.atStep
  try dsimp only
  repeat' (first | with_reducible assumption | with_reducible apply State.putTrans_ev)

theorem State.stopTx_ev {z s : State} (h : Evolves z s) :
    Evolves z (State.stopTx s) := by
  unfold State.stopTx
  try dsimp only
  repeat' (first | with_reducible assumption | with_reducible apply State.txStop_ev
                 | with_reducible refine Evolves.foldl ?_ (fun _ _ _ => ?_))

theorem State.moveMem_ev {z s : State} (h : Evolves z s) (src : Nat) (dst : Nat) (n : Nat) :
    Evolves z (s.moveMem src dst n) := by
  unfold State.moveMem
  exact State.zero_ev (Evolves.updMem h rfl (memWf_memCopy src dst n)) _ _

theorem State.saveCores_ev {z s : State} (h : Evolves z s) :
    Evolves z (State.saveCores s) := by
  unfold State.saveCores
  try dsimp only
  repeat' (first | with_reducible assumption | with_reducible apply State.moveMem_ev
                 | with_reducible refine Evolves.foldl ?_ (fun _ _ _ => ?_)
                 | fail_if_no_progress (with_reducible refine Evolves.upd ?_ (by rfl)))

theorem State.applyGates_ev {z s : State} (h : Evolves z s) :
    Evolves z (State.applyGates s) := by
  unfold State.applyGates
  try dsimp only
  repeat' (first | with_reducible assumption | with_reducible apply State.linkDown_ev
                 | with_reducible apply Evolves.ite | fail_if_no_progress (with_reducible refine Evolves.upd ?_ (by rfl)))

theorem State.endTrans_ev {z s : State} (h : Evolves z s) (p : PState) :
    Evolves z (State.endTrans s p) := by
  unfold State.endTrans
  try dsimp only
  repeat' (first | with_reducible assumption | with_reducible apply State.raiseIbi_ev
                 | with_reducible apply State.applyGates_ev
                 | fail_if_no_progress (with_reducible refine Evolves.upd ?_ (by rfl)))

theorem powerEntryStepDone_ev {z s : State} (h : Evolves z s) :
    Evolves z (powerEntryStepDone s) := by
  unfold powerEntryStepDone
  try dsimp only
  repeat' (first | with_reducible assumption | with_reducible apply State.atStep_ev
                 | with_reducible apply State.stopTx_ev | with_reducible apply State.saveCores_ev
                 | with_reducible apply State.updTarget_ev | with_reducible apply State.endTrans_ev
                 | fail_if_no_progress (with_reducible refine Evolves.upd ?_ (by rfl)) | split)

theorem linkUp_ev {z s : State} (h : Evolves z s) (gen : Nat) (width : Nat) :
    Evolves z (linkUp gen width s) := by
  unfold linkUp
  try dsimp only
  repeat' (first | with_reducible assumption | with_reducible apply State.noteEvt_ev | with_reducible apply Evolves.ite
                 | fail_if_no_progress (with_reducible refine Evolves.upd ?_ (by rfl)))

theorem ppsHoldover_ev {z s : State} (h : Evolves z s) :
    Evolves z (ppsHoldover s) := by
  unfold ppsHoldover
  try dsimp only
  repeat' (first | with_reducible assumption | fail_if_no_progress (with_reducible refine Evolves.upd ?_ (by rfl)) | split)

theorem State.writeChCtrl_ev {z s : State} (h : Evolves z s) (c : Nat) (w : Word) :
    Evolves z (State.writeChCtrl s c w) := by
  unfold State.writeChCtrl
  try dsimp only
  repeat' (first | with_reducible assumption | with_reducible apply chStart_ev | with_reducible apply chStop_ev
                 | with_reducible apply chAbort_ev | with_reducible apply chRestart_ev
                 | with_reducible apply chResetIdx_ev | with_reducible apply Evolves.ite)

theorem State.resumeTags_ev {z s : State} (h : Evolves z s) (n : Nat) :
    Evolves z (State.resumeTags s n) := by
  unfold State.resumeTags
  try dsimp only
  repeat' (first | with_reducible assumption | fail_if_no_progress (with_reducible refine Evolves.upd ?_ (by rfl)) | split)

theorem State.putW1c_ev {z s : State} (h : Evolves z s) (a : Nat) (w : Word) :
    Evolves z (State.putW1c s a w) := by
  unfold State.putW1c
  try dsimp only
  repeat' (first | with_reducible assumption | fail_if_no_progress (with_reducible refine Evolves.upd ?_ (by rfl)) | split)

theorem State.putChrono_ev {z s : State} (h : Evolves z s) (a : Nat) (w : Word) :
    Evolves z (State.putChrono s a w) := by
  unfold State.putChrono
  try dsimp only
  repeat' (first | with_reducible assumption | fail_if_no_progress (with_reducible refine Evolves.upd ?_ (by rfl)) | split)

theorem State.putRaw_ev {z s : State} (h : Evolves z s) (a : Nat) (w : Word) :
    Evolves z (State.putRaw s a w) := by
  unfold State.putRaw
  try dsimp only
  repeat' (first | with_reducible assumption | with_reducible apply State.putW1c_ev
                 | with_reducible apply State.poke_ev | with_reducible apply State.putChrono_ev
                 | with_reducible apply State.updTarget_ev | with_reducible apply State.rput_ev
                 | with_reducible apply State.ctlCfgDone_ev | with_reducible apply Evolves.ite
                 | fail_if_no_progress (with_reducible refine Evolves.upd ?_ (by rfl)))

theorem d3hot_ev {z s : State} (h : Evolves z s) (enter : Bool) :
    Evolves z (d3hot enter s) := by
  unfold d3hot
  try dsimp only
  repeat' (first | with_reducible assumption | with_reducible apply State.flushMsix_ev
                 | with_reducible apply Evolves.ite | fail_if_no_progress (with_reducible refine Evolves.upd ?_ (by rfl)))

theorem State.senseFuses_ev {z s : State} (h : Evolves z s) :
    Evolves z (State.senseFuses s) := by
  unfold State.senseFuses
  try dsimp only
  repeat' (first | with_reducible assumption | with_reducible apply State.out_ev | with_reducible apply Evolves.ite
                 | fail_if_no_progress (with_reducible refine Evolves.upd ?_ (by rfl)))

theorem State.pcieLocked_ev {z s : State} (h : Evolves z s) :
    Evolves z (State.pcieLocked s) := by
  unfold State.pcieLocked
  try dsimp only
  repeat' (first | with_reducible assumption | with_reducible apply State.senseFuses_ev
                 | with_reducible apply Evolves.ite | fail_if_no_progress (with_reducible refine Evolves.upd ?_ (by rfl)))

theorem State.endSwitch_ev {z s : State} (h : Evolves z s) :
    Evolves z (State.endSwitch s) := by
  unfold State.endSwitch
  try dsimp only
  repeat' (first | with_reducible assumption | with_reducible apply State.pllCfgWrite_ev
                 | with_reducible apply State.resumeTags_ev | with_reducible refine Evolves.foldl ?_ (fun _ _ _ => ?_)
                 | fail_if_no_progress (with_reducible refine Evolves.upd ?_ (by rfl)) | split)

theorem pllLocked_ev {z s : State} (h : Evolves z s) (n : Nat) :
    Evolves z (pllLocked n s) := by
  unfold pllLocked
  try dsimp only
  repeat' (first | with_reducible assumption | with_reducible apply State.resumeTags_ev
                 | with_reducible apply State.pcieLocked_ev | with_reducible apply State.enterMemInit_ev
                 | with_reducible apply State.endSwitch_ev | with_reducible apply Evolves.ite
                 | fail_if_no_progress (with_reducible refine Evolves.upd ?_ (by rfl)))

theorem completionTimeout_ev {z s : State} (h : Evolves z s) (tag : Nat) :
    Evolves z (completionTimeout tag s) := by
  unfold completionTimeout
  try dsimp only
  repeat' (first | with_reducible assumption | with_reducible apply State.endRead_ev
                 | with_reducible apply State.bumpHost_ev | split)

theorem State.clearCounters_ev {z s : State} (h : Evolves z s) (g : Nat × Nat × Nat × Nat) :
    Evolves z (State.clearCounters s g) := by
  unfold State.clearCounters
  try dsimp only
  repeat' (first | with_reducible assumption | with_reducible apply State.rforget_ev)

theorem State.powerRequest_ev {z s : State} (h : Evolves z s) (code : Nat) :
    Evolves z (State.powerRequest s code) := by
  unfold State.powerRequest
  try dsimp only
  repeat' (first | with_reducible assumption | with_reducible apply State.putTrans_ev
                 | fail_if_no_progress (with_reducible refine Evolves.upd ?_ (by rfl)) | split)

theorem State.stageWord_ev {z s : State} (h : Evolves z s) (w : Word) :
    Evolves z (State.stageWord s w) := by
  unfold State.stageWord
  try dsimp only
  repeat' (first | with_reducible assumption | with_reducible apply State.rput_ev | with_reducible apply State.wr_ev
                 | with_reducible apply Evolves.ite)

theorem State.writeChrono_ev {z s : State} (h : Evolves z s) (p : Path) (a : Nat) (w : Word) :
    Evolves z (State.writeChrono s p a w) := by
  unfold State.writeChrono
  try dsimp only
  repeat' (first | with_reducible assumption | with_reducible apply State.putChrono_ev
                 | with_reducible apply State.chronoSet_ev | with_reducible apply State.chronoSetAtPps_ev
                 | fail_if_no_progress (with_reducible refine Evolves.upd ?_ (by rfl)) | split)

theorem State.alertAck_ev {z s : State} (h : Evolves z s) (w : Word) :
    Evolves z (State.alertAck s w) := by
  unfold State.alertAck
  try dsimp only
  repeat' (first | with_reducible assumption | with_reducible apply Evolves.ite
                 | fail_if_no_progress (with_reducible refine Evolves.upd ?_ (by rfl)))

theorem State.writeSpecial_ev {z s : State} (h : Evolves z s) (p : Path) (a : Nat) (w : Word) :
    ∀ u, s.writeSpecial p a w = some u → Evolves z u := by
  unfold State.writeSpecial
  dsimp only
  split
  · exact Evolves.ofSome (Evolves.ite (State.clearCounters_ev h _) h)
  · refine Evolves.someIte (Evolves.ofSome (State.writePace_ev h _)) ?_
    refine Evolves.someIte (Evolves.ofSome (State.pllCfgWrite_ev h _ _)) ?_
    refine Evolves.someIte (Evolves.ofSome (State.sscWrite_ev h _ _)) ?_
    refine Evolves.someIte (Evolves.ofSome (State.sscWrite_ev h _ _)) ?_
    refine Evolves.someIte (Evolves.ofSome (State.mclkWrite_ev h _ _)) ?_
    refine Evolves.someIte (Evolves.ofSome (State.powerRequest_ev h _)) ?_
    refine Evolves.someIte (Evolves.ofSome (Evolves.upd h rfl)) ?_
    refine Evolves.someIte (Evolves.ofSome (Evolves.upd h rfl)) ?_
    refine Evolves.someIte (Evolves.ofSome (State.stageWord_ev h _)) ?_
    refine Evolves.someIte (Evolves.ofSome (Evolves.upd h rfl)) ?_
    refine Evolves.someIte (Evolves.ofSome (Evolves.ite (State.fuseProgram_ev h _) h)) ?_
    refine Evolves.someIte (Evolves.ofSome (Evolves.upd h rfl)) ?_
    refine Evolves.someIte (Evolves.ofSome (State.writeChrono_ev h _ _ _)) ?_
    refine Evolves.someIte (Evolves.ofSome (State.alertAck_ev h _)) ?_
    refine Evolves.someIte (Evolves.ofSome (Evolves.upd h rfl)) ?_
    refine Evolves.someIte (Evolves.ofSome (scCmdWrite_ev h _ _)) ?_
    refine Evolves.someIte (Evolves.ofSome (Evolves.ite (scFlush_ev h _) h)) ?_
    refine Evolves.someIte (Evolves.ofSome (Evolves.upd h rfl)) ?_
    refine Evolves.someIte (Evolves.ofSome (State.writeChCtrl_ev h _ _)) ?_
    refine Evolves.someIte (Evolves.ofSome (chDoorbell_ev h _ _)) ?_
    refine Evolves.someIte (Evolves.ofSome (Evolves.ite (pmFlush_ev h) h)) ?_
    refine Evolves.someIte (Evolves.ofSome (resumeWrite_ev h _)) ?_
    refine Evolves.someIte (Evolves.ofSome (cancelWrite_ev h _)) ?_
    refine Evolves.someIte (Evolves.ofSome (Evolves.upd h rfl)) ?_
    refine Evolves.someIte (Evolves.ofSome (psCtrl_ev h _ _ _ _)) ?_
    exact Evolves.noState

theorem State.runNow_ev {z s : State} (h : Evolves z s) :
    Evolves z (State.runNow s) := by
  unfold State.runNow
  try dsimp only
  repeat' (first | with_reducible assumption | with_reducible apply State.startTimetable_ev
                 | with_reducible apply State.setPhase_ev)

theorem State.bootGo_ev {z s : State} (h : Evolves z s) :
    Evolves z (State.bootGo s) := by
  unfold State.bootGo
  try dsimp only
  repeat' (first | with_reducible assumption | with_reducible apply State.runNow_ev | with_reducible apply Evolves.ite)

theorem State.setStep_ev {z s : State} (h : Evolves z s) (st : RearmStep) :
    Evolves z (State.setStep s st) := by
  unfold State.setStep
  try dsimp only
  repeat' (first | with_reducible assumption | fail_if_no_progress (with_reducible refine Evolves.upd ?_ (by rfl)) | split)

theorem State.cancelStreams_ev {z s : State} (h : Evolves z s) :
    Evolves z (State.cancelStreams s) := by
  unfold State.cancelStreams
  try dsimp only
  repeat' (first | with_reducible assumption | with_reducible apply State.cancelAll_ev
                 | with_reducible refine Evolves.foldl ?_ (fun _ _ _ => ?_))

theorem State.stopFrames_ev {z s : State} (h : Evolves z s) (abort : Bool) :
    Evolves z (State.stopFrames s abort) := by
  unfold State.stopFrames
  try dsimp only
  repeat' (first | with_reducible assumption | with_reducible apply State.closeFrame_ev
                 | with_reducible apply State.dropInl_ev | with_reducible apply State.markAll_ev
                 | with_reducible refine Evolves.foldl ?_ (fun _ _ _ => ?_)
                 | fail_if_no_progress (with_reducible refine Evolves.upd ?_ (by rfl)) | split)

theorem State.rearmRequest_ev {z s : State} (h : Evolves z s) (abort : Bool) (src : Nat) :
    Evolves z (State.rearmRequest s abort src) := by
  unfold State.rearmRequest
  try dsimp only
  repeat' (first | with_reducible assumption | with_reducible apply State.dmaRearm_ev
                 | with_reducible apply State.psRearm_ev | with_reducible apply State.setStep_ev
                 | with_reducible apply State.stopTx_ev | with_reducible apply State.cancelStreams_ev
                 | with_reducible apply State.stopFrames_ev | with_reducible apply Evolves.ite
                 | fail_if_no_progress (with_reducible refine Evolves.upd ?_ (by rfl)))

theorem State.pushGo_ev {z s : State} (h : Evolves z s) (p : Path) :
    Evolves z (State.pushGo s p) := by
  unfold State.pushGo
  try dsimp only
  repeat' (first | with_reducible assumption | with_reducible apply State.setPhase_ev
                 | fail_if_no_progress (with_reducible refine Evolves.upd ?_ (by rfl)) | split)

theorem State.bootActions_ev {z s : State} (h : Evolves z s) (p : Path) (w : Word) :
    Evolves z (State.bootActions s p w) := by
  unfold State.bootActions
  try dsimp only
  repeat' (first | with_reducible assumption | with_reducible apply State.bootGo_ev
                 | with_reducible apply State.rearmRequest_ev | with_reducible apply State.pushGo_ev
                 | with_reducible apply Evolves.ite)

theorem State.writePlain_ev {z s : State} (h : Evolves z s) (p : Path) (r : RegRow) (locked : Nat) (a : Nat) (w : Word) :
    Evolves z (State.writePlain s p r locked a w) := by
  unfold State.writePlain
  try dsimp only
  repeat' (first | with_reducible assumption | with_reducible apply State.rput_ev
                 | with_reducible apply State.putRaw_ev | with_reducible apply State.bootActions_ev
                 | with_reducible apply State.flushMsix_ev | split)

theorem State.writeHere_ev {z s : State} (h : Evolves z s) (p : Path) (a : Nat) (w : Word) :
    Evolves z (State.writeHere s p a w) := by
  unfold State.writeHere
  try dsimp only
  repeat' (first | with_reducible assumption | refine State.writeSpecial_ev ?_ _ _ _ _ (by with_reducible assumption)
                 | with_reducible apply State.writePlain_ev | split)

theorem State.writeReg_ev {z s : State} (h : Evolves z s) (p : Path) (a : Nat) (w : Word) :
    Evolves z (State.writeReg s p a w) := by
  unfold State.writeReg
  try dsimp only
  repeat' (first | with_reducible assumption | with_reducible apply State.lockViolation_ev
                 | with_reducible apply State.noteEvt_ev | with_reducible apply State.writeHere_ev | split)

theorem State.saveReg_ev {z s : State} (h : Evolves z s) (a : Nat) :
    Evolves z (State.saveReg s a) := by
  unfold State.saveReg
  try dsimp only
  repeat' (first | with_reducible assumption | fail_if_no_progress (with_reducible refine Evolves.upd ?_ (by rfl)) | split)

theorem State.imageWrite_ev {z s : State} (h : Evolves z s) (a : Nat) (w : Word) :
    Evolves z (State.imageWrite s a w).1 := by
  unfold State.imageWrite
  try dsimp only
  repeat' (first | with_reducible assumption | with_reducible apply State.imageFuse_ev
                 | with_reducible apply State.writeReg_ev | with_reducible apply State.saveReg_ev | split)

theorem State.linkRx_ev {z s : State} (h : Evolves z s) (p : Path) :
    Evolves z (State.linkRx s p) := by
  unfold State.linkRx
  try dsimp only
  repeat' (first | with_reducible assumption | with_reducible apply State.bump64_ev | with_reducible apply Evolves.ite)

theorem State.writeIn_ev {z s : State} (h : Evolves z s) (p : Path) (a : Nat) (w : Word) :
    Evolves z (State.writeIn s p a w) := by
  unfold State.writeIn
  try dsimp only
  repeat' (first | with_reducible assumption | with_reducible apply State.imageWrite_ev
                 | with_reducible apply State.loadFail_ev | with_reducible apply State.writeReg_ev
                 | with_reducible apply State.linkRx_ev
                 | with_reducible refine Evolves.ofFst (by with_reducible assumption) ?_ | split)

theorem xoTimeout_ev {z s : State} (h : Evolves z s) :
    Evolves z (xoTimeout s) := by
  unfold xoTimeout
  try dsimp only
  repeat' (first | with_reducible assumption | with_reducible apply State.raise_ev | with_reducible apply Evolves.ite
                 | fail_if_no_progress (with_reducible refine Evolves.upd ?_ (by rfl)))

theorem vbatSwitch_ev {z s : State} (h : Evolves z s) :
    Evolves z (vbatSwitch s) := by
  unfold vbatSwitch
  try dsimp only
  repeat' (first | with_reducible assumption | with_reducible apply Evolves.ite
                 | fail_if_no_progress (with_reducible refine Evolves.upd ?_ (by rfl)))

theorem avsResponse_ev {z s : State} (h : Evolves z s) (good : Bool) (mv : Nat) (amp : Nat) :
    Evolves z (avsResponse good mv amp s) := by
  unfold avsResponse
  try dsimp only
  repeat' (first | with_reducible assumption | with_reducible apply Evolves.ite
                 | fail_if_no_progress (with_reducible refine Evolves.upd ?_ (by rfl)))

theorem avsPeriod_ev {z s : State} (h : Evolves z s) :
    Evolves z (avsPeriod s) := by
  unfold avsPeriod
  try dsimp only
  repeat' (first | with_reducible assumption | with_reducible apply State.outs_ev | with_reducible apply Evolves.ite)

theorem State.clearLast_ev {z s : State} (h : Evolves z s) :
    Evolves z (State.clearLast s) := by
  unfold State.clearLast
  try dsimp only
  repeat' (first | with_reducible assumption | fail_if_no_progress (with_reducible refine Evolves.upd ?_ (by rfl)))

theorem xt32Stopped_ev {z s : State} (h : Evolves z s) :
    Evolves z (xt32Stopped s) := by
  unfold xt32Stopped
  try dsimp only
  repeat' (first | with_reducible assumption | with_reducible apply Evolves.ite
                 | fail_if_no_progress (with_reducible refine Evolves.upd ?_ (by rfl)))

theorem State.capRead_ev {z s : State} (h : Evolves z s) (extended : Bool) (id : Nat) (off : Nat) :
    Evolves z (State.capRead s extended id off) := by
  unfold State.capRead
  try dsimp only
  repeat' (first | with_reducible assumption | with_reducible apply State.out_ev | with_reducible apply State.freeW_ev
                 | with_reducible apply State.bump64_ev | with_reducible apply Evolves.ite)

theorem vbatLow_ev {z s : State} (h : Evolves z s) (mv : Nat) :
    Evolves z (vbatLow mv s) := by
  unfold vbatLow
  try dsimp only
  repeat' (first | with_reducible assumption | with_reducible apply Evolves.ite
                 | fail_if_no_progress (with_reducible refine Evolves.upd ?_ (by rfl)))

theorem State.bar2Put_ev {z s : State} (h : Evolves z s) (path : Nat) (off : Nat) (bs : List Byte) :
    Evolves z (State.bar2Put s path off bs) := by
  unfold State.bar2Put
  try dsimp only
  repeat' (first | with_reducible assumption | with_reducible apply State.wr_ev | with_reducible apply State.bumpN_ev
                 | with_reducible apply State.bumpMem_ev | with_reducible apply State.addAux_ev
                 | with_reducible apply State.bumpHost_ev | with_reducible apply Evolves.ite | intro _)

theorem bar2Write_ev {z s : State} (h : Evolves z s) (off : Nat) (bs : List Byte) (ep : Bool) :
    Evolves z (bar2Write off bs ep s) := by
  unfold bar2Write
  try dsimp only
  repeat' (first | with_reducible assumption | with_reducible apply State.bump64_ev
                 | with_reducible apply State.bar2Put_ev | with_reducible apply Evolves.ite
                 | fail_if_no_progress (with_reducible refine Evolves.upd ?_ (by rfl)))

theorem State.restoreCores_ev {z s : State} (h : Evolves z s) :
    Evolves z (State.restoreCores s) := by
  unfold State.restoreCores
  try dsimp only
  repeat' (first | with_reducible assumption | with_reducible apply State.moveMem_ev
                 | with_reducible apply State.fenceCore_ev | with_reducible apply State.zero_ev
                 | with_reducible apply Evolves.ite | with_reducible refine Evolves.foldl ?_ (fun _ _ _ => ?_)
                 | fail_if_no_progress (with_reducible refine Evolves.upd ?_ (by rfl)))

theorem State.putLat_ev {z s : State} (h : Evolves z s) (p : Path) (l : Latches) :
    Evolves z (State.putLat s p l) := by
  unfold State.putLat
  try dsimp only
  repeat' (first | with_reducible assumption | fail_if_no_progress (with_reducible refine Evolves.upd ?_ (by rfl)) | split)

theorem State.readHere_ev {z s : State} (h : Evolves z s) (p : Path) (a : Nat) :
    Evolves z (State.readHere s p a).2 := by
  unfold State.readHere
  try dsimp only
  repeat' (first | with_reducible assumption | with_reducible apply State.freeW_ev
                 | with_reducible apply State.putLat_ev | with_reducible apply State.readClears_ev | split)

theorem State.readReg_ev {z s : State} (h : Evolves z s) (p : Path) (a : Nat) :
    Evolves z (State.readReg s p a).2 := by
  unfold State.readReg
  try dsimp only
  repeat' (first | with_reducible assumption | with_reducible apply State.readHere_ev | with_reducible apply Evolves.ite2)

theorem bar0Bad_ev {z s : State} (h : Evolves z s) (addr : Nat) (write : Bool) (len : Nat) :
    Evolves z (bar0Bad addr write len s) := by
  unfold bar0Bad
  try dsimp only
  repeat' (first | with_reducible assumption | with_reducible apply State.bumpHost_ev
                 | with_reducible apply State.bump64_ev | with_reducible apply State.out_ev
                 | with_reducible apply Evolves.ite)

theorem State.readOutWide_ev {z s : State} (h : Evolves z s) (a : Nat) :
    Evolves z (State.readOutWide s a) := by
  unfold State.readOutWide
  try dsimp only
  repeat' (first | with_reducible assumption | with_reducible apply State.out_ev | with_reducible apply State.bump64_ev
                 | with_reducible apply bar0Bad_ev | with_reducible apply Evolves.ite)

theorem State.rearmZero_ev {z s : State} (h : Evolves z s) :
    Evolves z (State.rearmZero s) := by
  unfold State.rearmZero
  try dsimp only
  repeat' (first | with_reducible assumption | with_reducible apply State.zero_ev
                 | with_reducible refine Evolves.foldl ?_ (fun _ _ _ => ?_)
                 | fail_if_no_progress (with_reducible refine Evolves.upd ?_ (by rfl)))

theorem rearmStepDone_ev {z s : State} (h : Evolves z s) :
    Evolves z (rearmStepDone s) := by
  unfold rearmStepDone
  try dsimp only
  repeat' (first | with_reducible assumption | with_reducible apply State.setStep_ev
                 | with_reducible apply State.stopTx_ev | with_reducible apply State.rearmZero_ev | split)

theorem bar2Read_ev {z s : State} (h : Evolves z s) (off : Nat) (n : Nat) (st : ReadStatus) :
    Evolves z (bar2Read off n st s) := by
  unfold bar2Read
  try dsimp only
  repeat' (first | with_reducible assumption | with_reducible apply State.out_ev
                 | with_reducible apply State.bar2Get_ev | with_reducible apply Evolves.ite)

theorem State.classify_ev {z s : State} (h : Evolves z s) :
    Evolves z (State.classify s) := by
  unfold State.classify
  try dsimp only
  repeat' (first | with_reducible assumption | fail_if_no_progress (with_reducible refine Evolves.upd ?_ (by rfl)))

theorem State.cfgRead_ev {z s : State} (h : Evolves z s) (off : Nat) :
    Evolves z (State.cfgRead s off).2 := by
  unfold State.cfgRead
  try dsimp only
  repeat' (first | with_reducible assumption | with_reducible apply State.freeW_ev | split)

theorem State.linkTx_ev {z s : State} (h : Evolves z s) (p : Path) :
    Evolves z (State.linkTx s p) := by
  unfold State.linkTx
  try dsimp only
  repeat' (first | with_reducible assumption | with_reducible apply State.bump64_ev | with_reducible apply Evolves.ite)

theorem xtalAmp_ev {z s : State} (h : Evolves z s) :
    Evolves z (xtalAmp s) := by
  unfold xtalAmp
  try dsimp only
  repeat' (first | with_reducible assumption | with_reducible apply Evolves.ite
                 | fail_if_no_progress (with_reducible refine Evolves.upd ?_ (by rfl)))

theorem rcStart_ev {z s : State} (h : Evolves z s) :
    Evolves z (rcStart s) := by
  unfold rcStart
  try dsimp only
  repeat' (first | with_reducible assumption | with_reducible apply Evolves.ite
                 | fail_if_no_progress (with_reducible refine Evolves.upd ?_ (by rfl)))

theorem railDipEnd_ev {z s : State} (h : Evolves z s) (n : Nat) (lowest : Nat) :
    Evolves z (railDipEnd n lowest s) := by
  unfold railDipEnd
  try dsimp only
  repeat' (first | with_reducible assumption | with_reducible apply State.markAll_ev | with_reducible apply Evolves.ite
                 | fail_if_no_progress (with_reducible refine Evolves.upd ?_ (by rfl)))

theorem State.armUnits_ev {z s : State} (h : Evolves z s) :
    Evolves z (State.armUnits s) := by
  unfold State.armUnits
  try dsimp only
  repeat' (first | with_reducible assumption | with_reducible apply State.wakeAll_ev
                 | with_reducible apply State.flushMsgs_ev | with_reducible apply State.classify_ev
                 | with_reducible apply State.dmaArm_ev | with_reducible apply State.txArm_ev
                 | with_reducible apply State.regArm_ev | with_reducible apply State.dropImageCmds_ev
                 | with_reducible apply State.psStart_ev | with_reducible apply State.clearLast_ev
                 | fail_if_no_progress (with_reducible refine Evolves.upd ?_ (by rfl)))

theorem hotReset_ev {z s : State} (h : Evolves z s) :
    Evolves z (hotReset s) := by
  unfold hotReset
  try dsimp only
  repeat' (first | with_reducible assumption | with_reducible apply State.dropInbound_ev
                 | with_reducible apply Evolves.ite | fail_if_no_progress (with_reducible refine Evolves.upd ?_ (by rfl)))

theorem State.nextSource_ev {z s : State} (h : Evolves z s) :
    Evolves z (State.nextSource s) := by
  unfold State.nextSource
  try dsimp only
  repeat' (first | with_reducible assumption | with_reducible apply State.setPhase_ev
                 | with_reducible apply Evolves.ite | fail_if_no_progress (with_reducible refine Evolves.upd ?_ (by rfl)))

theorem loadFailZeroed_ev {z s : State} (h : Evolves z s) :
    Evolves z (loadFailZeroed s) := by
  unfold loadFailZeroed
  try dsimp only
  repeat' (first | with_reducible assumption | with_reducible apply State.wipe_ev
                 | with_reducible apply State.nextSource_ev | with_reducible apply State.putRaw_ev
                 | with_reducible refine Evolves.foldl ?_ (fun _ _ _ => ?_)
                 | fail_if_no_progress (with_reducible refine Evolves.upd ?_ (by rfl)) | split)

theorem railDipStart_ev {z s : State} (h : Evolves z s) (n : Nat) (mv : Nat) :
    Evolves z (railDipStart n mv s) := by
  unfold railDipStart
  try dsimp only
  repeat' (first | with_reducible assumption | with_reducible apply State.markAll_ev
                 | with_reducible apply State.raise_ev | with_reducible apply Evolves.ite
                 | fail_if_no_progress (with_reducible refine Evolves.upd ?_ (by rfl)))

theorem monitorWindow_ev {z s : State} (h : Evolves z s) (count : Nat) :
    Evolves z (monitorWindow count s) := by
  unfold monitorWindow
  try dsimp only
  repeat' (first | with_reducible assumption | with_reducible apply State.switchover_ev
                 | with_reducible apply Evolves.ite | fail_if_no_progress (with_reducible refine Evolves.upd ?_ (by rfl)))

theorem xtalCount_ev {z s : State} (h : Evolves z s) :
    Evolves z (xtalCount s) := by
  unfold xtalCount
  try dsimp only
  repeat' (first | with_reducible assumption | fail_if_no_progress (with_reducible refine Evolves.upd ?_ (by rfl)) | split)

theorem memInitDone_ev {z s : State} (h : Evolves z s) :
    Evolves z (memInitDone s) := by
  unfold memInitDone
  try dsimp only
  repeat' (first | with_reducible assumption | with_reducible apply State.wipe_ev
                 | with_reducible apply State.setPhase_ev | with_reducible apply Evolves.ite
                 | fail_if_no_progress (with_reducible refine Evolves.upd ?_ (by rfl)))

theorem vddSettled_ev {z s : State} (h : Evolves z s) :
    Evolves z (vddSettled s) := by
  unfold vddSettled
  try dsimp only
  repeat' (first | with_reducible assumption | with_reducible apply State.senseFuses_ev
                 | with_reducible apply Evolves.ite | fail_if_no_progress (with_reducible refine Evolves.upd ?_ (by rfl)))

theorem State.writeInWide_ev {z s : State} (h : Evolves z s) (a : Nat) (lo : Word) (hi : Word) :
    Evolves z (State.writeInWide s a lo hi) := by
  unfold State.writeInWide
  try dsimp only
  repeat' (first | with_reducible assumption | with_reducible apply State.writeIn_ev | with_reducible apply bar0Bad_ev
                 | with_reducible apply Evolves.ite)

theorem wakeStepDone_ev {z s : State} (h : Evolves z s) :
    Evolves z (wakeStepDone s) := by
  unfold wakeStepDone
  try dsimp only
  repeat' (first | with_reducible assumption | with_reducible apply State.atStep_ev
                 | with_reducible apply State.updTarget_ev | with_reducible apply State.restoreCores_ev
                 | with_reducible apply State.endTrans_ev | with_reducible apply State.wakeAll_ev
                 | with_reducible apply State.skipSlots_ev | with_reducible apply State.txArm_ev
                 | fail_if_no_progress (with_reducible refine Evolves.upd ?_ (by rfl)) | split)

theorem pcieConfig_ev {z s : State} (h : Evolves z s) (op : CfgOp) :
    Evolves z (pcieConfig op s) := by
  unfold pcieConfig
  try dsimp only
  repeat' (first | with_reducible assumption | with_reducible apply State.out_ev
                 | with_reducible apply State.flushMsix_ev | with_reducible apply State.bump64_ev
                 | with_reducible apply State.cfgRead_ev | with_reducible apply State.capRead_ev
                 | fail_if_no_progress (with_reducible refine Evolves.upd ?_ (by rfl)) | split)

theorem powerOn_ev {z s : State} (h : Evolves z s) :
    Evolves z (powerOn s) := by
  unfold powerOn
  try dsimp only
  repeat' (first | with_reducible assumption | with_reducible apply Evolves.ite
                 | fail_if_no_progress (with_reducible refine Evolves.upd ?_ (by rfl)))

theorem rearmDrainTimeout_ev {z s : State} (h : Evolves z s) :
    Evolves z (rearmDrainTimeout s) := by
  unfold rearmDrainTimeout
  try dsimp only
  repeat' (first | with_reducible assumption | with_reducible apply State.abortChan_ev
                 | with_reducible apply State.stopFrames_ev | with_reducible apply State.setStep_ev
                 | with_reducible apply State.stopTx_ev | with_reducible apply State.cancelStreams_ev
                 | with_reducible refine Evolves.foldl ?_ (fun _ _ _ => ?_) | split)

theorem State.powerDies_ev {z s : State} (h : Evolves z s) :
    Evolves z (State.powerDies s) := by
  unfold State.powerDies
  try dsimp only
  repeat' (first | with_reducible assumption | with_reducible apply State.zero_ev | with_reducible apply Evolves.ite
                 | with_reducible refine Evolves.foldl ?_ (fun _ _ _ => ?_)
                 | fail_if_no_progress (with_reducible refine Evolves.upd ?_ (by rfl)))

theorem State.step14_ev {z s : State} (h : Evolves z s) (l : Load) (start : Bool) : Evolves z (s.step14 l start) := by
  unfold State.step14
  dsimp only
  refine State.fuseWork_ev (Evolves.ite (State.runNow_ev ?_) ?_)
  all_goals
    refine State.updTarget_ev (State.applyGates_ev (State.armUnits_ev (State.powerDies_ev (State.setPhase_ev ?_ _))))
    refine Evolves.upd (State.zero_ev h _ _) ?_
    rfl

theorem powerEntryDrainTimeout_ev {z s : State} (h : Evolves z s) :
    Evolves z (powerEntryDrainTimeout s) := by
  unfold powerEntryDrainTimeout
  try dsimp only
  repeat' (first | with_reducible assumption | with_reducible apply State.cancelStreams_ev
                 | with_reducible apply State.stopFrames_ev | split)

theorem vddRestored_ev {z s : State} (h : Evolves z s) :
    Evolves z (vddRestored s) := by
  unfold vddRestored
  try dsimp only
  repeat' (first | with_reducible assumption | with_reducible apply Evolves.ite
                 | fail_if_no_progress (with_reducible refine Evolves.upd ?_ (by rfl)))

theorem State.readOut_ev {z s : State} (h : Evolves z s) (p : Path) (a : Nat) :
    Evolves z (State.readOut s p a) := by
  unfold State.readOut
  try dsimp only
  repeat' (first | with_reducible assumption | with_reducible apply State.out_ev
                 | with_reducible apply State.readReg_ev | with_reducible apply State.linkTx_ev
                 | with_reducible apply Evolves.ite)

end Sys2Proof.Machine
end

