-- ==== Sys2Proof/Laws/EvolveImage.lean ====
section
/-! SUPPORT. Each operation of the image, the resets, the ports and the scrubber evolves the state
(Evolves): one lemma per definition, cited by the lemmas of its callers. -/

set_option linter.unusedVariables false
set_option linter.unusedTactic false
set_option linter.unreachableTactic false

namespace Sys2Proof.Machine

theorem State.ccc_ev {z s : State} (h : Evolves z s) (f : State → State) (hf : ∀  u, Evolves z u → Evolves z (f  u)) :
    Evolves z (State.ccc s f) := by
  unfold State.ccc
  try dsimp only
  repeat' (first | with_reducible assumption | with_reducible refine hf _ ?_ | with_reducible apply Evolves.ite
                 | fail_if_no_progress (with_reducible refine Evolves.upd ?_ (by rfl)))

theorem State.setDyn_ev {z s : State} (h : Evolves z s) (a : Option Nat) :
    Evolves z (State.setDyn s a) := by
  unfold State.setDyn
  try dsimp only
  repeat' (first | with_reducible assumption | fail_if_no_progress (with_reducible refine Evolves.upd ?_ (by rfl)))

theorem mgmtEntdaa_ev {z s : State} (h : Evolves z s) (addr : Nat) :
    Evolves z (mgmtEntdaa addr s) := by
  unfold mgmtEntdaa
  try dsimp only
  repeat' (first | with_reducible assumption | with_reducible apply State.ccc_ev | with_reducible apply State.setDyn_ev
                 | with_reducible apply State.out_ev | with_reducible apply Evolves.ite | intro _)

theorem State.nvmOpen_ev {z s : State} (h : Evolves z s) (sfdp : Option Sfdp) :
    Evolves z (State.nvmOpen s sfdp) := by
  unfold State.nvmOpen
  try dsimp only
  repeat' (first | with_reducible assumption | with_reducible apply State.outs_ev
                 | fail_if_no_progress (with_reducible refine Evolves.upd ?_ (by rfl)))

theorem State.headerTick_ev {z s : State} (h : Evolves z s) :
    Evolves z (State.headerTick s) := by
  unfold State.headerTick
  try dsimp only
  repeat' (first | with_reducible assumption | with_reducible apply Evolves.ite
                 | fail_if_no_progress (with_reducible refine Evolves.upd ?_ (by rfl)))

theorem State.nvmRead_ev {z s : State} (h : Evolves z s) (off : Nat) (n : Nat) :
    Evolves z (State.nvmRead s off n) := by
  unfold State.nvmRead
  try dsimp only
  repeat' (first | with_reducible assumption | with_reducible apply State.out_ev | with_reducible apply Evolves.ite)

theorem State.step13_ev {z s : State} (h : Evolves z s) (l : Load) (typ : Nat) :
    Evolves z (State.step13 s l typ) := by
  unfold State.step13
  try dsimp only
  repeat' (first | with_reducible assumption | with_reducible apply State.rput_ev | with_reducible apply Evolves.ite
                 | fail_if_no_progress (with_reducible refine Evolves.upd ?_ (by rfl)))

theorem State.recordFail_ev {z s : State} (h : Evolves z s) (cause : Nat) :
    Evolves z (State.recordFail s cause) := by
  unfold State.recordFail
  try dsimp only
  repeat' (first | with_reducible assumption | with_reducible apply State.loadFail_ev | split)

theorem State.loadMem_ev {z s : State} (h : Evolves z s) (d : RecDesc) (pt : List Byte) :
    Evolves z (State.loadMem s d pt) := by
  unfold State.loadMem
  try dsimp only
  repeat' (first | with_reducible assumption | with_reducible apply State.zero_ev | with_reducible apply State.wr_ev
                 | split)

theorem State.putLoad_ev {z s : State} (h : Evolves z s) (l : Load) :
    Evolves z (State.putLoad s l) := by
  unfold State.putLoad
  try dsimp only
  repeat' (first | with_reducible assumption | fail_if_no_progress (with_reducible refine Evolves.upd ?_ (by rfl)))

theorem State.takeRecord_ev {z s : State} (h : Evolves z s) (typ : Nat) (data : List Byte) :
    Evolves z (State.takeRecord s typ data).1 := by
  unfold State.takeRecord
  try dsimp only
  repeat' (first | with_reducible assumption | with_reducible apply State.nvmRead_ev
                 | with_reducible apply State.step13_ev | with_reducible apply State.recordFail_ev
                 | with_reducible apply State.loadMem_ev | with_reducible apply State.putLoad_ev
                 | fail_if_no_progress (with_reducible refine Evolves.upd ?_ (by rfl)) | split)

theorem imageDelay_ev {z s : State} (h : Evolves z s) (data : List Byte) :
    Evolves z (imageDelay data s) := by
  unfold imageDelay
  try dsimp only
  repeat' (first | with_reducible assumption | with_reducible apply State.takeRecord_ev
                 | with_reducible apply State.putLoad_ev
                 | with_reducible refine Evolves.ofFst (by with_reducible assumption) ?_ | split)

theorem State.supplyRecord_ev {z s : State} (h : Evolves z s) :
    Evolves z (State.supplyRecord s) := by
  unfold State.supplyRecord
  try dsimp only
  repeat' (first | with_reducible assumption | with_reducible apply State.freeN_ev
                 | with_reducible apply State.raiseAt_ev
                 | fail_if_no_progress (with_reducible refine Evolves.upd ?_ (by rfl)) | split)

theorem State.release_ev {z s : State} (h : Evolves z s) (straps : Straps) :
    Evolves z (State.release s straps) := by
  unfold State.release
  try dsimp only
  repeat' (first | with_reducible assumption | with_reducible apply State.supplyRecord_ev
                 | fail_if_no_progress (with_reducible refine Evolves.upd ?_ (by rfl)))

theorem State.headerDue_ev {z s : State} (h : Evolves z s) :
    ∀ u, (State.headerDue s) = some u → Evolves z u := by
  unfold State.headerDue
  intro u e
  try dsimp only at e
  repeat' (first | cases e | split at e)
  all_goals (try dsimp only)
  all_goals repeat' (first | with_reducible assumption
                           | fail_if_no_progress (with_reducible refine Evolves.upd ?_ (by rfl)))

theorem State.startLoad_ev {z s : State} (h : Evolves z s) (h : List Byte) :
    Evolves z (State.startLoad s h) := by
  unfold State.startLoad
  try dsimp only
  repeat' (first | with_reducible assumption | fail_if_no_progress (with_reducible refine Evolves.upd ?_ (by rfl)))

theorem imageHeader_ev {z s : State} (h : Evolves z s) (data : List Byte) (sfdp : Option Sfdp) :
    Evolves z (imageHeader data sfdp s) := by
  unfold imageHeader
  try dsimp only
  repeat' (first | with_reducible assumption | refine State.headerDue_ev ?_ _ (by with_reducible assumption)
                 | with_reducible apply State.nvmRead_ev | with_reducible apply State.nvmOpen_ev
                 | with_reducible apply State.loadFail_ev | with_reducible apply State.startLoad_ev
                 | with_reducible apply State.setPhase_ev
                 | fail_if_no_progress (with_reducible refine Evolves.upd ?_ (by rfl)) | split)

theorem State.closePart_ev {z s : State} (h : Evolves z s) (p : Nat) :
    Evolves z (State.closePart s p) := by
  unfold State.closePart
  try dsimp only
  repeat' (first | with_reducible assumption | with_reducible apply State.rput_ev | with_reducible apply State.rset_ev
                 | fail_if_no_progress (with_reducible refine Evolves.upd ?_ (by rfl)) | split)

theorem State.closeDie_ev {z s : State} (h : Evolves z s) (d : Nat) :
    Evolves z (State.closeDie s d) := by
  unfold State.closeDie
  try dsimp only
  repeat' (first | with_reducible assumption | fail_if_no_progress (with_reducible refine Evolves.upd ?_ (by rfl)))

theorem paceWindowClose_ev {z s : State} (h : Evolves z s) :
    Evolves z (paceWindowClose s) := by
  unfold paceWindowClose
  try dsimp only
  repeat' (first | with_reducible assumption | with_reducible apply State.noteEvt_ev
                 | with_reducible apply State.closePart_ev | with_reducible apply State.closeDie_ev
                 | with_reducible apply Evolves.ite | with_reducible refine Evolves.foldl ?_ (fun _ _ _ => ?_)
                 | fail_if_no_progress (with_reducible refine Evolves.upd ?_ (by rfl)))

theorem State.recordDone_ev {z s : State} (h : Evolves z s) (n : Nat) :
    Evolves z (State.recordDone s n) := by
  unfold State.recordDone
  try dsimp only
  repeat' (first | with_reducible assumption | fail_if_no_progress (with_reducible refine Evolves.upd ?_ (by rfl)) | split)

theorem memLoad_ev {z s : State} (h : Evolves z s) (data : List Byte) :
    Evolves z (memLoad data s) := by
  unfold memLoad
  try dsimp only
  repeat' (first | with_reducible assumption | with_reducible apply State.takeRecord_ev
                 | with_reducible apply State.recordFail_ev | with_reducible apply State.recordDone_ev
                 | with_reducible apply State.putLoad_ev
                 | with_reducible refine Evolves.ofFst (by with_reducible assumption) ?_ | split)

theorem State.dbgRead_ev {z s : State} (h : Evolves z s) (a : Nat) (n : Nat) :
    Evolves z (State.dbgRead s a n) := by
  unfold State.dbgRead
  try dsimp only
  repeat' (first | with_reducible assumption | with_reducible apply State.addAux_ev | with_reducible apply State.out_ev
                 | with_reducible apply State.bar2Get_ev | with_reducible apply Evolves.ite)

theorem State.mgmtUse_ev {z s : State} (h : Evolves z s) :
    Evolves z (State.mgmtUse s) := by
  unfold State.mgmtUse
  try dsimp only
  repeat' (first | with_reducible assumption | fail_if_no_progress (with_reducible refine Evolves.upd ?_ (by rfl)))

theorem State.noteCause_ev {z s : State} (h : Evolves z s) (m : Nat) :
    Evolves z (State.noteCause s m) := by
  unfold State.noteCause
  try dsimp only
  repeat' (first | with_reducible assumption | with_reducible apply Evolves.ite
                 | fail_if_no_progress (with_reducible refine Evolves.upd ?_ (by rfl)))

theorem State.fuseBreak_ev {z s : State} (h : Evolves z s) :
    Evolves z (State.fuseBreak s) := by
  unfold State.fuseBreak
  try dsimp only
  repeat' (first | with_reducible assumption | with_reducible apply State.freeN_ev | with_reducible apply State.burn_ev
                 | with_reducible apply State.freeW_ev | split)

theorem State.enterReset_ev {z s : State} (h : Evolves z s) : Evolves z s.enterReset := by
  unfold State.enterReset
  refine Evolves.ite h ?_
  have k := State.fuseBreak_ev h
  exact ⟨k.now, k.pending, fun _ => rfl, k.outbox, k.free, k.fuses⟩

theorem supplyReset_ev {z s : State} (h : Evolves z s) (n : Nat) :
    Evolves z (supplyReset n s) := by
  unfold supplyReset
  try dsimp only
  repeat' (first | with_reducible assumption | with_reducible apply State.noteCause_ev
                 | with_reducible apply State.enterReset_ev | with_reducible apply Evolves.ite
                 | fail_if_no_progress (with_reducible refine Evolves.upd ?_ (by rfl)))

theorem mgmtSetdasa_ev {z s : State} (h : Evolves z s) (static : Nat) (addr : Nat) : Evolves z (mgmtSetdasa static addr
    s) := by
  unfold mgmtSetdasa
  refine State.ccc_ev h _ (fun u hu => ?_)
  exact Evolves.ite (State.setDyn_ev hu _) hu

theorem State.mgmtErr_ev {z s : State} (h : Evolves z s) :
    Evolves z (State.mgmtErr s) := by
  unfold State.mgmtErr
  try dsimp only
  repeat' (first | with_reducible assumption | fail_if_no_progress (with_reducible refine Evolves.upd ?_ (by rfl)))

theorem State.mgmtWords_ev {z s : State} (h : Evolves z s) (n : Nat) (a : Nat) (bs : List Byte) :
    Evolves z (s.mgmtWords n a bs) := by
  induction n generalizing s a bs with
  | zero => exact h
  | succ n ih => exact ih (State.writeIn_ev h _ _ _) _ _

theorem mgmtWrite_ev {z s : State} (h : Evolves z s) (data : List Byte) :
    Evolves z (mgmtWrite data s) := by
  unfold mgmtWrite
  try dsimp only
  repeat' (first | with_reducible assumption | with_reducible apply State.mgmtUse_ev
                 | with_reducible apply State.mgmtErr_ev | with_reducible apply State.mgmtWords_ev
                 | with_reducible apply Evolves.ite | fail_if_no_progress (with_reducible refine Evolves.upd ?_ (by rfl)))

theorem State.applyWrites_ev {z s : State} (h : Evolves z s) (l : List (Nat × Word)) : Evolves z (State.applyWrites l s)
    := by
  induction l generalizing s with
  | nil => exact h
  | cons e r ih =>
    unfold State.applyWrites
    have k := State.imageWrite_ev h e.1 e.2
    split
    · exact ih (Evolves.ofFst (by assumption) k)
    · exact State.recordFail_ev (Evolves.ofFst (by assumption) k) _

theorem State.regRecord_ev {z s : State} (h : Evolves z s) (d : RecDesc) (ws : List (Nat × Word)) :
    Evolves z (State.regRecord s d ws) := by
  unfold State.regRecord
  try dsimp only
  repeat' (first | with_reducible assumption | with_reducible apply State.recordFail_ev
                 | with_reducible apply State.recordDone_ev | with_reducible apply State.applyWrites_ev
                 | with_reducible apply Evolves.ite)

theorem regBlock_ev {z s : State} (h : Evolves z s) (data : List Byte) :
    Evolves z (regBlock data s) := by
  unfold regBlock
  try dsimp only
  repeat' (first | with_reducible assumption | with_reducible apply State.takeRecord_ev
                 | with_reducible apply State.regRecord_ev
                 | with_reducible refine Evolves.ofFst (by with_reducible assumption) ?_ | split)

theorem delayExpire_ev {z s : State} (h : Evolves z s) :
    Evolves z (delayExpire s) := by
  unfold delayExpire
  try dsimp only
  repeat' (first | with_reducible assumption | with_reducible apply State.recordDone_ev | split)

theorem State.direct_ev {z s : State} (h : Evolves z s) (f : State → State) (hf : ∀  u, Evolves z u → Evolves z (f  u)) :
    Evolves z (State.direct s f) := by
  unfold State.direct
  try dsimp only
  repeat' (first | with_reducible assumption | with_reducible refine hf _ ?_ | with_reducible apply State.ccc_ev
                 | with_reducible apply State.out_ev | with_reducible apply Evolves.ite | intro _)

theorem State.putPace_ev {z s : State} (h : Evolves z s) (n : Nat) (c : PaceCore) :
    Evolves z (State.putPace s n c) := by
  unfold State.putPace
  try dsimp only
  repeat' (first | with_reducible assumption | fail_if_no_progress (with_reducible refine Evolves.upd ?_ (by rfl)))

theorem resetRelease_ev {z s : State} (h : Evolves z s) (bootSrc : Nat) (xtalDly : Nat) (mgmtAddr : Nat) (railsOk : Bool) :
    Evolves z (resetRelease bootSrc xtalDly mgmtAddr railsOk s) := by
  unfold resetRelease
  try dsimp only
  repeat' (first | with_reducible assumption | with_reducible apply State.release_ev | with_reducible apply Evolves.ite
                 | fail_if_no_progress (with_reducible refine Evolves.upd ?_ (by rfl)))

theorem State.loadInstr_ev {z s : State} (h : Evolves z s) (j : JtagInstr) :
    Evolves z (State.loadInstr s j) := by
  unfold State.loadInstr
  try dsimp only
  repeat' (first | with_reducible assumption | with_reducible apply State.enterReset_ev
                 | with_reducible apply State.noteCause_ev | with_reducible apply State.release_ev
                 | with_reducible apply Evolves.ite | fail_if_no_progress (with_reducible refine Evolves.upd ?_ (by rfl)))

theorem testLogicReset_ev {z s : State} (h : Evolves z s) :
    Evolves z (testLogicReset s) := by
  unfold testLogicReset
  try dsimp only
  repeat' (first | with_reducible assumption | with_reducible apply State.loadInstr_ev)

theorem State.waitPoll_ev {z s : State} (h : Evolves z s) :
    Evolves z (State.waitPoll s) := by
  unfold State.waitPoll
  try dsimp only
  repeat' (first | with_reducible assumption | with_reducible apply State.readReg_ev
                 | with_reducible apply State.recordDone_ev | split)

theorem imageWait_ev {z s : State} (h : Evolves z s) (data : List Byte) :
    Evolves z (imageWait data s) := by
  unfold imageWait
  try dsimp only
  repeat' (first | with_reducible assumption | with_reducible apply State.takeRecord_ev
                 | with_reducible apply State.recordFail_ev | with_reducible apply State.waitPoll_ev
                 | with_reducible apply State.putLoad_ev
                 | with_reducible refine Evolves.ofFst (by with_reducible assumption) ?_ | split)

theorem State.waitTick_ev {z s : State} (h : Evolves z s) :
    Evolves z (State.waitTick s) := by
  unfold State.waitTick
  try dsimp only
  repeat' (first | with_reducible assumption | with_reducible apply State.waitPoll_ev
                 | with_reducible apply State.putLoad_ev | split)

theorem microsecondTick_ev {z s : State} (h : Evolves z s) (probes : List Nat) :
    Evolves z (microsecondTick probes s) := by
  unfold microsecondTick
  try dsimp only
  repeat' (first | with_reducible assumption | with_reducible apply State.headerTick_ev
                 | with_reducible apply State.waitTick_ev | with_reducible apply State.dmaTick_ev
                 | with_reducible apply State.regTick_ev | with_reducible apply Evolves.ite
                 | fail_if_no_progress (with_reducible refine Evolves.upd ?_ (by rfl)))

theorem paceProbeStart_ev {z s : State} (h : Evolves z s) (core : Nat) :
    Evolves z (paceProbeStart core s) := by
  unfold paceProbeStart
  try dsimp only
  repeat' (first | with_reducible assumption | with_reducible apply State.putPace_ev | with_reducible apply Evolves.ite)

theorem mgmtGetstatus_ev {z s : State} (h : Evolves z s) :
    Evolves z (mgmtGetstatus s) := by
  unfold mgmtGetstatus
  try dsimp only
  repeat' (first | with_reducible assumption | with_reducible apply State.direct_ev
                 | with_reducible apply State.freeW_ev | with_reducible apply State.out_ev | intro _)

theorem State.mgmtGather_ev {z s : State} (h : Evolves z s) (n : Nat) (a : Nat) : Evolves z (s.mgmtGather n a).2 := by
  induction n generalizing s a with
  | zero => exact h
  | succ n ih => exact ih (State.readReg_ev h _ _) _

theorem scrubRead_ev {z s : State} (h : Evolves z s) (addr : Nat) (upset : ReadStatus) :
    Evolves z (scrubRead addr upset s) := by
  unfold scrubRead
  try dsimp only
  repeat' (first | with_reducible assumption | with_reducible apply State.raiseEcc_ev
                 | with_reducible apply Evolves.ite | fail_if_no_progress (with_reducible refine Evolves.upd ?_ (by rfl)))

theorem supplyResetRelease_ev {z s : State} (h : Evolves z s) (bootSrc : Nat) (xtalDly : Nat) (mgmtAddr : Nat) :
    Evolves z (supplyResetRelease bootSrc xtalDly mgmtAddr s) := by
  unfold supplyResetRelease
  try dsimp only
  repeat' (first | with_reducible assumption | with_reducible apply State.release_ev | with_reducible apply Evolves.ite
                 | fail_if_no_progress (with_reducible refine Evolves.upd ?_ (by rfl)))

theorem imageInfo_ev {z s : State} (h : Evolves z s) (data : List Byte) :
    Evolves z (imageInfo data s) := by
  unfold imageInfo
  try dsimp only
  repeat' (first | with_reducible assumption | with_reducible apply State.takeRecord_ev
                 | with_reducible apply State.recordDone_ev
                 | with_reducible refine Evolves.ofFst (by with_reducible assumption) ?_ | split)

theorem waitTimeout_ev {z s : State} (h : Evolves z s) :
    Evolves z (waitTimeout s) := by
  unfold waitTimeout
  try dsimp only
  repeat' (first | with_reducible assumption | with_reducible apply State.recordFail_ev | split)

theorem mgmtIbiRetry_ev {z s : State} (h : Evolves z s) :
    Evolves z (mgmtIbiRetry s) := by
  unfold mgmtIbiRetry
  try dsimp only
  repeat' (first | with_reducible assumption | with_reducible apply State.putIbi_ev | split)

theorem mgmtEvents_ev {z s : State} (h : Evolves z s) (on : Bool) (events : Nat) :
    Evolves z (mgmtEvents on events s) := by
  unfold mgmtEvents
  try dsimp only
  repeat' (first | with_reducible assumption | with_reducible apply State.ccc_ev
                 | fail_if_no_progress (with_reducible refine Evolves.upd ?_ (by rfl)) | split | intro _)

theorem thermalSample_ev {z s : State} (h : Evolves z s) (ts : List Int) :
    Evolves z (thermalSample ts s) := by
  unfold thermalSample
  try dsimp only
  repeat' (first | with_reducible assumption | with_reducible apply State.thermNote_ev
                 | with_reducible apply State.enterReset_ev | with_reducible apply State.noteCause_ev
                 | fail_if_no_progress (with_reducible refine Evolves.upd ?_ (by rfl)) | split)

theorem regWrite_ev {z s : State} (h : Evolves z s) (data : List Byte) :
    Evolves z (regWrite data s) := by
  unfold regWrite
  try dsimp only
  repeat' (first | with_reducible assumption | with_reducible apply State.takeRecord_ev
                 | with_reducible apply State.regRecord_ev
                 | with_reducible refine Evolves.ofFst (by with_reducible assumption) ?_ | split)

theorem imageLock_ev {z s : State} (h : Evolves z s) (data : List Byte) :
    Evolves z (imageLock data s) := by
  unfold imageLock
  try dsimp only
  repeat' (first | with_reducible assumption | with_reducible apply State.takeRecord_ev
                 | with_reducible apply State.recordDone_ev | with_reducible apply State.putLoad_ev
                 | with_reducible refine Evolves.ofFst (by with_reducible assumption) ?_ | split)

theorem mgmtRead_ev {z s : State} (h : Evolves z s) (len : Nat) :
    Evolves z (mgmtRead len s) := by
  unfold mgmtRead
  try dsimp only
  repeat' (first | with_reducible assumption | with_reducible apply State.mgmtUse_ev
                 | with_reducible apply State.out_ev | with_reducible apply State.mgmtErr_ev
                 | with_reducible apply State.mgmtGather_ev | with_reducible apply Evolves.ite)

theorem jtagIdcode_ev {z s : State} (h : Evolves z s) :
    Evolves z (jtagIdcode s) := by
  unfold jtagIdcode
  try dsimp only
  repeat' (first | with_reducible assumption | with_reducible apply State.out_ev
                 | with_reducible apply State.loadInstr_ev | with_reducible apply Evolves.ite)

theorem resetAssert_ev {z s : State} (h : Evolves z s) (pwrgood : Bool) :
    Evolves z (resetAssert pwrgood s) := by
  unfold resetAssert
  try dsimp only
  repeat' (first | with_reducible assumption | with_reducible apply State.noteCause_ev
                 | with_reducible apply State.enterReset_ev | with_reducible apply Evolves.ite
                 | fail_if_no_progress (with_reducible refine Evolves.upd ?_ (by rfl)))

theorem jtagBypass_ev {z s : State} (h : Evolves z s) :
    Evolves z (jtagBypass s) := by
  unfold jtagBypass
  try dsimp only
  repeat' (first | with_reducible assumption | with_reducible apply State.out_ev
                 | with_reducible apply State.loadInstr_ev | with_reducible apply Evolves.ite)

theorem mgmtSetLen_ev {z s : State} (h : Evolves z s) (write : Bool) (len : Nat) :
    Evolves z (mgmtSetLen write len s) := by
  unfold mgmtSetLen
  try dsimp only
  repeat' (first | with_reducible assumption | with_reducible apply State.direct_ev
                 | fail_if_no_progress (with_reducible refine Evolves.upd ?_ (by rfl)) | intro _)

theorem dbgAccess_ev {z s : State} (h : Evolves z s) (op : DbgOp) :
    Evolves z (dbgAccess op s) := by
  unfold dbgAccess
  try dsimp only
  repeat' (first | with_reducible assumption | with_reducible apply State.loadInstr_ev
                 | with_reducible apply State.out_ev | with_reducible apply State.readOut_ev
                 | with_reducible apply State.writeIn_ev | with_reducible apply State.dbgRead_ev
                 | with_reducible apply State.bar2Put_ev
                 | fail_if_no_progress (with_reducible refine Evolves.upd ?_ (by rfl)) | split)

end Sys2Proof.Machine
end

