-- ==== Sys2Proof/Laws/EvolveExec.lean ====
section
/-! SUPPORT. What every command leaves true: exec evolves the state of the command's instant. -/

namespace Sys2Proof.Machine

theorem imageArm_ev {z s : State} (h : Evolves z s) (data : List Byte) :
    ∀ u, imageArm data s = .next u → Evolves z u := by
  intro u e
  unfold imageArm at e
  split at e
  · rename_i h1
    have k := State.takeRecord_ev h 0x10 data
    rw [h1] at k
    dsimp only at e
    split at e
    · cases e; exact State.recordFail_ev (State.runChecks_ev (State.putLoad_ev k _)) _
    · split at e
      · cases e; exact State.step14_ev (State.runChecks_ev (State.putLoad_ev k _)) _ _
      · cases e
  · rename_i h1
    have k := State.takeRecord_ev h 0x10 data
    rw [h1] at k
    cases e; exact k

/-- Every command that runs evolves the state of its instant. -/
theorem exec_ev {i : Instr} {s s' : State} (h : exec i s = .next s') : Evolves (s.advance i.time) s' := by
  cases i with
  | resetAssert t pwrgood => cases h; exact resetAssert_ev (.refl _) ..
  | resetRelease t bootSrc xtalDly mgmtAddr railsOk => cases h; exact resetRelease_ev (.refl _) ..
  | rcOscillatorStart t => cases h; exact rcStart_ev (.refl _) ..
  | vddCoreSettled t => cases h; exact vddSettled_ev (.refl _) ..
  | xtalAmpDetect t => cases h; exact xtalAmp_ev (.refl _) ..
  | xtalCountDone t => cases h; exact xtalCount_ev (.refl _) ..
  | xtalDlyDone t => cases h; exact xtalDly_ev (.refl _) ..
  | xoStartTimeout t => cases h; exact xoTimeout_ev (.refl _) ..
  | pllLocked t n => cases h; exact pllLocked_ev (.refl _) ..
  | pllUnlock t n xoFailing => cases h; exact pllUnlock_ev (.refl _) ..
  | memInitDone t => cases h; exact memInitDone_ev (.refl _) ..
  | pcieConfigRequest t op => cases h; exact pcieConfig_ev (.refl _) ..
  | imageHeader t data sfdp => cases h; exact imageHeader_ev (.refl _) ..
  | loadFailZeroed t => cases h; exact loadFailZeroed_ev (.refl _) ..
  | regWrite t data => cases h; exact regWrite_ev (.refl _) ..
  | regBlock t data => cases h; exact regBlock_ev (.refl _) ..
  | memLoad t data => cases h; exact memLoad_ev (.refl _) ..
  | wait t data => cases h; exact imageWait_ev (.refl _) ..
  | waitTimeout t => cases h; exact waitTimeout_ev (.refl _) ..
  | delay t data => cases h; exact imageDelay_ev (.refl _) ..
  | delayExpire t => cases h; exact delayExpire_ev (.refl _) ..
  | info t data => cases h; exact imageInfo_ev (.refl _) ..
  | lock t data => cases h; exact imageLock_ev (.refl _) ..
  | arm t data => exact imageArm_ev (.refl _) _ _ h
  | go t path => cases h; exact State.writeIn_ev (.refl _) ..
  | stageData t path value => cases h; exact State.writeIn_ev (.refl _) ..
  | pushGo t path => cases h; exact State.writeIn_ev (.refl _) ..
  | rearm t path abort => cases h; exact State.writeIn_ev (.refl _) ..
  | rearmDrainTimeout t => cases h; exact rearmDrainTimeout_ev (.refl _) ..
  | rearmStepDone t => cases h; exact rearmStepDone_ev (.refl _) ..
  | frameStart t port vc fn ecc => cases h; exact frameStart_ev (.refl _) ..
  | frameEnd t port vc fn ecc => cases h; exact frameEnd_ev (.refl _) ..
  | longPacket t port vc dt wc ecc data crcOk => cases h; exact longPacket_ev (.refl _) ..
  | shortPacketIgnored t port vc dt ecc => cases h; exact shortPacket_ev (.refl _) ..
  | frameCloseTimeout t src => cases h; exact frameCloseTimeout_ev (.refl _) ..
  | frameSlotExpire t src => cases h; exact frameSlotExpire_ev (.refl _) ..
  | sensorCommandIssue t port => cases h; exact sensorIssue_ev (.refl _) ..
  | sensorCommandDone t port rdata nack => cases h; exact sensorDone_ev (.refl _) ..
  | ibi t port addr payload => cases h; exact sensorIbi_ev (.refl _) ..
  | hotJoin t port => cases h; exact hotJoin_ev (.refl _) ..
  | scCmd t path port value => cases h; exact State.writeIn_ev (.refl _) ..
  | scFlush t path port => cases h; exact State.writeIn_ev (.refl _) ..
  | scRdataRead t path port => cases h; exact State.readOut_ev (.refl _) ..
  | scIbiRead t path port => cases h; exact State.readOut_ev (.refl _) ..
  | fsyncPulse t output => cases h; exact fsyncPulse_ev (.refl _) ..
  | genlockEdge t width => cases h; exact genlockEdge_ev (.refl _) ..
  | genlockLost t => cases h; exact genlockLost_ev (.refl _) ..
  | commit t path src discard => cases h; exact State.writeIn_ev (.refl _) ..
  | next t path src discard => cases h; exact State.writeIn_ev (.refl _) ..
  | discard t path src => cases h; exact State.writeIn_ev (.refl _) ..
  | sharedStripeStart t => cases h; exact sharedStripeStart_ev (.refl _) ..
  | sharedStripeDone t => cases h; exact sharedStripeDone_ev (.refl _) ..
  | inlineSegmentOffer t => cases h; exact inlineSegmentOffer_ev (.refl _) ..
  | microsecondTick t probes => cases h; exact microsecondTick_ev (.refl _) ..
  | paceWindowClose t => cases h; exact paceWindowClose_ev (.refl _) ..
  | paceProbeStart t core => cases h; exact paceProbeStart_ev (.refl _) ..
  | paceCtrlWrite t path value => cases h; exact State.writeIn_ev (.refl _) ..
  | partMarginLowRead t path p => cases h; exact State.readOut_ev (.refl _) ..
  | macroFetch t core ctx ecc => cases h; exact macroFetch_ev (.refl _) ..
  | conv t core => cases h; exact State.issueData_ev (.refl _) ..
  | dwconv t core => cases h; exact State.issueData_ev (.refl _) ..
  | matmul t core => cases h; exact State.issueData_ev (.refl _) ..
  | xformForward t core => cases h; exact State.issueData_ev (.refl _) ..
  | xformInverse t core => cases h; exact State.issueData_ev (.refl _) ..
  | poolMax t core => cases h; exact State.issueData_ev (.refl _) ..
  | poolAverage t core => cases h; exact State.issueData_ev (.refl _) ..
  | resampleNearest t core => cases h; exact State.issueData_ev (.refl _) ..
  | resampleBilinear t core => cases h; exact State.issueData_ev (.refl _) ..
  | eltw t core => cases h; exact State.issueData_ev (.refl _) ..
  | copy t core => cases h; exact State.issueData_ev (.refl _) ..
  | bwdData t core => cases h; exact State.issueData_ev (.refl _) ..
  | bwdWgt t core => cases h; exact State.issueData_ev (.refl _) ..
  | updateStep t core => cases h; exact State.issueData_ev (.refl _) ..
  | updateLoss t core => cases h; exact State.issueData_ev (.refl _) ..
  | updatePublish t core => cases h; exact State.issueData_ev (.refl _) ..
  | publication t core => cases h; exact publication_ev (.refl _) ..
  | claim t core => cases h; exact State.issueCtl_ev (.refl _) _ _ _ (fun _ _ _ _ _ h => State.claimIssue_ev h ..)
  | claimAnswer t core ctx stuck ecc => cases h; exact claimAnswer_ev (.refl _) ..
  | waitSem t core => cases h; exact State.issueCtl_ev (.refl _) _ _ _ (fun _ _ _ _ _ h => State.waitIssue_ev h ..)
  | signalSem t core => cases h; exact State.issueCtl_ev (.refl _) _ _ _ (fun _ _ _ _ _ h => State.signalIssue_ev h ..)
  | semaphoreUpdate t ecc => cases h; exact semaphoreUpdate_ev (.refl _) ..
  | loop t core => cases h; exact State.issueCtl_ev (.refl _) _ _ _ (fun _ _ _ _ _ h => State.loopIssue_ev h ..)
  | endStop t core => cases h; exact State.issueCtl_ev (.refl _) _ _ _ (fun _ _ _ _ _ h => State.endIssue_ev h ..)
  | endRestart t core => cases h; exact State.issueCtl_ev (.refl _) _ _ _ (fun _ _ _ _ _ h => State.endIssue_ev h ..)
  | coreCycle t core upset => cases h; exact coreCycle_ev (.refl _) ..
  | residueIntervalTimeout t core => cases h; exact residueTimeout_ev (.refl _) ..
  | residueCompare t core => cases h; exact residueCompare_ev (.refl _) ..
  | drainRow t core upset => cases h; exact drainRow_ev (.refl _) ..
  | arbitrationGrant t point ecc => cases h; exact arbitrationGrant_ev (.refl _) ..
  | readCompletion t id status => cases h; exact readCompletion_ev (.refl _) ..
  | writeAccept t id => cases h; exact writeAccept_ev (.refl _) ..
  | pageMapEntryRead t id status => cases h; exact pageMapEntryRead_ev (.refl _) ..
  | pmFlush t path => cases h; exact State.writeIn_ev (.refl _) ..
  | pfInfoRead t path => cases h; exact State.readOut_ev (.refl _) ..
  | resume t path value => cases h; exact State.writeIn_ev (.refl _) ..
  | cancel t path value => cases h; exact State.writeIn_ev (.refl _) ..
  | streamCancelDone t requester slot => cases h; exact streamCancelDone_ev (.refl _) ..
  | tagTimeout t id => cases h; exact tagTimeout_ev (.refl _) ..
  | stripeRelease t src frame stripe => cases h; exact stripeRelease_ev (.refl _) ..
  | frameRecordFinal t src frame => cases h; exact frameRecordFinal_ev (.refl _) ..
  | stallTimeout t p => cases h; exact stallTimeout_ev (.refl _) ..
  | txSlot t port strm => cases h; exact txSlot_ev (.refl _) ..
  | txPacketSent t port => cases h; exact txPacketSent_ev (.refl _) ..
  | linkUp t gen width => cases h; exact linkUp_ev (.refl _) ..
  | linkDown t => cases h; exact State.linkDown_ev (.refl _) ..
  | hotReset t => cases h; exact hotReset_ev (.refl _) ..
  | d3hot t enter => cases h; exact d3hot_ev (.refl _) ..
  | bar2Read t addr len status => cases h; exact bar2Read_ev (.refl _) ..
  | bar2Write t addr data ep => cases h; exact bar2Write_ev (.refl _) ..
  | msixMaskWrite t path addr value => cases h; exact State.writeIn_ev (.refl _) ..
  | pcieCompletion t tag status data => cases h; exact pcieCompletion_ev (.refl _) ..
  | completionTimeout t tag => cases h; exact completionTimeout_ev (.refl _) ..
  | chDoorbell t path ch value => cases h; exact State.writeIn_ev (.refl _) ..
  | descriptorFetch t ch => cases h; exact descriptorFetch_ev (.refl _) ..
  | descriptorReceived t ch => cases h; exact descriptorReceived_ev (.refl _) ..
  | dmaBeat t dataPath => cases h; exact dmaBeat_ev (.refl _) ..
  | sourceAccept t ch => cases h; exact sourceAccept_ev (.refl _) ..
  | start t path ch => cases h; exact State.writeIn_ev (.refl _) ..
  | stop t path ch => cases h; exact State.writeIn_ev (.refl _) ..
  | abort t path ch => cases h; exact State.writeIn_ev (.refl _) ..
  | restart t path ch => cases h; exact State.writeIn_ev (.refl _) ..
  | resetIdx t path ch => cases h; exact State.writeIn_ev (.refl _) ..
  | scrubRead t addr upset => cases h; exact scrubRead_ev (.refl _) ..
  | handshakeTimeout t die pos kind => cases h; exact handshakeTimeout_ev (.refl _) ..
  | alertAck t path value => cases h; exact State.writeIn_ev (.refl _) ..
  | cntClear t path addr value => cases h; exact Evolves.ite (State.writeIn_ev (.refl _) ..) (.refl _)
  | monitorWindow t count => cases h; exact monitorWindow_ev (.refl _) ..
  | rcWindowTimeout t => cases h; exact rcTimeout_ev (.refl _) ..
  | pllCfgWrite t path n value => cases h; exact State.writeIn_ev (.refl _) ..
  | sscCfgWrite t path n value => cases h; exact State.writeIn_ev (.refl _) ..
  | mclkCfgWrite t path n value => cases h; exact State.writeIn_ev (.refl _) ..
  | avsPeriod t => cases h; exact avsPeriod_ev (.refl _) ..
  | avsResponse t good mv amp => cases h; exact avsResponse_ev (.refl _) ..
  | railDipStart t n mv => cases h; exact railDipStart_ev (.refl _) ..
  | railDipEnd t n lowest => cases h; exact railDipEnd_ev (.refl _) ..
  | supplyReset t n => cases h; exact supplyReset_ev (.refl _) ..
  | thermalSample t temps => cases h; exact thermalSample_ev (.refl _) ..
  | pwrReqRun t path => cases h; exact State.writeIn_ev (.refl _) ..
  | pwrReqSleep t path => cases h; exact State.writeIn_ev (.refl _) ..
  | pwrReqDeepSleep t path => cases h; exact State.writeIn_ev (.refl _) ..
  | powerEntryDrainTimeout t => cases h; exact powerEntryDrainTimeout_ev (.refl _) ..
  | powerEntryStepDone t => cases h; exact powerEntryStepDone_ev (.refl _) ..
  | wakeStepDone t => cases h; exact wakeStepDone_ev (.refl _) ..
  | vbatSwitchover t => cases h; exact vbatSwitch_ev (.refl _) ..
  | vdd1v8Restored t => cases h; exact vddRestored_ev (.refl _) ..
  | program t path => cases h; exact State.writeIn_ev (.refl _) ..
  | fuseProgramDone t readBack => cases h; exact fuseDone_ev (.refl _) ..
  | bypass t => cases h; exact jtagBypass_ev (.refl _) ..
  | idcode t => cases h; exact jtagIdcode_ev (.refl _) ..
  | samplePreload t => cases h; exact State.loadInstr_ev (.refl _) ..
  | extest t => cases h; exact State.loadInstr_ev (.refl _) ..
  | clamp t => cases h; exact State.loadInstr_ev (.refl _) ..
  | highz t => cases h; exact State.loadInstr_ev (.refl _) ..
  | dbgAccess t op => cases h; exact dbgAccess_ev (.refl _) ..
  | testLogicReset t => cases h; exact testLogicReset_ev (.refl _) ..
  | mgmtWrite t data => cases h; exact mgmtWrite_ev (.refl _) ..
  | mgmtRead t len => cases h; exact mgmtRead_ev (.refl _) ..
  | mgmtIbiRetry t => cases h; exact mgmtIbiRetry_ev (.refl _) ..
  | enec t events => cases h; exact mgmtEvents_ev (.refl _) ..
  | disec t events => cases h; exact mgmtEvents_ev (.refl _) ..
  | rstdaa t => cases h; exact State.ccc_ev (.refl _) _ (fun _ h => State.setDyn_ev h _)
  | entdaa t addr => cases h; exact mgmtEntdaa_ev (.refl _) ..
  | setdasa t static addr => cases h; exact mgmtSetdasa_ev (.refl _) ..
  | setnewda t addr => cases h; exact State.direct_ev (.refl _) _ (fun _ h => State.setDyn_ev h _)
  | getpid t => cases h; exact State.direct_ev (.refl _) _ (fun _ h => State.out_ev h _)
  | getbcr t => cases h; exact State.direct_ev (.refl _) _ (fun _ h => State.out_ev h _)
  | getdcr t => cases h; exact State.direct_ev (.refl _) _ (fun _ h => State.out_ev h _)
  | getstatus t => cases h; exact mgmtGetstatus_ev (.refl _) ..
  | setmwl t len => cases h; exact mgmtSetLen_ev (.refl _) ..
  | getmwl t => cases h; exact State.direct_ev (.refl _) _ (fun _ h => State.out_ev h _)
  | setmrl t len => cases h; exact mgmtSetLen_ev (.refl _) ..
  | getmrl t => cases h; exact State.direct_ev (.refl _) _ (fun _ h => State.out_ev h _)
  | unsupportedCcc t direct => cases h; exact State.ccc_ev (.refl _) _ (fun _ h => Evolves.ite (State.out_ev h _) h)
  | set t path => cases h; exact State.writeIn_ev (.refl _) ..
  | setAtPps t path => cases h; exact State.writeIn_ev (.refl _) ..
  | ppsEdge t width => cases h; exact ppsEdge_ev (.refl _) ..
  | ppsHoldover t => cases h; exact ppsHoldover_ev (.refl _) ..
  | xt32Stopped t => cases h; exact xt32Stopped_ev (.refl _) ..
  | chronoFracRead t path => cases h; exact State.readOut_ev (.refl _) ..
  | lowWordRead t path addr wide => cases h; exact Evolves.ite (State.readOutWide_ev (.refl _) ..) (State.readOut_ev (.refl _) ..)
  | bufPeakRead t path port => cases h; exact State.readOut_ev (.refl _) ..
  | txqPeakRead t path port => cases h; exact State.readOut_ev (.refl _) ..
  | monCountRead t path => cases h; exact State.readOut_ev (.refl _) ..
  | monMinRead t path n => cases h; exact State.readOut_ev (.refl _) ..
  | resplitLastRead t path core => cases h; exact State.readOut_ev (.refl _) ..
  | registerWrite t path addr value high => cases h; split; exacts [State.writeInWide_ev (.refl _) .., State.writeIn_ev (.refl _) ..]
  | supplyResetRelease t bootSrc xtalDly mgmtAddr => cases h; exact supplyResetRelease_ev (.refl _) ..
  | hsBurstEnd t port => cases h; exact hsBurstEnd_ev (.refl _) ..
  | phyErr t port => cases h; exact phyErr_ev (.refl _) ..
  | deskew t port => cases h; exact deskew_ev (.refl _) ..
  | bar0Bad t addr write len => cases h; exact bar0Bad_ev (.refl _) ..
  | vbatLow t mv => cases h; exact vbatLow_ev (.refl _) ..
  | powerOn t => cases h; exact powerOn_ev (.refl _) ..
  | alwaysOnPowerLoss t => cases h; exact alwaysOnLoss_ev (.refl _) ..

end Sys2Proof.Machine
end

