-- ==== Sys2Proof/Laws/State.lean ====
section
/-! SUPPORT. What each single-field update of the state leaves in every field, so that no proof unfolds one, and what passing
time leaves alone. -/

namespace Sys2Proof.Machine

/-! ## out -/

@[simp] theorem State.out_now (s : State) (o : Out) : (s.out o).now = s.now := rfl
@[simp] theorem State.out_usTicks (s : State) (o : Out) : (s.out o).usTicks = s.usTicks := rfl
@[simp] theorem State.out_pending (s : State) (o : Out) : (s.out o).pending = s.pending := rfl
@[simp] theorem State.out_outbox (s : State) (o : Out) : (s.out o).outbox = o :: s.outbox := rfl
@[simp] theorem State.out_freeCount (s : State) (o : Out) : (s.out o).freeCount = s.freeCount := rfl
@[simp] theorem State.out_mem (s : State) (o : Out) : (s.out o).mem = s.mem := rfl
@[simp] theorem State.out_poison (s : State) (o : Out) : (s.out o).poison = s.poison := rfl
@[simp] theorem State.out_regs (s : State) (o : Out) : (s.out o).regs = s.regs := rfl
@[simp] theorem State.out_latMgmt (s : State) (o : Out) : (s.out o).latMgmt = s.latMgmt := rfl
@[simp] theorem State.out_latDbg (s : State) (o : Out) : (s.out o).latDbg = s.latDbg := rfl
@[simp] theorem State.out_latBar0 (s : State) (o : Out) : (s.out o).latBar0 = s.latBar0 := rfl
@[simp] theorem State.out_held (s : State) (o : Out) : (s.out o).held = s.held := rfl
@[simp] theorem State.out_pinResetN (s : State) (o : Out) : (s.out o).pinResetN = s.pinResetN := rfl
@[simp] theorem State.out_pinPwrgood (s : State) (o : Out) : (s.out o).pinPwrgood = s.pinPwrgood := rfl
@[simp] theorem State.out_railHold (s : State) (o : Out) : (s.out o).railHold = s.railHold := rfl
@[simp] theorem State.out_jtag (s : State) (o : Out) : (s.out o).jtag = s.jtag := rfl
@[simp] theorem State.out_boot (s : State) (o : Out) : (s.out o).boot = s.boot := rfl
@[simp] theorem State.out_clk (s : State) (o : Out) : (s.out o).clk = s.clk := rfl
@[simp] theorem State.out_pwr (s : State) (o : Out) : (s.out o).pwr = s.pwr := rfl
@[simp] theorem State.out_aon (s : State) (o : Out) : (s.out o).aon = s.aon := rfl
@[simp] theorem State.out_sec (s : State) (o : Out) : (s.out o).sec = s.sec := rfl
@[simp] theorem State.out_mgmt (s : State) (o : Out) : (s.out o).mgmt = s.mgmt := rfl
@[simp] theorem State.out_chr (s : State) (o : Out) : (s.out o).chr = s.chr := rfl
@[simp] theorem State.out_flt (s : State) (o : Out) : (s.out o).flt = s.flt := rfl
@[simp] theorem State.out_pace (s : State) (o : Out) : (s.out o).pace = s.pace := rfl
@[simp] theorem State.out_ing (s : State) (o : Out) : (s.out o).ing = s.ing := rfl
@[simp] theorem State.out_sctl (s : State) (o : Out) : (s.out o).sctl = s.sctl := rfl
@[simp] theorem State.out_trig (s : State) (o : Out) : (s.out o).trig = s.trig := rfl
@[simp] theorem State.out_front (s : State) (o : Out) : (s.out o).front = s.front := rfl
@[simp] theorem State.out_par (s : State) (o : Out) : (s.out o).par = s.par := rfl
@[simp] theorem State.out_flights (s : State) (o : Out) : (s.out o).flights = s.flights := rfl
@[simp] theorem State.out_cores (s : State) (o : Out) : (s.out o).cores = s.cores := rfl
@[simp] theorem State.out_links (s : State) (o : Out) : (s.out o).links = s.links := rfl
@[simp] theorem State.out_signals (s : State) (o : Out) : (s.out o).signals = s.signals := rfl
@[simp] theorem State.out_wctrs (s : State) (o : Out) : (s.out o).wctrs = s.wctrs := rfl
@[simp] theorem State.out_eph (s : State) (o : Out) : (s.out o).eph = s.eph := rfl
@[simp] theorem State.out_mems (s : State) (o : Out) : (s.out o).mems = s.mems := rfl
@[simp] theorem State.out_host (s : State) (o : Out) : (s.out o).host = s.host := rfl
@[simp] theorem State.out_dma (s : State) (o : Out) : (s.out o).dma = s.dma := rfl
@[simp] theorem State.out_tx (s : State) (o : Out) : (s.out o).tx = s.tx := rfl

/-! ## outs -/

@[simp] theorem State.outs_now (s : State) (os : List Out) : (s.outs os).now = s.now := rfl
@[simp] theorem State.outs_usTicks (s : State) (os : List Out) : (s.outs os).usTicks = s.usTicks := rfl
@[simp] theorem State.outs_pending (s : State) (os : List Out) : (s.outs os).pending = s.pending := rfl
@[simp] theorem State.outs_outbox (s : State) (os : List Out) : (s.outs os).outbox = os.reverse ++ s.outbox := rfl
@[simp] theorem State.outs_freeCount (s : State) (os : List Out) : (s.outs os).freeCount = s.freeCount := rfl
@[simp] theorem State.outs_mem (s : State) (os : List Out) : (s.outs os).mem = s.mem := rfl
@[simp] theorem State.outs_poison (s : State) (os : List Out) : (s.outs os).poison = s.poison := rfl
@[simp] theorem State.outs_regs (s : State) (os : List Out) : (s.outs os).regs = s.regs := rfl
@[simp] theorem State.outs_latMgmt (s : State) (os : List Out) : (s.outs os).latMgmt = s.latMgmt := rfl
@[simp] theorem State.outs_latDbg (s : State) (os : List Out) : (s.outs os).latDbg = s.latDbg := rfl
@[simp] theorem State.outs_latBar0 (s : State) (os : List Out) : (s.outs os).latBar0 = s.latBar0 := rfl
@[simp] theorem State.outs_held (s : State) (os : List Out) : (s.outs os).held = s.held := rfl
@[simp] theorem State.outs_pinResetN (s : State) (os : List Out) : (s.outs os).pinResetN = s.pinResetN := rfl
@[simp] theorem State.outs_pinPwrgood (s : State) (os : List Out) : (s.outs os).pinPwrgood = s.pinPwrgood := rfl
@[simp] theorem State.outs_railHold (s : State) (os : List Out) : (s.outs os).railHold = s.railHold := rfl
@[simp] theorem State.outs_jtag (s : State) (os : List Out) : (s.outs os).jtag = s.jtag := rfl
@[simp] theorem State.outs_boot (s : State) (os : List Out) : (s.outs os).boot = s.boot := rfl
@[simp] theorem State.outs_clk (s : State) (os : List Out) : (s.outs os).clk = s.clk := rfl
@[simp] theorem State.outs_pwr (s : State) (os : List Out) : (s.outs os).pwr = s.pwr := rfl
@[simp] theorem State.outs_aon (s : State) (os : List Out) : (s.outs os).aon = s.aon := rfl
@[simp] theorem State.outs_sec (s : State) (os : List Out) : (s.outs os).sec = s.sec := rfl
@[simp] theorem State.outs_mgmt (s : State) (os : List Out) : (s.outs os).mgmt = s.mgmt := rfl
@[simp] theorem State.outs_chr (s : State) (os : List Out) : (s.outs os).chr = s.chr := rfl
@[simp] theorem State.outs_flt (s : State) (os : List Out) : (s.outs os).flt = s.flt := rfl
@[simp] theorem State.outs_pace (s : State) (os : List Out) : (s.outs os).pace = s.pace := rfl
@[simp] theorem State.outs_ing (s : State) (os : List Out) : (s.outs os).ing = s.ing := rfl
@[simp] theorem State.outs_sctl (s : State) (os : List Out) : (s.outs os).sctl = s.sctl := rfl
@[simp] theorem State.outs_trig (s : State) (os : List Out) : (s.outs os).trig = s.trig := rfl
@[simp] theorem State.outs_front (s : State) (os : List Out) : (s.outs os).front = s.front := rfl
@[simp] theorem State.outs_par (s : State) (os : List Out) : (s.outs os).par = s.par := rfl
@[simp] theorem State.outs_flights (s : State) (os : List Out) : (s.outs os).flights = s.flights := rfl
@[simp] theorem State.outs_cores (s : State) (os : List Out) : (s.outs os).cores = s.cores := rfl
@[simp] theorem State.outs_links (s : State) (os : List Out) : (s.outs os).links = s.links := rfl
@[simp] theorem State.outs_signals (s : State) (os : List Out) : (s.outs os).signals = s.signals := rfl
@[simp] theorem State.outs_wctrs (s : State) (os : List Out) : (s.outs os).wctrs = s.wctrs := rfl
@[simp] theorem State.outs_eph (s : State) (os : List Out) : (s.outs os).eph = s.eph := rfl
@[simp] theorem State.outs_mems (s : State) (os : List Out) : (s.outs os).mems = s.mems := rfl
@[simp] theorem State.outs_host (s : State) (os : List Out) : (s.outs os).host = s.host := rfl
@[simp] theorem State.outs_dma (s : State) (os : List Out) : (s.outs os).dma = s.dma := rfl
@[simp] theorem State.outs_tx (s : State) (os : List Out) : (s.outs os).tx = s.tx := rfl

/-! ## useFree -/

@[simp] theorem State.useFree_now (s : State) (k : Nat) : (s.useFree k).now = s.now := rfl
@[simp] theorem State.useFree_usTicks (s : State) (k : Nat) : (s.useFree k).usTicks = s.usTicks := rfl
@[simp] theorem State.useFree_pending (s : State) (k : Nat) : (s.useFree k).pending = s.pending := rfl
@[simp] theorem State.useFree_outbox (s : State) (k : Nat) : (s.useFree k).outbox = s.outbox := rfl
@[simp] theorem State.useFree_freeCount (s : State) (k : Nat) : (s.useFree k).freeCount = s.freeCount + k := rfl
@[simp] theorem State.useFree_mem (s : State) (k : Nat) : (s.useFree k).mem = s.mem := rfl
@[simp] theorem State.useFree_poison (s : State) (k : Nat) : (s.useFree k).poison = s.poison := rfl
@[simp] theorem State.useFree_regs (s : State) (k : Nat) : (s.useFree k).regs = s.regs := rfl
@[simp] theorem State.useFree_latMgmt (s : State) (k : Nat) : (s.useFree k).latMgmt = s.latMgmt := rfl
@[simp] theorem State.useFree_latDbg (s : State) (k : Nat) : (s.useFree k).latDbg = s.latDbg := rfl
@[simp] theorem State.useFree_latBar0 (s : State) (k : Nat) : (s.useFree k).latBar0 = s.latBar0 := rfl
@[simp] theorem State.useFree_held (s : State) (k : Nat) : (s.useFree k).held = s.held := rfl
@[simp] theorem State.useFree_pinResetN (s : State) (k : Nat) : (s.useFree k).pinResetN = s.pinResetN := rfl
@[simp] theorem State.useFree_pinPwrgood (s : State) (k : Nat) : (s.useFree k).pinPwrgood = s.pinPwrgood := rfl
@[simp] theorem State.useFree_railHold (s : State) (k : Nat) : (s.useFree k).railHold = s.railHold := rfl
@[simp] theorem State.useFree_jtag (s : State) (k : Nat) : (s.useFree k).jtag = s.jtag := rfl
@[simp] theorem State.useFree_boot (s : State) (k : Nat) : (s.useFree k).boot = s.boot := rfl
@[simp] theorem State.useFree_clk (s : State) (k : Nat) : (s.useFree k).clk = s.clk := rfl
@[simp] theorem State.useFree_pwr (s : State) (k : Nat) : (s.useFree k).pwr = s.pwr := rfl
@[simp] theorem State.useFree_aon (s : State) (k : Nat) : (s.useFree k).aon = s.aon := rfl
@[simp] theorem State.useFree_sec (s : State) (k : Nat) : (s.useFree k).sec = s.sec := rfl
@[simp] theorem State.useFree_mgmt (s : State) (k : Nat) : (s.useFree k).mgmt = s.mgmt := rfl
@[simp] theorem State.useFree_chr (s : State) (k : Nat) : (s.useFree k).chr = s.chr := rfl
@[simp] theorem State.useFree_flt (s : State) (k : Nat) : (s.useFree k).flt = s.flt := rfl
@[simp] theorem State.useFree_pace (s : State) (k : Nat) : (s.useFree k).pace = s.pace := rfl
@[simp] theorem State.useFree_ing (s : State) (k : Nat) : (s.useFree k).ing = s.ing := rfl
@[simp] theorem State.useFree_sctl (s : State) (k : Nat) : (s.useFree k).sctl = s.sctl := rfl
@[simp] theorem State.useFree_trig (s : State) (k : Nat) : (s.useFree k).trig = s.trig := rfl
@[simp] theorem State.useFree_front (s : State) (k : Nat) : (s.useFree k).front = s.front := rfl
@[simp] theorem State.useFree_par (s : State) (k : Nat) : (s.useFree k).par = s.par := rfl
@[simp] theorem State.useFree_flights (s : State) (k : Nat) : (s.useFree k).flights = s.flights := rfl
@[simp] theorem State.useFree_cores (s : State) (k : Nat) : (s.useFree k).cores = s.cores := rfl
@[simp] theorem State.useFree_links (s : State) (k : Nat) : (s.useFree k).links = s.links := rfl
@[simp] theorem State.useFree_signals (s : State) (k : Nat) : (s.useFree k).signals = s.signals := rfl
@[simp] theorem State.useFree_wctrs (s : State) (k : Nat) : (s.useFree k).wctrs = s.wctrs := rfl
@[simp] theorem State.useFree_eph (s : State) (k : Nat) : (s.useFree k).eph = s.eph := rfl
@[simp] theorem State.useFree_mems (s : State) (k : Nat) : (s.useFree k).mems = s.mems := rfl
@[simp] theorem State.useFree_host (s : State) (k : Nat) : (s.useFree k).host = s.host := rfl
@[simp] theorem State.useFree_dma (s : State) (k : Nat) : (s.useFree k).dma = s.dma := rfl
@[simp] theorem State.useFree_tx (s : State) (k : Nat) : (s.useFree k).tx = s.tx := rfl

/-! ## rput -/

@[simp] theorem State.rput_now (s : State) (a : Nat) (w : Word) : (s.rput a w).now = s.now := rfl
@[simp] theorem State.rput_usTicks (s : State) (a : Nat) (w : Word) : (s.rput a w).usTicks = s.usTicks := rfl
@[simp] theorem State.rput_pending (s : State) (a : Nat) (w : Word) : (s.rput a w).pending = s.pending := rfl
@[simp] theorem State.rput_outbox (s : State) (a : Nat) (w : Word) : (s.rput a w).outbox = s.outbox := rfl
@[simp] theorem State.rput_freeCount (s : State) (a : Nat) (w : Word) : (s.rput a w).freeCount = s.freeCount := rfl
@[simp] theorem State.rput_mem (s : State) (a : Nat) (w : Word) : (s.rput a w).mem = s.mem := rfl
@[simp] theorem State.rput_poison (s : State) (a : Nat) (w : Word) : (s.rput a w).poison = s.poison := rfl
@[simp] theorem State.rput_regs (s : State) (a : Nat) (w : Word) : (s.rput a w).regs = tput s.regs a w := rfl
@[simp] theorem State.rput_latMgmt (s : State) (a : Nat) (w : Word) : (s.rput a w).latMgmt = s.latMgmt := rfl
@[simp] theorem State.rput_latDbg (s : State) (a : Nat) (w : Word) : (s.rput a w).latDbg = s.latDbg := rfl
@[simp] theorem State.rput_latBar0 (s : State) (a : Nat) (w : Word) : (s.rput a w).latBar0 = s.latBar0 := rfl
@[simp] theorem State.rput_held (s : State) (a : Nat) (w : Word) : (s.rput a w).held = s.held := rfl
@[simp] theorem State.rput_pinResetN (s : State) (a : Nat) (w : Word) : (s.rput a w).pinResetN = s.pinResetN := rfl
@[simp] theorem State.rput_pinPwrgood (s : State) (a : Nat) (w : Word) : (s.rput a w).pinPwrgood = s.pinPwrgood := rfl
@[simp] theorem State.rput_railHold (s : State) (a : Nat) (w : Word) : (s.rput a w).railHold = s.railHold := rfl
@[simp] theorem State.rput_jtag (s : State) (a : Nat) (w : Word) : (s.rput a w).jtag = s.jtag := rfl
@[simp] theorem State.rput_boot (s : State) (a : Nat) (w : Word) : (s.rput a w).boot = s.boot := rfl
@[simp] theorem State.rput_clk (s : State) (a : Nat) (w : Word) : (s.rput a w).clk = s.clk := rfl
@[simp] theorem State.rput_pwr (s : State) (a : Nat) (w : Word) : (s.rput a w).pwr = s.pwr := rfl
@[simp] theorem State.rput_aon (s : State) (a : Nat) (w : Word) : (s.rput a w).aon = s.aon := rfl
@[simp] theorem State.rput_sec (s : State) (a : Nat) (w : Word) : (s.rput a w).sec = s.sec := rfl
@[simp] theorem State.rput_mgmt (s : State) (a : Nat) (w : Word) : (s.rput a w).mgmt = s.mgmt := rfl
@[simp] theorem State.rput_chr (s : State) (a : Nat) (w : Word) : (s.rput a w).chr = s.chr := rfl
@[simp] theorem State.rput_flt (s : State) (a : Nat) (w : Word) : (s.rput a w).flt = s.flt := rfl
@[simp] theorem State.rput_pace (s : State) (a : Nat) (w : Word) : (s.rput a w).pace = s.pace := rfl
@[simp] theorem State.rput_ing (s : State) (a : Nat) (w : Word) : (s.rput a w).ing = s.ing := rfl
@[simp] theorem State.rput_sctl (s : State) (a : Nat) (w : Word) : (s.rput a w).sctl = s.sctl := rfl
@[simp] theorem State.rput_trig (s : State) (a : Nat) (w : Word) : (s.rput a w).trig = s.trig := rfl
@[simp] theorem State.rput_front (s : State) (a : Nat) (w : Word) : (s.rput a w).front = s.front := rfl
@[simp] theorem State.rput_par (s : State) (a : Nat) (w : Word) : (s.rput a w).par = s.par := rfl
@[simp] theorem State.rput_flights (s : State) (a : Nat) (w : Word) : (s.rput a w).flights = s.flights := rfl
@[simp] theorem State.rput_cores (s : State) (a : Nat) (w : Word) : (s.rput a w).cores = s.cores := rfl
@[simp] theorem State.rput_links (s : State) (a : Nat) (w : Word) : (s.rput a w).links = s.links := rfl
@[simp] theorem State.rput_signals (s : State) (a : Nat) (w : Word) : (s.rput a w).signals = s.signals := rfl
@[simp] theorem State.rput_wctrs (s : State) (a : Nat) (w : Word) : (s.rput a w).wctrs = s.wctrs := rfl
@[simp] theorem State.rput_eph (s : State) (a : Nat) (w : Word) : (s.rput a w).eph = s.eph := rfl
@[simp] theorem State.rput_mems (s : State) (a : Nat) (w : Word) : (s.rput a w).mems = s.mems := rfl
@[simp] theorem State.rput_host (s : State) (a : Nat) (w : Word) : (s.rput a w).host = s.host := rfl
@[simp] theorem State.rput_dma (s : State) (a : Nat) (w : Word) : (s.rput a w).dma = s.dma := rfl
@[simp] theorem State.rput_tx (s : State) (a : Nat) (w : Word) : (s.rput a w).tx = s.tx := rfl

/-! ## poke -/

@[simp] theorem State.poke_now (s : State) (a : Nat) (bs : List Byte) : (s.poke a bs).now = s.now := rfl
@[simp] theorem State.poke_usTicks (s : State) (a : Nat) (bs : List Byte) : (s.poke a bs).usTicks = s.usTicks := rfl
@[simp] theorem State.poke_pending (s : State) (a : Nat) (bs : List Byte) : (s.poke a bs).pending = s.pending := rfl
@[simp] theorem State.poke_outbox (s : State) (a : Nat) (bs : List Byte) : (s.poke a bs).outbox = s.outbox := rfl
@[simp] theorem State.poke_freeCount (s : State) (a : Nat) (bs : List Byte) : (s.poke a bs).freeCount = s.freeCount := rfl
@[simp] theorem State.poke_mem (s : State) (a : Nat) (bs : List Byte) : (s.poke a bs).mem = memWrite s.mem a bs := rfl
@[simp] theorem State.poke_poison (s : State) (a : Nat) (bs : List Byte) : (s.poke a bs).poison = s.poison := rfl
@[simp] theorem State.poke_regs (s : State) (a : Nat) (bs : List Byte) : (s.poke a bs).regs = s.regs := rfl
@[simp] theorem State.poke_latMgmt (s : State) (a : Nat) (bs : List Byte) : (s.poke a bs).latMgmt = s.latMgmt := rfl
@[simp] theorem State.poke_latDbg (s : State) (a : Nat) (bs : List Byte) : (s.poke a bs).latDbg = s.latDbg := rfl
@[simp] theorem State.poke_latBar0 (s : State) (a : Nat) (bs : List Byte) : (s.poke a bs).latBar0 = s.latBar0 := rfl
@[simp] theorem State.poke_held (s : State) (a : Nat) (bs : List Byte) : (s.poke a bs).held = s.held := rfl
@[simp] theorem State.poke_pinResetN (s : State) (a : Nat) (bs : List Byte) : (s.poke a bs).pinResetN = s.pinResetN := rfl
@[simp] theorem State.poke_pinPwrgood (s : State) (a : Nat) (bs : List Byte) : (s.poke a bs).pinPwrgood = s.pinPwrgood := rfl
@[simp] theorem State.poke_railHold (s : State) (a : Nat) (bs : List Byte) : (s.poke a bs).railHold = s.railHold := rfl
@[simp] theorem State.poke_jtag (s : State) (a : Nat) (bs : List Byte) : (s.poke a bs).jtag = s.jtag := rfl
@[simp] theorem State.poke_boot (s : State) (a : Nat) (bs : List Byte) : (s.poke a bs).boot = s.boot := rfl
@[simp] theorem State.poke_clk (s : State) (a : Nat) (bs : List Byte) : (s.poke a bs).clk = s.clk := rfl
@[simp] theorem State.poke_pwr (s : State) (a : Nat) (bs : List Byte) : (s.poke a bs).pwr = s.pwr := rfl
@[simp] theorem State.poke_aon (s : State) (a : Nat) (bs : List Byte) : (s.poke a bs).aon = s.aon := rfl
@[simp] theorem State.poke_sec (s : State) (a : Nat) (bs : List Byte) : (s.poke a bs).sec = s.sec := rfl
@[simp] theorem State.poke_mgmt (s : State) (a : Nat) (bs : List Byte) : (s.poke a bs).mgmt = s.mgmt := rfl
@[simp] theorem State.poke_chr (s : State) (a : Nat) (bs : List Byte) : (s.poke a bs).chr = s.chr := rfl
@[simp] theorem State.poke_flt (s : State) (a : Nat) (bs : List Byte) : (s.poke a bs).flt = s.flt := rfl
@[simp] theorem State.poke_pace (s : State) (a : Nat) (bs : List Byte) : (s.poke a bs).pace = s.pace := rfl
@[simp] theorem State.poke_ing (s : State) (a : Nat) (bs : List Byte) : (s.poke a bs).ing = s.ing := rfl
@[simp] theorem State.poke_sctl (s : State) (a : Nat) (bs : List Byte) : (s.poke a bs).sctl = s.sctl := rfl
@[simp] theorem State.poke_trig (s : State) (a : Nat) (bs : List Byte) : (s.poke a bs).trig = s.trig := rfl
@[simp] theorem State.poke_front (s : State) (a : Nat) (bs : List Byte) : (s.poke a bs).front = s.front := rfl
@[simp] theorem State.poke_par (s : State) (a : Nat) (bs : List Byte) : (s.poke a bs).par = s.par := rfl
@[simp] theorem State.poke_flights (s : State) (a : Nat) (bs : List Byte) : (s.poke a bs).flights = s.flights := rfl
@[simp] theorem State.poke_cores (s : State) (a : Nat) (bs : List Byte) : (s.poke a bs).cores = s.cores := rfl
@[simp] theorem State.poke_links (s : State) (a : Nat) (bs : List Byte) : (s.poke a bs).links = s.links := rfl
@[simp] theorem State.poke_signals (s : State) (a : Nat) (bs : List Byte) : (s.poke a bs).signals = s.signals := rfl
@[simp] theorem State.poke_wctrs (s : State) (a : Nat) (bs : List Byte) : (s.poke a bs).wctrs = s.wctrs := rfl
@[simp] theorem State.poke_eph (s : State) (a : Nat) (bs : List Byte) : (s.poke a bs).eph = s.eph := rfl
@[simp] theorem State.poke_mems (s : State) (a : Nat) (bs : List Byte) : (s.poke a bs).mems = s.mems := rfl
@[simp] theorem State.poke_host (s : State) (a : Nat) (bs : List Byte) : (s.poke a bs).host = s.host := rfl
@[simp] theorem State.poke_dma (s : State) (a : Nat) (bs : List Byte) : (s.poke a bs).dma = s.dma := rfl
@[simp] theorem State.poke_tx (s : State) (a : Nat) (bs : List Byte) : (s.poke a bs).tx = s.tx := rfl

/-! ## putLnk -/

@[simp] theorem State.putLnk_now (s : State) (l : Nat) (x : LinkS) : (s.putLnk l x).now = s.now := rfl
@[simp] theorem State.putLnk_usTicks (s : State) (l : Nat) (x : LinkS) : (s.putLnk l x).usTicks = s.usTicks := rfl
@[simp] theorem State.putLnk_pending (s : State) (l : Nat) (x : LinkS) : (s.putLnk l x).pending = s.pending := rfl
@[simp] theorem State.putLnk_outbox (s : State) (l : Nat) (x : LinkS) : (s.putLnk l x).outbox = s.outbox := rfl
@[simp] theorem State.putLnk_freeCount (s : State) (l : Nat) (x : LinkS) : (s.putLnk l x).freeCount = s.freeCount := rfl
@[simp] theorem State.putLnk_mem (s : State) (l : Nat) (x : LinkS) : (s.putLnk l x).mem = s.mem := rfl
@[simp] theorem State.putLnk_poison (s : State) (l : Nat) (x : LinkS) : (s.putLnk l x).poison = s.poison := rfl
@[simp] theorem State.putLnk_regs (s : State) (l : Nat) (x : LinkS) : (s.putLnk l x).regs = s.regs := rfl
@[simp] theorem State.putLnk_latMgmt (s : State) (l : Nat) (x : LinkS) : (s.putLnk l x).latMgmt = s.latMgmt := rfl
@[simp] theorem State.putLnk_latDbg (s : State) (l : Nat) (x : LinkS) : (s.putLnk l x).latDbg = s.latDbg := rfl
@[simp] theorem State.putLnk_latBar0 (s : State) (l : Nat) (x : LinkS) : (s.putLnk l x).latBar0 = s.latBar0 := rfl
@[simp] theorem State.putLnk_held (s : State) (l : Nat) (x : LinkS) : (s.putLnk l x).held = s.held := rfl
@[simp] theorem State.putLnk_pinResetN (s : State) (l : Nat) (x : LinkS) : (s.putLnk l x).pinResetN = s.pinResetN := rfl
@[simp] theorem State.putLnk_pinPwrgood (s : State) (l : Nat) (x : LinkS) : (s.putLnk l x).pinPwrgood = s.pinPwrgood := rfl
@[simp] theorem State.putLnk_railHold (s : State) (l : Nat) (x : LinkS) : (s.putLnk l x).railHold = s.railHold := rfl
@[simp] theorem State.putLnk_jtag (s : State) (l : Nat) (x : LinkS) : (s.putLnk l x).jtag = s.jtag := rfl
@[simp] theorem State.putLnk_boot (s : State) (l : Nat) (x : LinkS) : (s.putLnk l x).boot = s.boot := rfl
@[simp] theorem State.putLnk_clk (s : State) (l : Nat) (x : LinkS) : (s.putLnk l x).clk = s.clk := rfl
@[simp] theorem State.putLnk_pwr (s : State) (l : Nat) (x : LinkS) : (s.putLnk l x).pwr = s.pwr := rfl
@[simp] theorem State.putLnk_aon (s : State) (l : Nat) (x : LinkS) : (s.putLnk l x).aon = s.aon := rfl
@[simp] theorem State.putLnk_sec (s : State) (l : Nat) (x : LinkS) : (s.putLnk l x).sec = s.sec := rfl
@[simp] theorem State.putLnk_mgmt (s : State) (l : Nat) (x : LinkS) : (s.putLnk l x).mgmt = s.mgmt := rfl
@[simp] theorem State.putLnk_chr (s : State) (l : Nat) (x : LinkS) : (s.putLnk l x).chr = s.chr := rfl
@[simp] theorem State.putLnk_flt (s : State) (l : Nat) (x : LinkS) : (s.putLnk l x).flt = s.flt := rfl
@[simp] theorem State.putLnk_pace (s : State) (l : Nat) (x : LinkS) : (s.putLnk l x).pace = s.pace := rfl
@[simp] theorem State.putLnk_ing (s : State) (l : Nat) (x : LinkS) : (s.putLnk l x).ing = s.ing := rfl
@[simp] theorem State.putLnk_sctl (s : State) (l : Nat) (x : LinkS) : (s.putLnk l x).sctl = s.sctl := rfl
@[simp] theorem State.putLnk_trig (s : State) (l : Nat) (x : LinkS) : (s.putLnk l x).trig = s.trig := rfl
@[simp] theorem State.putLnk_front (s : State) (l : Nat) (x : LinkS) : (s.putLnk l x).front = s.front := rfl
@[simp] theorem State.putLnk_par (s : State) (l : Nat) (x : LinkS) : (s.putLnk l x).par = s.par := rfl
@[simp] theorem State.putLnk_flights (s : State) (l : Nat) (x : LinkS) : (s.putLnk l x).flights = s.flights := rfl
@[simp] theorem State.putLnk_cores (s : State) (l : Nat) (x : LinkS) : (s.putLnk l x).cores = s.cores := rfl
@[simp] theorem State.putLnk_links (s : State) (l : Nat) (x : LinkS) : (s.putLnk l x).links = tput s.links l x := rfl
@[simp] theorem State.putLnk_signals (s : State) (l : Nat) (x : LinkS) : (s.putLnk l x).signals = s.signals := rfl
@[simp] theorem State.putLnk_wctrs (s : State) (l : Nat) (x : LinkS) : (s.putLnk l x).wctrs = s.wctrs := rfl
@[simp] theorem State.putLnk_eph (s : State) (l : Nat) (x : LinkS) : (s.putLnk l x).eph = s.eph := rfl
@[simp] theorem State.putLnk_mems (s : State) (l : Nat) (x : LinkS) : (s.putLnk l x).mems = s.mems := rfl
@[simp] theorem State.putLnk_host (s : State) (l : Nat) (x : LinkS) : (s.putLnk l x).host = s.host := rfl
@[simp] theorem State.putLnk_dma (s : State) (l : Nat) (x : LinkS) : (s.putLnk l x).dma = s.dma := rfl
@[simp] theorem State.putLnk_tx (s : State) (l : Nat) (x : LinkS) : (s.putLnk l x).tx = s.tx := rfl

/-! ## putCore -/

@[simp] theorem State.putCore_now (s : State) (n : Nat) (c : CoreS) : (s.putCore n c).now = s.now := rfl
@[simp] theorem State.putCore_usTicks (s : State) (n : Nat) (c : CoreS) : (s.putCore n c).usTicks = s.usTicks := rfl
@[simp] theorem State.putCore_pending (s : State) (n : Nat) (c : CoreS) : (s.putCore n c).pending = s.pending := rfl
@[simp] theorem State.putCore_outbox (s : State) (n : Nat) (c : CoreS) : (s.putCore n c).outbox = s.outbox := rfl
@[simp] theorem State.putCore_freeCount (s : State) (n : Nat) (c : CoreS) : (s.putCore n c).freeCount = s.freeCount := rfl
@[simp] theorem State.putCore_mem (s : State) (n : Nat) (c : CoreS) : (s.putCore n c).mem = s.mem := rfl
@[simp] theorem State.putCore_poison (s : State) (n : Nat) (c : CoreS) : (s.putCore n c).poison = s.poison := rfl
@[simp] theorem State.putCore_regs (s : State) (n : Nat) (c : CoreS) : (s.putCore n c).regs = s.regs := rfl
@[simp] theorem State.putCore_latMgmt (s : State) (n : Nat) (c : CoreS) : (s.putCore n c).latMgmt = s.latMgmt := rfl
@[simp] theorem State.putCore_latDbg (s : State) (n : Nat) (c : CoreS) : (s.putCore n c).latDbg = s.latDbg := rfl
@[simp] theorem State.putCore_latBar0 (s : State) (n : Nat) (c : CoreS) : (s.putCore n c).latBar0 = s.latBar0 := rfl
@[simp] theorem State.putCore_held (s : State) (n : Nat) (c : CoreS) : (s.putCore n c).held = s.held := rfl
@[simp] theorem State.putCore_pinResetN (s : State) (n : Nat) (c : CoreS) : (s.putCore n c).pinResetN = s.pinResetN := rfl
@[simp] theorem State.putCore_pinPwrgood (s : State) (n : Nat) (c : CoreS) : (s.putCore n c).pinPwrgood = s.pinPwrgood := rfl
@[simp] theorem State.putCore_railHold (s : State) (n : Nat) (c : CoreS) : (s.putCore n c).railHold = s.railHold := rfl
@[simp] theorem State.putCore_jtag (s : State) (n : Nat) (c : CoreS) : (s.putCore n c).jtag = s.jtag := rfl
@[simp] theorem State.putCore_boot (s : State) (n : Nat) (c : CoreS) : (s.putCore n c).boot = s.boot := rfl
@[simp] theorem State.putCore_clk (s : State) (n : Nat) (c : CoreS) : (s.putCore n c).clk = s.clk := rfl
@[simp] theorem State.putCore_pwr (s : State) (n : Nat) (c : CoreS) : (s.putCore n c).pwr = s.pwr := rfl
@[simp] theorem State.putCore_aon (s : State) (n : Nat) (c : CoreS) : (s.putCore n c).aon = s.aon := rfl
@[simp] theorem State.putCore_sec (s : State) (n : Nat) (c : CoreS) : (s.putCore n c).sec = s.sec := rfl
@[simp] theorem State.putCore_mgmt (s : State) (n : Nat) (c : CoreS) : (s.putCore n c).mgmt = s.mgmt := rfl
@[simp] theorem State.putCore_chr (s : State) (n : Nat) (c : CoreS) : (s.putCore n c).chr = s.chr := rfl
@[simp] theorem State.putCore_flt (s : State) (n : Nat) (c : CoreS) : (s.putCore n c).flt = s.flt := rfl
@[simp] theorem State.putCore_pace (s : State) (n : Nat) (c : CoreS) : (s.putCore n c).pace = s.pace := rfl
@[simp] theorem State.putCore_ing (s : State) (n : Nat) (c : CoreS) : (s.putCore n c).ing = s.ing := rfl
@[simp] theorem State.putCore_sctl (s : State) (n : Nat) (c : CoreS) : (s.putCore n c).sctl = s.sctl := rfl
@[simp] theorem State.putCore_trig (s : State) (n : Nat) (c : CoreS) : (s.putCore n c).trig = s.trig := rfl
@[simp] theorem State.putCore_front (s : State) (n : Nat) (c : CoreS) : (s.putCore n c).front = s.front := rfl
@[simp] theorem State.putCore_par (s : State) (n : Nat) (c : CoreS) : (s.putCore n c).par = s.par := rfl
@[simp] theorem State.putCore_flights (s : State) (n : Nat) (c : CoreS) : (s.putCore n c).flights = s.flights := rfl
@[simp] theorem State.putCore_cores (s : State) (n : Nat) (c : CoreS) : (s.putCore n c).cores = tput s.cores n c := rfl
@[simp] theorem State.putCore_links (s : State) (n : Nat) (c : CoreS) : (s.putCore n c).links = s.links := rfl
@[simp] theorem State.putCore_signals (s : State) (n : Nat) (c : CoreS) : (s.putCore n c).signals = s.signals := rfl
@[simp] theorem State.putCore_wctrs (s : State) (n : Nat) (c : CoreS) : (s.putCore n c).wctrs = s.wctrs := rfl
@[simp] theorem State.putCore_eph (s : State) (n : Nat) (c : CoreS) : (s.putCore n c).eph = s.eph := rfl
@[simp] theorem State.putCore_mems (s : State) (n : Nat) (c : CoreS) : (s.putCore n c).mems = s.mems := rfl
@[simp] theorem State.putCore_host (s : State) (n : Nat) (c : CoreS) : (s.putCore n c).host = s.host := rfl
@[simp] theorem State.putCore_dma (s : State) (n : Nat) (c : CoreS) : (s.putCore n c).dma = s.dma := rfl
@[simp] theorem State.putCore_tx (s : State) (n : Nat) (c : CoreS) : (s.putCore n c).tx = s.tx := rfl

/-! ## putChan -/

@[simp] theorem State.putChan_now (s : State) (c : Nat) (x : Chan) : (s.putChan c x).now = s.now := rfl
@[simp] theorem State.putChan_usTicks (s : State) (c : Nat) (x : Chan) : (s.putChan c x).usTicks = s.usTicks := rfl
@[simp] theorem State.putChan_pending (s : State) (c : Nat) (x : Chan) : (s.putChan c x).pending = s.pending := rfl
@[simp] theorem State.putChan_outbox (s : State) (c : Nat) (x : Chan) : (s.putChan c x).outbox = s.outbox := rfl
@[simp] theorem State.putChan_freeCount (s : State) (c : Nat) (x : Chan) : (s.putChan c x).freeCount = s.freeCount := rfl
@[simp] theorem State.putChan_mem (s : State) (c : Nat) (x : Chan) : (s.putChan c x).mem = s.mem := rfl
@[simp] theorem State.putChan_poison (s : State) (c : Nat) (x : Chan) : (s.putChan c x).poison = s.poison := rfl
@[simp] theorem State.putChan_regs (s : State) (c : Nat) (x : Chan) : (s.putChan c x).regs = s.regs := rfl
@[simp] theorem State.putChan_latMgmt (s : State) (c : Nat) (x : Chan) : (s.putChan c x).latMgmt = s.latMgmt := rfl
@[simp] theorem State.putChan_latDbg (s : State) (c : Nat) (x : Chan) : (s.putChan c x).latDbg = s.latDbg := rfl
@[simp] theorem State.putChan_latBar0 (s : State) (c : Nat) (x : Chan) : (s.putChan c x).latBar0 = s.latBar0 := rfl
@[simp] theorem State.putChan_held (s : State) (c : Nat) (x : Chan) : (s.putChan c x).held = s.held := rfl
@[simp] theorem State.putChan_pinResetN (s : State) (c : Nat) (x : Chan) : (s.putChan c x).pinResetN = s.pinResetN := rfl
@[simp] theorem State.putChan_pinPwrgood (s : State) (c : Nat) (x : Chan) : (s.putChan c x).pinPwrgood = s.pinPwrgood := rfl
@[simp] theorem State.putChan_railHold (s : State) (c : Nat) (x : Chan) : (s.putChan c x).railHold = s.railHold := rfl
@[simp] theorem State.putChan_jtag (s : State) (c : Nat) (x : Chan) : (s.putChan c x).jtag = s.jtag := rfl
@[simp] theorem State.putChan_boot (s : State) (c : Nat) (x : Chan) : (s.putChan c x).boot = s.boot := rfl
@[simp] theorem State.putChan_clk (s : State) (c : Nat) (x : Chan) : (s.putChan c x).clk = s.clk := rfl
@[simp] theorem State.putChan_pwr (s : State) (c : Nat) (x : Chan) : (s.putChan c x).pwr = s.pwr := rfl
@[simp] theorem State.putChan_aon (s : State) (c : Nat) (x : Chan) : (s.putChan c x).aon = s.aon := rfl
@[simp] theorem State.putChan_sec (s : State) (c : Nat) (x : Chan) : (s.putChan c x).sec = s.sec := rfl
@[simp] theorem State.putChan_mgmt (s : State) (c : Nat) (x : Chan) : (s.putChan c x).mgmt = s.mgmt := rfl
@[simp] theorem State.putChan_chr (s : State) (c : Nat) (x : Chan) : (s.putChan c x).chr = s.chr := rfl
@[simp] theorem State.putChan_flt (s : State) (c : Nat) (x : Chan) : (s.putChan c x).flt = s.flt := rfl
@[simp] theorem State.putChan_pace (s : State) (c : Nat) (x : Chan) : (s.putChan c x).pace = s.pace := rfl
@[simp] theorem State.putChan_ing (s : State) (c : Nat) (x : Chan) : (s.putChan c x).ing = s.ing := rfl
@[simp] theorem State.putChan_sctl (s : State) (c : Nat) (x : Chan) : (s.putChan c x).sctl = s.sctl := rfl
@[simp] theorem State.putChan_trig (s : State) (c : Nat) (x : Chan) : (s.putChan c x).trig = s.trig := rfl
@[simp] theorem State.putChan_front (s : State) (c : Nat) (x : Chan) : (s.putChan c x).front = s.front := rfl
@[simp] theorem State.putChan_par (s : State) (c : Nat) (x : Chan) : (s.putChan c x).par = s.par := rfl
@[simp] theorem State.putChan_flights (s : State) (c : Nat) (x : Chan) : (s.putChan c x).flights = s.flights := rfl
@[simp] theorem State.putChan_cores (s : State) (c : Nat) (x : Chan) : (s.putChan c x).cores = s.cores := rfl
@[simp] theorem State.putChan_links (s : State) (c : Nat) (x : Chan) : (s.putChan c x).links = s.links := rfl
@[simp] theorem State.putChan_signals (s : State) (c : Nat) (x : Chan) : (s.putChan c x).signals = s.signals := rfl
@[simp] theorem State.putChan_wctrs (s : State) (c : Nat) (x : Chan) : (s.putChan c x).wctrs = s.wctrs := rfl
@[simp] theorem State.putChan_eph (s : State) (c : Nat) (x : Chan) : (s.putChan c x).eph = s.eph := rfl
@[simp] theorem State.putChan_mems (s : State) (c : Nat) (x : Chan) : (s.putChan c x).mems = s.mems := rfl
@[simp] theorem State.putChan_host (s : State) (c : Nat) (x : Chan) : (s.putChan c x).host = s.host := rfl
@[simp] theorem State.putChan_dma (s : State) (c : Nat) (x : Chan) : (s.putChan c x).dma = tput s.dma c x := rfl
@[simp] theorem State.putChan_tx (s : State) (c : Nat) (x : Chan) : (s.putChan c x).tx = s.tx := rfl

/-! ## Passing time -/

@[simp] theorem State.advance_now (s : State) (t : Nat) : (s.advance t).now = max s.now t := by
  unfold State.advance; split
  · omega
  · show t = _; omega
@[simp] theorem State.advance_usTicks (s : State) (t : Nat) : (s.advance t).usTicks = s.usTicks := by
  unfold State.advance; split <;> rfl
@[simp] theorem State.advance_pending (s : State) (t : Nat) : (s.advance t).pending = s.pending := by
  unfold State.advance; split <;> rfl
@[simp] theorem State.advance_outbox (s : State) (t : Nat) : (s.advance t).outbox = s.outbox := by
  unfold State.advance; split <;> rfl
@[simp] theorem State.advance_freeCount (s : State) (t : Nat) : (s.advance t).freeCount = s.freeCount := by
  unfold State.advance; split <;> rfl
@[simp] theorem State.advance_mem (s : State) (t : Nat) : (s.advance t).mem = s.mem := by
  unfold State.advance; split <;> rfl
@[simp] theorem State.advance_poison (s : State) (t : Nat) : (s.advance t).poison = s.poison := by
  unfold State.advance; split <;> rfl
@[simp] theorem State.advance_regs (s : State) (t : Nat) : (s.advance t).regs = s.regs := by
  unfold State.advance; split <;> rfl
@[simp] theorem State.advance_latMgmt (s : State) (t : Nat) : (s.advance t).latMgmt = s.latMgmt := by
  unfold State.advance; split <;> rfl
@[simp] theorem State.advance_latDbg (s : State) (t : Nat) : (s.advance t).latDbg = s.latDbg := by
  unfold State.advance; split <;> rfl
@[simp] theorem State.advance_latBar0 (s : State) (t : Nat) : (s.advance t).latBar0 = s.latBar0 := by
  unfold State.advance; split <;> rfl
@[simp] theorem State.advance_held (s : State) (t : Nat) : (s.advance t).held = s.held := by
  unfold State.advance; split <;> rfl
@[simp] theorem State.advance_pinResetN (s : State) (t : Nat) : (s.advance t).pinResetN = s.pinResetN := by
  unfold State.advance; split <;> rfl
@[simp] theorem State.advance_pinPwrgood (s : State) (t : Nat) : (s.advance t).pinPwrgood = s.pinPwrgood := by
  unfold State.advance; split <;> rfl
@[simp] theorem State.advance_railHold (s : State) (t : Nat) : (s.advance t).railHold = s.railHold := by
  unfold State.advance; split <;> rfl
@[simp] theorem State.advance_jtag (s : State) (t : Nat) : (s.advance t).jtag = s.jtag := by
  unfold State.advance; split <;> rfl
@[simp] theorem State.advance_boot (s : State) (t : Nat) : (s.advance t).boot = s.boot := by
  unfold State.advance; split <;> rfl
@[simp] theorem State.advance_clk (s : State) (t : Nat) : (s.advance t).clk = s.clk := by
  unfold State.advance; split <;> rfl
@[simp] theorem State.advance_pwr (s : State) (t : Nat) : (s.advance t).pwr = s.pwr := by
  unfold State.advance; split <;> rfl
@[simp] theorem State.advance_aon (s : State) (t : Nat) : (s.advance t).aon = s.aon := by
  unfold State.advance; split <;> rfl
@[simp] theorem State.advance_sec (s : State) (t : Nat) : (s.advance t).sec = s.sec := by
  unfold State.advance; split <;> rfl
@[simp] theorem State.advance_mgmt (s : State) (t : Nat) : (s.advance t).mgmt = s.mgmt := by
  unfold State.advance; split <;> rfl
@[simp] theorem State.advance_flt (s : State) (t : Nat) : (s.advance t).flt = s.flt := by
  unfold State.advance; split <;> rfl
@[simp] theorem State.advance_pace (s : State) (t : Nat) : (s.advance t).pace = s.pace := by
  unfold State.advance; split <;> rfl
@[simp] theorem State.advance_ing (s : State) (t : Nat) : (s.advance t).ing = s.ing := by
  unfold State.advance; split <;> rfl
@[simp] theorem State.advance_sctl (s : State) (t : Nat) : (s.advance t).sctl = s.sctl := by
  unfold State.advance; split <;> rfl
@[simp] theorem State.advance_trig (s : State) (t : Nat) : (s.advance t).trig = s.trig := by
  unfold State.advance; split <;> rfl
@[simp] theorem State.advance_front (s : State) (t : Nat) : (s.advance t).front = s.front := by
  unfold State.advance; split <;> rfl
@[simp] theorem State.advance_par (s : State) (t : Nat) : (s.advance t).par = s.par := by
  unfold State.advance; split <;> rfl
@[simp] theorem State.advance_flights (s : State) (t : Nat) : (s.advance t).flights = s.flights := by
  unfold State.advance; split <;> rfl
@[simp] theorem State.advance_cores (s : State) (t : Nat) : (s.advance t).cores = s.cores := by
  unfold State.advance; split <;> rfl
@[simp] theorem State.advance_links (s : State) (t : Nat) : (s.advance t).links = s.links := by
  unfold State.advance; split <;> rfl
@[simp] theorem State.advance_signals (s : State) (t : Nat) : (s.advance t).signals = s.signals := by
  unfold State.advance; split <;> rfl
@[simp] theorem State.advance_wctrs (s : State) (t : Nat) : (s.advance t).wctrs = s.wctrs := by
  unfold State.advance; split <;> rfl
@[simp] theorem State.advance_eph (s : State) (t : Nat) : (s.advance t).eph = s.eph := by
  unfold State.advance; split <;> rfl
@[simp] theorem State.advance_mems (s : State) (t : Nat) : (s.advance t).mems = s.mems := by
  unfold State.advance; split <;> rfl
@[simp] theorem State.advance_host (s : State) (t : Nat) : (s.advance t).host = s.host := by
  unfold State.advance; split <;> rfl
@[simp] theorem State.advance_dma (s : State) (t : Nat) : (s.advance t).dma = s.dma := by
  unfold State.advance; split <;> rfl
@[simp] theorem State.advance_tx (s : State) (t : Nat) : (s.advance t).tx = s.tx := by
  unfold State.advance; split <;> rfl

/-! ## The register store -/

@[simp] theorem State.rget_rput (s : State) (a b : Nat) (w : Word) : (s.rput a w).rget b = if b = a then w else s.rget b := by
  by_cases h : b = a <;> simp [State.rget, h]

@[simp] theorem State.rget_out (s : State) (o : Out) (a : Nat) : (s.out o).rget a = s.rget a := rfl
@[simp] theorem State.rget_advance (s : State) (t a : Nat) : (s.advance t).rget a = s.rget a := by
  simp only [State.rget, State.advance_regs]

end Sys2Proof.Machine
end

