-- ==== Sys2Proof/Laws/Reports.lean ====
section
/-! SUPPORT. What raising a fault, an event, a vector or an interrupt can touch: registers, outputs, the fault log, the pending
vectors and interrupts, and the instants that later limits are measured from; nothing else. -/

namespace Sys2Proof.Machine

/-- Nothing has become set. -/
theorem State.noteEvt_self (s : State) : s.noteEvt s.evtStatus = s := by
  unfold State.noteEvt
  have h : ((s.evtStatus &&& (s.rget 0x6_0024).toNat) &&&
      ((s.evtStatus &&& (s.rget 0x6_0024).toNat) ^^^ (s.rget 0x6_0024).toNat)) = 0 := by
    apply Nat.eq_of_testBit_eq
    intro i
    simp only [Nat.testBit_and, Nat.testBit_xor, Nat.zero_testBit]
    cases s.evtStatus.testBit i <;> cases (s.rget 0x6_0024).toNat.testBit i <;> rfl
  simp [h]

theorem Reports.refl (z : State) : Reports z z := ⟨rfl, rfl, rfl, rfl, rfl, rfl⟩

theorem Reports.trans {z u v : State} (h : Reports z u) (k : Reports u v) : Reports z v := by
  refine ⟨?_, ?_, ?_, ?_, ?_, ?_⟩
  · rw [k.rest, h.rest]
  · rw [k.clk, h.clk]
  · rw [k.pwr, h.pwr]
  · rw [k.mgmt, h.mgmt]
  · rw [k.host, h.host]
  · rw [k.flt, h.flt]

theorem Reports.rput {z u : State} (h : Reports z u) (a : Nat) (w : Word) : Reports z (u.rput a w) :=
  h.trans ⟨rfl, rfl, rfl, rfl, rfl, rfl⟩

theorem Reports.out {z u : State} (h : Reports z u) (o : Out) : Reports z (u.out o) := h.trans ⟨rfl, rfl, rfl, rfl, rfl, rfl⟩

/-- Another fault state, with the same parties fenced. -/
theorem Reports.setFlt {z u : State} (h : Reports z u) (f : Flt) (e : f = { u.flt with
    nmiPending := f.nmiPending, seq := f.seq, nmiSeq := f.nmiSeq, log := f.log, lastCe := f.lastCe, lastErr := f.lastErr
    lastLock := f.lastLock }) : Reports z { u with flt := f } := h.trans ⟨rfl, rfl, rfl, rfl, rfl, e⟩

/-- Other pending vectors and messages. -/
theorem Reports.setHost {z u : State} (h : Reports z u) (x : HostS) (e : x = { u.host with pend := x.pend, msgs := x.msgs }) :
    Reports z { u with host := x } := h.trans ⟨rfl, rfl, rfl, rfl, e, rfl⟩

theorem Reports.ite {z a b : State} {c : Prop} [Decidable c] (ha : Reports z a) (hb : Reports z b) :
    Reports z (if c then a else b) := by split <;> assumption

theorem State.putIbi_reports {z s : State} (h : Reports z s) (c : Nat) : Reports z (s.putIbi c) :=
  h.trans ⟨rfl, rfl, rfl, rfl, rfl, rfl⟩

theorem State.raiseIbi_reports {z s : State} (h : Reports z s) (c : Nat) : Reports z (s.raiseIbi c) := by
  unfold State.raiseIbi
  repeat' (first | with_reducible assumption | with_reducible apply Reports.ite | with_reducible apply State.putIbi_reports | split)

theorem State.noteEvt_reports {z s : State} (h : Reports z s) (b : Nat) : Reports z (s.noteEvt b) := by
  unfold State.noteEvt
  exact .ite (State.raiseIbi_reports h _) h

theorem State.setEvt_reports {z s : State} (h : Reports z s) (b : Nat) : Reports z (s.setEvt b) :=
  State.noteEvt_reports (h.rput _ _) _

theorem State.bumpAt_reports {z s : State} (h : Reports z s) (a b c d e f g : Nat) : Reports z (s.bumpAt a b c d e f g) := by
  unfold State.bumpAt
  dsimp only
  repeat' (first | with_reducible assumption | with_reducible apply Reports.ite | with_reducible apply State.setEvt_reports | with_reducible apply Reports.rput | unfold State.rset)

theorem State.bumpFault_reports {z s : State} (h : Reports z s) (c : Nat) : Reports z (s.bumpFault c) :=
  State.bumpAt_reports h _ _ _ _ _ _ _
theorem State.bumpPort_reports {z s : State} (h : Reports z s) (n i : Nat) : Reports z (s.bumpPort n i) :=
  State.bumpAt_reports h _ _ _ _ _ _ _
theorem State.bumpHost_reports {z s : State} (h : Reports z s) (i : Nat) : Reports z (s.bumpHost i) :=
  State.bumpAt_reports h _ _ _ _ _ _ _
theorem State.bumpChan_reports {z s : State} (h : Reports z s) (c i : Nat) : Reports z (s.bumpChan c i) :=
  State.bumpAt_reports h _ _ _ _ _ _ _
theorem State.bump64_reports {z s : State} (h : Reports z s) (a n : Nat) : Reports z (s.bump64 a n) := (h.rput _ _).rput _ _

theorem State.putMsix_reports {z s : State} (h : Reports z s) (v : Nat) : Reports z (s.putMsix v) :=
  (State.bump64_reports h 0x10_0188 4).out _

theorem State.sendMsix_reports {z s : State} (h : Reports z s) (v : Nat) : Reports z (s.sendMsix v) := by
  unfold State.sendMsix
  exact .ite (h.setHost _ rfl) (State.putMsix_reports (h.setHost { s.host with pend := s.host.pend.filter (· != v) } rfl) v)

theorem State.raiseVec_reports {z s : State} (h : Reports z s) (v : Nat) : Reports z (s.raiseVec v) := by
  unfold State.raiseVec
  repeat' (first | with_reducible assumption | with_reducible apply Reports.ite | with_reducible apply State.bumpHost_reports | with_reducible apply State.sendMsix_reports)
  exact h.setHost _ rfl

theorem State.noteRecord_reports {z s : State} (h : Reports z s) (r : Report) : Reports z (s.noteRecord r) := by
  refine h.trans ?_
  unfold State.noteRecord
  dsimp only
  cases r.origin <;> (repeat' split) <;> exact ⟨rfl, rfl, rfl, rfl, rfl, rfl⟩

theorem State.writeRecord_reports {z s : State} (h : Reports z s) (r : Report) (t : Nat) : Reports z (s.writeRecord r t) := by
  have h2 : ∀ f : FaultRec, Reports z (State.noteRecord { s with
      flt := { s.flt with seq := (s.flt.seq + 1) % 2 ^ 32, log := tput s.flt.log ((s.flt.seq + 1) % 2 ^ 32 % 256) f } } r) :=
    fun f => State.noteRecord_reports (Reports.setFlt h
      { s.flt with seq := (s.flt.seq + 1) % 2 ^ 32, log := tput s.flt.log ((s.flt.seq + 1) % 2 ^ 32 % 256) f } rfl) r
  unfold State.writeRecord
  dsimp only at h2 ⊢
  have h3 := h2 (FaultRec.mk ((s.flt.seq + 1) % 2 ^ 32) r.cls r.action r.unit t (r.detail % 2 ^ 64) r.frame
    (b2n (classNmi r.cls r.action) + 2 * b2n r.frame.isSome + 4 * b2n r.replayed + 8 * b2n r.hasCtx + 256 * (r.scope % 4)))
  generalize State.noteRecord _ r = s2 at h3 ⊢
  repeat' with_reducible apply Reports.ite
  · exact State.raiseIbi_reports (State.raiseVec_reports
      (Reports.setFlt h3 { s2.flt with nmiPending := true, nmiSeq := (s.flt.seq + 1) % 2 ^ 32 } rfl) _) _
  · exact State.raiseVec_reports (State.setEvt_reports h3 _) _
  · exact h3

theorem State.raiseAt_reports {z s : State} (h : Reports z s) (r : Report) (t : Nat) : Reports z (s.raiseAt r t) := by
  unfold State.raiseAt
  dsimp only
  have := State.bumpFault_reports h r.cls
  split
  all_goals repeat' (first | with_reducible exact this | with_reducible apply State.bumpFault_reports | with_reducible apply State.writeRecord_reports)

theorem State.raise_reports {z s : State} (h : Reports z s) (r : Report) : Reports z (s.raise r) := State.raiseAt_reports h r _

/-! ## What leaves the fault state alone -/

@[simp] theorem State.raiseIbi_flt (s : State) (c : Nat) : (s.raiseIbi c).flt = s.flt := by
  unfold State.raiseIbi
  split
  · rfl
  · split
    · rfl
    · split <;> rfl

@[simp] theorem State.noteEvt_flt (s : State) (b : Nat) : (s.noteEvt b).flt = s.flt := by
  unfold State.noteEvt
  dsimp only
  split
  · exact State.raiseIbi_flt s 2
  · rfl

@[simp] theorem State.setEvt_flt (s : State) (b : Nat) : (s.setEvt b).flt = s.flt := by
  unfold State.setEvt; exact State.noteEvt_flt _ _

@[simp] theorem State.bumpAt_flt (s : State) (a b c d e f g : Nat) : (s.bumpAt a b c d e f g).flt = s.flt := by
  unfold State.bumpAt State.rset
  dsimp only
  split <;> (try rw [State.setEvt_flt]) <;> split <;> rfl

@[simp] theorem State.bumpFault_flt (s : State) (c : Nat) : (s.bumpFault c).flt = s.flt := State.bumpAt_flt _ _ _ _ _ _ _ _

@[simp] theorem State.raiseVec_flt (s : State) (v : Nat) : (s.raiseVec v).flt = s.flt := by
  unfold State.raiseVec State.sendMsix State.putMsix State.bump64 State.rput64 State.bumpHost
  dsimp only
  repeat' split
  all_goals first | rfl | exact State.bumpAt_flt _ _ _ _ _ _ _ _

end Sys2Proof.Machine
end

