-- ==== Sys2Proof/Machine/Pins.lean ====
section
/-! DEFINITION. The pins (spec/19_package_pins_and_electrical.md R460 to R464): names and places of the balls, and the state that
each group of pins takes in each state of the device. What is driven on them as work goes on is in the record of outputs. -/

namespace Sys2Proof.Machine

/-! ## Balls (R460 to R462) -/

/-- The letters of ball columns; I, O, Q, S, X and Z are never used. -/
def ballLetters : List Char :=
  ['A', 'B', 'C', 'D', 'E', 'F', 'G', 'H', 'J', 'K', 'L', 'M', 'N', 'P', 'R', 'T', 'U', 'V', 'W', 'Y']

/-- The name of column j, 1 to 64: one letter up to Y, then a first letter A, B or C before it. -/
def columnName (j : Nat) : List Char :=
  let low := (ballLetters[(j - 1) % 20]?).toList
  if j ≤ 20 then low else (ballLetters[(j - 1) / 20 - 1]?).toList ++ low

/-- The signals of Table 19.2, in groups; a pad of a port is one of the ten of Table 19.3. -/
inductive PinName where
  | rxPad (port pad : Nat) | txPad (port pad : Nat)
  | petP (lane : Nat) | petN (lane : Nat) | perP (lane : Nat) | perN (lane : Nat) | refclkP | refclkN
  | sctlScl (port : Nat) | sctlSda (port : Nat) | mclk (output : Nat)
  | xspiDq (bit : Nat) | xspiClk | xspiCsN | xspiDqs | xspiRstN | avsClk | avsMdata | avsSdata
  | fsyncOut (output : Nat) | genlockIn | ppsIn
  | resetN | pwrgood | bootSrc (bit : Nat) | xtalDly (bit : Nat) | mgmtAddr (bit : Nat)
  | alertN | eventN | mgmtScl | mgmtSda | tck | tms | tdi | tdo | trstN
  | coreSense | vssSense | vbat | xt32In | xt32Out | xtalIn | xtalOut
  deriving DecidableEq, Repr

/-- The ball of a signal, as column and row. -/
def PinName.ball : PinName → Nat × Nat
  | .rxPad n p => if n < 8 then (4 + 7 * n + p / 2, 1 + p % 2) else (4 + 7 * (n - 8) + p / 2, 63 + p % 2)
  | .txPad t p => (1 + p % 2, 8 + 7 * t + p / 2)
  | .petP k => (64, 4 + 3 * k)
  | .petN k => (64, 5 + 3 * k)
  | .perP k => (62, 4 + 3 * k)
  | .perN k => (62, 5 + 3 * k)
  | .refclkP => (64, 53)
  | .refclkN => (64, 54)
  | .sctlScl n => (1, 36 + n)
  | .sctlSda n => (2, 36 + n)
  | .mclk n => (3, 36 + n)
  | .xspiDq n => (1, 53 + n)
  | .xspiClk => (2, 53)
  | .xspiCsN => (2, 54)
  | .xspiDqs => (2, 55)
  | .xspiRstN => (2, 56)
  | .avsClk => (2, 57)
  | .avsMdata => (2, 58)
  | .avsSdata => (2, 59)
  | .fsyncOut n => (3, 53 + n)
  | .genlockIn => (3, 57)
  | .ppsIn => (3, 58)
  | .resetN => (4, 36)
  | .pwrgood => (4, 37)
  | .bootSrc n => (4, 38 + n)
  | .xtalDly n => (4, 40 + n)
  | .mgmtAddr n => (4, 42 + n)
  | .alertN => (4, 45)
  | .eventN => (4, 46)
  | .mgmtScl => (4, 47)
  | .mgmtSda => (4, 48)
  | .tck => (4, 49)
  | .tms => (4, 50)
  | .tdi => (4, 51)
  | .tdo => (4, 52)
  | .trstN => (4, 53)
  | .coreSense => (4, 54)
  | .vssSense => (4, 55)
  | .vbat => (4, 56)
  | .xt32In => (4, 57)
  | .xt32Out => (4, 58)
  | .xtalIn => (4, 59)
  | .xtalOut => (4, 60)

/-- What a pad of a combo PHY carries (Table 19.3). -/
inductive PadRole where
  | dataP (lane : Nat) | dataN (lane : Nat) | clockP | clockN
  | trio (n wire : Nat)
  | unused
  deriving DecidableEq, Repr

/-- Pad p in D-PHY: the clock lane on pads 4 and 5, data lanes 0 to 3 on the others. -/
def padDphy (p : Nat) : PadRole :=
  if p = 4 then .clockP else if p = 5 then .clockN
  else
    let lane := if p < 4 then p / 2 else p / 2 - 1
    if p % 2 = 0 then .dataP lane else .dataN lane

/-- Pad p in C-PHY: three wires to a trio. -/
def padCphy (p : Nat) : PadRole := if p < 9 then .trio (p / 3) (p % 3) else .unused

/-- The rails on balls (Table 19.4); the index of a rail is that of Table 16.3, and `none` is VSS. -/
def railBall (j r : Nat) : Option Nat :=
  let within (a b x : Nat) : Bool := decide (a ≤ x) && decide (x ≤ b)
  let even := (j + r) % 2 == 0
  if within 5 60 j && within 5 60 r then
    if !even then none
    else if within 17 48 j && within 17 48 r then some 0
    else if within 13 52 j && within 13 52 r then some 1
    else if within 13 52 j && (within 5 8 r || within 57 60 r) then some 5
    else if within 13 52 j then some 6
    else some 2
  else if ((r == 3 || r == 62) && j % 2 == 1 && within 5 57 j) || (j == 3 && r % 2 == 1 && within 9 33 r)
      || (j == 61 && r % 2 == 0 && within 4 50 r) then some 3
  else if ((r == 4 || r == 61) && within 6 55 j && j % 7 == 6)
      || (j == 4 && (r == 10 || r == 17 || r == 24 || r == 31)) || (j == 61 && r % 2 == 1 && within 5 49 r) then some 4
  else if within 1 3 j && within 61 62 r then some 7
  else none

/-! ## Pin states (R463, R464) -/

/-- The groups of Table 19.5 that the device can drive. -/
inductive PinGroup where
  | receive (port : Nat) | transmit (port : Nat) | pcie | mclk (output : Nat) | fsync (output : Nat) | sctl (port : Nat)
  | mgmt | alertN | eventN | xspi | avs | inputs | tdo | xtal | xt32
  deriving DecidableEq, Repr

/-- The states of Table 19.5. `driven`: as the group's own function has it. -/
inductive PinState where
  | highZ | low | high | released | lp11 | input | driven
  deriving DecidableEq, Repr

/-- VDD_1V8 is up. -/
def State.powered (s : State) : Bool := s.aon.powered && !s.aon.onVbat

/-- MCLK n runs: enabled, with its PLL locked and its island clocked (15 R403, 03 R98). -/
def State.mclkRuns (s : State) (n : Nat) : Bool := bit (s.rget (0x1_0300 + 4 * n)) 16 && s.islandRuns 6 6

/-- Boundary-scan cells drive the group: every output but TDO, and the oscillators, which have none. -/
def PinGroup.scanned : PinGroup → Bool
  | .inputs | .tdo | .xtal | .xt32 => false
  | .receive _ | .transmit _ | .pcie | .mclk _ | .fsync _ | .sctl _ | .mgmt | .alertN | .eventN | .xspi | .avs => true

/-- The state of a group of pins (Table 19.5). Under EXTEST, CLAMP and HIGHZ the pins follow IEEE 1149.1 (17 R435). TDO is driven
within a scan only, which is one command. -/
def State.pinState (s : State) (g : PinGroup) : PinState :=
  if g = .xt32 then (if s.aon.powered then .driven else .highZ)
  else if !s.powered then .highZ
  else if s.jtag == .highz && g.scanned then .highZ
  else if (s.jtag == .extest || s.jtag == .clamp) && g.scanned then .driven
  else
    match g with
    | .receive n => if !s.held && fld (s.portCfg n) 0 2 != 0 then .driven else .highZ
    | .transmit n =>
      if s.held || !s.past14 || fld (s.txCfg n) 0 2 = 0 then .highZ
      else if (s.port n).sending.isSome then .driven else .lp11
    | .pcie => if !s.held && nbit s.clk.locked 2 then .driven else .highZ
    | .mclk n => if s.mclkRuns n then .driven else .low
    | .fsync n => if (s.fs n).idle then .high else .low
    | .sctl n => if !s.held && fld (s.rget (0xA_0000 + 0x100 * n)) 0 2 != 0 then .driven else .released
    | .mgmt => if s.held then .released else .driven
    | .alertN => if s.alertLow then .low else .high
    | .eventN => if !s.held && s.eventLow then .low else .released
    | .xspi =>
      -- driven from the NVM read of step 8 on, where an NVM is the boot source
      if s.held || s.boot.phase == .clocks || s.boot.phase == .heldNoXo then .highZ
      else if s.past14 then (if s.gated 8 then .highZ else .driven)
      else if s.boot.straps.bootSrc < 2 then .driven
      else .highZ
    | .avs => if !s.held && s.boot.sensed then .driven else .highZ
    | .inputs => .input
    | .tdo => .highZ
    | .xtal => if s.held then .low else .driven
    | .xt32 => .driven

end Sys2Proof.Machine
end

