-- ==== Sys2Proof/Tests/Slice0.lean ====
section
/-! SUPPORT. Tests and witnesses: states and operands that meet the hypotheses of the statements, effects worked out by hand from
the spec, and an ill-formed command for each check of WellFormed. -/

namespace Sys2Proof.Tests
open Sys2Proof Sys2Proof.Machine

-- one theorem after another: evaluated at once, they need more threads than a small machine gives
set_option Elab.async false

/-! ## States -/

/-- Start-up has come to a STATE: references, locks and memories as the steps before it leave them. -/
def at14 (ph : Phase) : State :=
  { State.reset with
    boot := { Boot.init Straps.zero 0 with
      phase := ph, rcRunning := true, sensed := true, vddSettled := true, ampAt := some 0, countAt := some 0, xoStable := true, memDone := true }
    clk := { Clk.init with ampOk := true, xoOk := true, locked := 255 }
    pwr := { Pwr.init with dies := 15 }
    mems := { MemS.init with ready := 3 }
    chr := { Chrono.init with fine := true } }
/-- RUNNING. -/
def up : State := at14 .running
/-- The same with other start-up state, clocks, power and registers. -/
def withBoot (s : State) (f : Boot → Boot) : State := { s with boot := f s.boot }
def withPwr (s : State) (f : Pwr → Pwr) : State := { s with pwr := f s.pwr }
def withClk (s : State) (f : Clk → Clk) : State := { s with clk := f s.clk }
def withHost (s : State) (f : HostS → HostS) : State := { s with host := f s.host }
def withRegs (s : State) (l : List (Nat × Nat)) : State := l.foldl (fun s e => s.rput e.1 (wd e.2)) s
/-- Held in reset by RESET_N. -/
def held0 : State := { State.reset with held := true, pinResetN := false }
/-- The host's link is up and its BARs are open. -/
def linked : State := withHost up (fun h => { h with linkUp := true, gen := 5, width := 16, cfg := { h.cfg with memEn := true, busMaster := true } })

/-- A state at its own instant, which every statement takes as `u`. -/
theorem instant (s : State) : s = s.advance s.now := by simp [State.advance]

/-! ## Witnesses: reset, references, clocks, supplies -/

theorem wit_TimePasses : State.reset.pending = [] ∧ ({ State.reset with aon := { Aon.init with powered := false } } : State).aon.powered = false := by
  decide +kernel
theorem wit_PinReset : held0.pinResetN = false ∧ held0.pinPwrgood = true ∧ held0.held = true ∧ up.pinResetN = true ∧ up.held = false
    ∧ ({ held0 with pinResetN := true, railHold := true } : State).mayRelease = false
    ∧ ({ held0 with pinResetN := true } : State).mayRelease = true ∧ held0.aon.supply = none := by decide +kernel
theorem wit_SupplyReset : up.monOff 7 = false ∧ up.held = false ∧ nbit up.aon.causes 3 = false ∧ up.aon.powered = true
    ∧ (∀ s : State, s = { held0 with pinResetN := true, railHold := true, aon := { Aon.init with causes := 8, supply := some (7, 5) } } →
      s.held = true ∧ s.railHold = true ∧ s.coolEnough = true ∧ s.pinPwrgood = true ∧ jtagHolds s.jtag = false ∧ s.aon.onVbat = false) := by
  refine ⟨by decide +kernel, by decide +kernel, by decide +kernel, by decide +kernel, fun s h => ?_⟩
  subst h; decide +kernel
theorem wit_ThermalSample : hotDie (List.replicate 9 (999 : Int)) = none ∧ hotDie [0, 0, 1000] = some 2 ∧ up.held = false
    ∧ up.aon.powered = true ∧ held0.held = true := by decide +kernel
theorem wit_AlwaysOn (a b : State) (ha : a = { up with aon := { up.aon with powered := false } })
    (hb : b = { up with aon := { up.aon with onVbat := true } }) : a.aon.powered = false ∧ b.aon.powered = true ∧ b.aon.onVbat = true
    ∧ up.aon.powered = true ∧ up.aon.onVbat = false ∧ up.held = false ∧ held0.held = true := by subst ha hb; decide +kernel
theorem wit_StartReferences (a b : State) (ha : a = withBoot State.reset (fun x => { x with rcRunning := true, sensed := true, ampAt := some 0 }))
    (hb : b = { withBoot State.reset (fun x => { x with countAt := some 0 }) with now := 64_000_000 }) :
    State.reset.boot.rcRunning = false ∧ State.reset.held = false ∧ a.boot.rcRunning = true ∧ a.boot.vddSettled = false ∧ a.boot.sensed = true
    ∧ (withBoot State.reset (fun x => { x with rcRunning := true })).boot.sensed = false ∧ State.reset.boot.phase = .clocks
    ∧ State.reset.clk.ampOk = false ∧ (withClk up (fun x => { x with ampOk := false })).boot.phase ≠ .clocks ∧ a.boot.ampAt ≠ none
    ∧ a.boot.countAt = none ∧ b.boot.countAt = some 0 ∧ b.boot.xoStable = false ∧ 0 + xtalDlyNs b.boot.straps.xtalDly ≤ b.now
    ∧ b.boot.ampAt = none ∧ b.boot.since + 64_000_000 ≤ b.now := by subst ha hb; decide +kernel
theorem wit_PllLock (a b : State) (ha : a = withClk (at14 .clocks) (fun c => { c with locked := 0x7F }))
    (hb : b = withClk up (fun c => { c with switching := some 1 })) :
    a.pllMayLock 7 = true ∧ a.clk.switching = none ∧ up.pllMayLock 7 = false ∧ up.held = false ∧ nbit up.clk.locked 7 = true
    ∧ nbit up.clk.locked 2 = true ∧ b.clk.switching.isSome = true ∧ nbit State.reset.clk.locked 0 = false := by subst ha hb; decide +kernel
theorem wit_ClockMonitor (a b : State) (ha : a = withRegs up [(0x1_0010, 2 ^ 31 + 511 * 2 ^ 16)]) (hb : b = withClk a (fun c => { c with onRc := true })) :
    a.monRuns = true ∧ fld (a.rget 0x1_0010) 0 9 ≤ 511 ∧ 511 ≤ fld (a.rget 0x1_0010) 16 9 ∧ a.clk.onRc = false ∧ b.monRuns = true
    ∧ b.clk.onRc = true ∧ State.reset.monRuns = false
    ∧ (withRegs up [(0x1_0010, 2 ^ 31 + 510 * 2 ^ 16)]).monRuns = true ∧ ¬ 511 ≤ fld ((withRegs up [(0x1_0010, 2 ^ 31 + 510 * 2 ^ 16)]).rget 0x1_0010) 16 9 := by
  subst ha hb; decide +kernel
theorem wit_Supplies : up.boot.sensed = true ∧ State.reset.boot.sensed = false ∧ up.held = false ∧ nbit up.pwr.dips 7 = false ∧ up.monOff 7 = false
    ∧ nbit (withPwr up (fun p => { p with dips := 128 })).pwr.dips 7 = true := by decide +kernel
/-! ## Witnesses: images -/

/-- A load with a record due whose hash is that of `b`. -/
def ld (b : List Byte) : Load :=
  { hdr := { advanceSvn := false, svn := 0, length := 0x1000, buildId := 0, keySlot := 0, aesSlot := 0 }, index := 1, offset := 0x200
    expect := sha384 b, wait := none, delay := none, seenLock := false, lockBits := 0, ranges := [], saved := [], key := 0 }
/-- LOADING with a load. -/
def ldg (l : Load) : State := withBoot (at14 .loading) (fun b => { b with load := some l })
/-- The bytes of a record: Table 2.5, and its payload. -/
def rec (typ flags length target count : Nat) (payload : List Byte) : List Byte :=
  bytesLE 1 typ ++ bytesLE 1 flags ++ bytesLE 2 0 ++ bytesLE 4 length ++ bytesLE 4 target ++ bytesLE 4 count ++ bytesBE 48 0 ++ payload
/-- The record in `b` is accepted under a TYPE, and what is accepted has a property. -/
def accepts (typ : Nat) (l : Load) (b : List Byte) (p : State → Load → RecDesc → List Byte → Bool) : Bool :=
  match (ldg l).takeRecord typ b with
  | (v, some (l, d, pt)) => p v l d pt
  | _ => false
def bWrite : List Byte := rec 1 0 8 0 8 (bytesLE 4 0x700 ++ bytesLE 4 5 ++ List.replicate 56 0)
def bBlock : List Byte := rec 2 0 4 0x700 4 (List.replicate 64 0)
def bMem : List Byte := rec 3 2 0 0 256 []
def bWait (timeout : Nat) : List Byte := rec 4 0 16 0 16 (bytesLE 4 0x700 ++ bytesLE 4 0 ++ bytesLE 4 0 ++ bytesLE 4 timeout ++ List.replicate 48 0)
/-- An encrypted MEM_LOAD: nonce, ciphertext, and the tag that key 0 gives, or another. -/
def bEnc (tag : Nat) : List Byte :=
  rec 3 1 288 0 256 [] ++ List.replicate 16 0 ++ List.replicate 256 0 ++ bytesBE 16 tag ++ List.replicate 32 0
def encTag : Nat := 183976224855999799034356096925229400595
/-- A header signed with the private key 1 and the nonce 1, whose public key is the generator. -/
def hdrSigned : List Byte :=
  let h := bytesBE 4 0x4C4E4E4F ++ bytesLE 2 1 ++ bytesLE 2 0 ++ bytesLE 4 0x5C01_9440 ++ bytesLE 4 1 ++ bytesLE 4 0 ++ bytesLE 4 0x280
    ++ bytesLE 4 7 ++ bytesLE 1 0 ++ bytesLE 1 0xFF ++ List.replicate 66 0 ++ bytesBE 48 p384G.1 ++ bytesBE 48 p384G.2 ++ List.replicate 64 0
  h ++ bytesBE 48 (p384G.1 % p384N) ++ bytesBE 48 ((sha384 h + p384G.1) % p384N) ++ List.replicate 160 0
/-- A device in HEADER whose slot 0 holds that key's hash. -/
def keyed : State :=
  let k := bytesBE 48 (sha384 (bytesBE 48 p384G.1 ++ bytesBE 48 p384G.2))
  { at14 .header with sec := { Sec.blank with fuses := (List.range 12).map (fun i => (i, wd (leAt k (4 * i) 4))) ++ [(48, 1#32)] } }

theorem wit_InitAndSource (a : State) (ha : a = withBoot (at14 .failed) (fun b => { b with failed := some { saved := [(0x700, 0)] } })) :
    up.held = false ∧ (withBoot (at14 .header) (fun b => { b with memDone := false })).boot.phase = .header ∧ a.boot.failed = some { saved := [(0x700, 0)] }
    ∧ a.boot.phase = .failed ∧ a.boot.memDone = true ∧ State.reset.boot.memDone = false ∧ up.boot.memDone = true
    ∧ (withBoot State.reset (fun b => { b with phase := .memInit, load := some (ld []) })).boot.load ≠ none
    ∧ 2 ≤ (withBoot State.reset (fun b => { b with phase := .memInit, straps := { bootSrc := 2, xtalDly := 0, mgmtAddr := 0 } })).boot.straps.bootSrc
    ∧ (withBoot State.reset (fun b => { b with phase := .memInit })).boot.straps.bootSrc < 2 ∧ up.boot.failed = none
    ∧ (withBoot State.reset (fun b => { b with wasRearm := true })).boot.wasRearm = true ∧ State.reset.boot.wasRearm = false
    ∧ State.reset.boot.src < 2 ∧ State.reset.boot.slot = 0 ∧ (withBoot State.reset (fun b => { b with slot := 1 })).boot.slot ≠ 0 := by
  subst ha; decide +kernel
theorem wit_ImageHeader : up.headerDue = none ∧ keyed.headerDue.isSome = true ∧ keyed.boot.rearm.isSome = false
    ∧ keyed.headerCause (List.replicate 512 0) ≠ 0
    ∧ (withBoot (at14 .rearming) (fun b => { b with rearm := some { since := 0, abort := false, step := .image, src := 0 } })).headerDue.isSome = true := by
  decide +kernel
/-- A signed header passes every check of Table 2.4. -/
theorem wit_ImageHeader_signed : keyed.headerCause hdrSigned = 0 := by decide +kernel
theorem wit_RecordTaken : up.recordDue = none ∧ ((ldg (ld bWrite)).recordDue.isSome = true ∧ (readDesc (slice bWrite 0 64)).typ = 1)
    ∧ (readDesc (slice bWrite 0 64)).ok (ld bWrite) = true ∧ (readDesc (rec 1 0 8 4 8 [])).ok (ld []) = false
    ∧ sha384 bWrite ≠ (ld bBlock).expect ∧ (payloadOf (ld []) (readDesc (rec 1 1 40 0 8 [])) (rec 1 1 40 0 8 (List.replicate 64 0))).2 = false := by decide +kernel
theorem wit_ImageRecords_writes : accepts 1 (ld bWrite) bWrite (fun _ _ d _ => d.count == 8) = true
    ∧ accepts 2 (ld bBlock) bBlock (fun _ _ d _ => d.count == 4) = true ∧ (up.takeRecord 1 bWrite).2.isNone = true := by decide +kernel
theorem enc_payload : (payloadOf (ld []) (readDesc (bEnc encTag)) (bEnc encTag)).2 = true := by decide +kernel
/-- An encrypted MEM_LOAD is accepted, whatever ranges the load has gathered. -/
theorem wit_ImageRecords_mem (rs : List Range) (l : Load) (d : RecDesc) (pt : List Byte)
    (hl : l = { ld (bEnc encTag) with ranges := rs }) (hd : d = readDesc (slice (bEnc encTag) 0 64)) (hp : pt = (payloadOf l d (bEnc encTag)).1) :
    ((ldg l).takeRecord 3 (bEnc encTag)).2 = some ({ l with expect := d.next }, d, pt) := by
  have e1 : d.total = 384 := by subst hd; decide +kernel
  have e2 : slice (bEnc encTag) 0 384 = bEnc encTag := by decide +kernel
  have e3 : readDesc (bEnc encTag) = d := by subst hd; decide +kernel
  have e4 : (payloadOf l d (bEnc encTag)).2 = true := by
    have hk : l.key = (ld []).key := by rw [hl]; simp only [ld]
    have := enc_payload
    rw [e3] at this
    unfold payloadOf at this ⊢
    rw [hk]; exact this
  have e5 : d.ok l = true := by
    have k : d.ok (ld (bEnc encTag)) = true := by subst hd; decide +kernel
    have h1 : l.hdr = (ld (bEnc encTag)).hdr := by rw [hl]
    have h3 : l.offset = (ld (bEnc encTag)).offset := by rw [hl]
    have h4 : l.seenLock = (ld (bEnc encTag)).seenLock := by rw [hl]
    unfold RecDesc.ok at k ⊢
    simp only [h1, h3, h4]
    exact k
  have e6 : d.typ = 3 := by subst hd; decide +kernel
  have e7 : l.expect = sha384 (bEnc encTag) := by rw [hl]; simp only [ld]
  have e8 : (ldg l).recordDue = some l := by subst hl; rfl
  have e9 : (ldg l).boot.src = 0 := rfl
  have e10 : (ldg l).step13 l 3 = ldg l := by simp [State.step13]
  have e11 : ¬ 2 ≤ (ldg l).boot.src := by rw [e9]; decide
  unfold State.takeRecord
  simp only [e8, State.recordBytes, if_neg e11]
  rw [← hd]
  simp only [e6, e5, e1, e2, e10, e7, e4, hp]
  simp
theorem wit_ImageRecords_ranges : loadAddr (readDesc (slice (bEnc encTag) 0 64)).target 256 = some 0 ∧ (readDesc (slice (bEnc encTag) 0 64)).enc = true
    ∧ (addRange { lo := 0, hi := 256 } []).length ≤ 64
    ∧ 64 < (addRange { lo := 0, hi := 256 } ((List.range 64).map (fun i => { lo := 2 ^ 20 * (i + 1), hi := 2 ^ 20 * (i + 1) + 256 }))).length
    ∧ accepts 3 (ld bMem) bMem (fun _ _ d _ => loadAddr d.target d.count == some 0 && !d.enc) = true := by decide +kernel
theorem wit_ImageRecords_waits (w : WaitRec) (hw : w = { addr := 0x700, mask := 1, value := 1, timeout := 4, ticks := 4 }) :
    accepts 4 (ld (bWait 1000000)) (bWait 1000000) (fun _ _ _ pt => decide (leAt pt 12 4 ≤ 1_000_000)) = true
    ∧ accepts 4 (ld (bWait 1000001)) (bWait 1000001) (fun _ _ _ pt => decide (1_000_000 < leAt pt 12 4)) = true
    ∧ (ldg { ld [] with wait := some w }).boot.load = some { ld [] with wait := some w } ∧ w.timeout ≤ w.ticks
    ∧ (ldg { ld [] with delay := some 0 }).boot.load = some { ld [] with delay := some 0 } ∧ up.boot.load = none := by
  subst hw; decide +kernel
theorem wit_ImageRecords_rest : accepts 5 (ld (rec 5 0 0 7 0 [])) (rec 5 0 0 7 0 []) (fun _ _ d _ => d.target == 7) = true
    ∧ accepts 0x0E (ld (rec 0x0E 0 0 0 0 [])) (rec 0x0E 0 0 0 0 []) (fun _ _ _ _ => true) = true
    ∧ accepts 0x0F (ld (rec 0x0F 0 0 3 0 [])) (rec 0x0F 0 0 3 0 []) (fun _ _ d _ => d.target == 3) = true := by decide +kernel
/-! ## Witnesses: ARM, power, re-arm, software's writes and reads -/

def bArm : List Byte := rec 0x10 0 0 0 0 []
def lArm : Load := { ld bArm with hdr := { advanceSvn := false, svn := 0, length := 0x240, buildId := 0, keySlot := 0, aesSlot := 0 } }
/-- ARM accepted over some registers: the groups that fail, and whether the clocks keep their limits. -/
def armed (regs : List (Nat × Nat)) (p : Nat → Bool → Bool) : Bool :=
  match (withRegs (ldg lArm) regs).takeRecord 0x10 bArm with
  | (v, some (l, _, _)) => let w := (v.putLoad { l with key := 0 }).runChecks; p w.boot.armCheck w.clocksOk
  | _ => false
theorem wit_ArmRecord : (up.takeRecord 0x10 bArm).2.isNone = true ∧ armed [] (fun g ok => g == 0 && ok) = true
    ∧ armed [(0x1_0144, 1)] (fun g ok => g == 0 && !ok) = true ∧ armed [(0x20, 3)] (fun g _ => g != 0) = true := by decide +kernel
/-- In an entry or a wake, at a step. -/
def trans (wake : Bool) (target : PState) (step : Nat) : State :=
  { withPwr up (fun p => { p with trans := some { target, wake, step, since := 0 } }) with now := 100_000_000 }
theorem wit_PowerEntry (a : State) (ha : a = { trans false .deep 3 with dma := [(0, { Chan.init with state := .running, jobs := [{ Job.empty 0 { index := 0, raw := [] } with unit := 1, copies := [(0, 0)] }] })] }) :
    up.held = false ∧ (trans false .deep 2).pwr.trans = some { target := .deep, wake := false, step := 2, since := 0 } ∧ (trans false .deep 2).flights = []
    ∧ (trans false .deep 3).dmaRests = true ∧ (trans false .deep 3).tx.all (fun e => e.2.sending.isNone) = true ∧ a.dmaRests = false
    ∧ 0 + 100_000_000 ≤ (trans false .deep 2).now ∧ up.now < 0 + 100_000_000 := by subst ha; decide +kernel
/-- A frame in progress of a source. -/
def frame0 (src : Nat) : Flight :=
  { source := src, frame := 0, host := false, plate := 0, plateHost := false, epoch := 0, psSlot := 0, sofNs := 0, eofNs := 0, startAt := 0
    expectAt := 0, flags := 0, crcErrs := 0, eccCorr := 0, eccUncorr := 0, linesDropped := 0, arrived := [], complete := [], ends := []
    embBytes := 0, overrun := 0, csiFn := 0, lateUs := 0, isOpen := true, writes := 0, recWritten := false, released := 0, taken := 0
    passes := [], lastOut := none, outsLeft := 0, tapsLeft := [], endsLeft := [], lateSegs := 0, lateFirst := none, stopped := false
    sensorDue := false, set := [], setBad := false, lost := [], zeroed := [], metAt := 0 }
theorem wit_PowerEntry_frames (a : State) (ha : a = { trans false .sleep 2 with flights := [frame0 0] }) :
    a.held = false ∧ a.pwr.trans = some { target := .sleep, wake := false, step := 2, since := 0 } ∧ a.flights ≠ [] := by subst ha; decide +kernel
theorem wit_Wake : (trans true .run 2).pwr.trans = some { target := .run, wake := true, step := 2, since := 0 }
    ∧ (trans true .run 6).pwr.trans = some { target := .run, wake := true, step := 6, since := 0 } ∧ up.pwr.trans = none ∧ up.held = false := by
  decide +kernel
/-- In a re-arm, at a step. -/
def rearming (step : RearmStep) : State :=
  { withBoot (at14 .rearming) (fun b => { b with rearm := some { since := 0, abort := false, step, src := 2 } }) with now := 100_000_000 }
theorem wit_RearmSteps : up.boot.rearm = none ∧ up.held = false ∧ (rearming .drain).boot.rearm = some { since := 0, abort := false, step := .drain, src := 2 }
    ∧ 0 + 100_000_000 ≤ (rearming .drain).now ∧ (at14 .rearming).now < 0 + 100_000_000 ∧ (rearming .zero).held = false
    ∧ memByte (withBoot up (fun b => { b with ranges := [{ lo := 5, hi := 6 }] })).rearmZero.mem 5 = 0
    ∧ memByte ({ up with mem := [(7, 1#8)] } : State).rearmZero.mem 7 ≠ 0 := by decide +kernel
theorem wit_BootCommands (a : State) (ha : a = at14 .pushWait) : up.takes .mgmt 0x3_0010 ∧ up.takes .mgmt 0x3_001C ∧ up.stagingOpen = false
    ∧ a.takes .mgmt 0x3_001C ∧ a.stagingOpen = true ∧ (at14 .armedWait).boot.phase = .armedWait := by
  subst ha; unfold State.takes; decide +kernel
theorem wit_ChronoSet (a : State) (c : Chrono) (hc : c = { up.chr with cfg := 2#32, setPending := true }) (ha : a = { up with chr := c }) :
    up.takes .mgmt 0x5_004C ∧ linked.takes .bar0 0x5_004C ∧ bit linked.chr.cfg 0 = false
    ∧ bit ({ linked with chr := { linked.chr with cfg := 1#32 } } : State).chr.cfg 0 = true ∧ a.held = false
    ∧ a.chr.settle.served = true ∧ a.chr.settle.accepts a.now 100 = true ∧ a.chr.settle.setPending = true
    ∧ (ldg (ld [])).held = false ∧ (ldg (ld [])).boot.load = some (ld []) := by subst hc ha; unfold State.takes; decide +kernel
theorem wit_SystemWrites (a : State) (ha : a = at14 .pushWait) :
    up.takes .mgmt 0x200 ∧ fld (0x104#32) 0 5 = 4 ∧ up.takes .mgmt 0x6_000C ∧ up.takes .mgmt 0x6_0210 ∧ (clearGroup 0x6_0210).isSome = true
    ∧ clearGroup 0 = none ∧ up.windowShut .mgmt 0x6_0210 = false ∧ rowOf 0x6_0210 = some (ro 0x6_0210) ∧ up.takes .mgmt 0x2_0004
    ∧ linked.takes .bar0 0x2_0004
    ∧ a.takes .mgmt 0x4_0108 ∧ a.sec.busy = none ∧ fld (a.fuse 48) 0 4 = 0 ∧ a.fuseRefused a.fuseReq = false ∧ linked.takes .bar0 0x4_0108 := by
  subst ha; unfold State.takes; decide +kernel
theorem wit_PowerRequests (a b : State) (ha : a = withPwr up (fun p => { p with state := .sleep })) (hb : b = withPwr up (fun p => { p with state := .deep })) :
    up.held = false ∧ up.boot.phase = .running ∧ up.pwr.trans = none ∧ up.pwr.state = .run ∧ a.pwr.state = .sleep ∧ b.pwr.state = .deep
    ∧ State.reset.boot.phase ≠ .running ∧ (trans true .run 2).pwr.trans ≠ none := by subst ha hb; decide +kernel
theorem wit_WordReads (a : State) (ha : a = { up with latMgmt := { high := [(0x6_0104, 9#32)], cal := none } }) :
    up.shows .mgmt 0x400 ∧ tfind (up.lat .mgmt).high 0x400 = none ∧ a.shows .mgmt 0x6_0104 ∧ tfind (a.lat .mgmt).high 0x6_0104 = some 9#32
    ∧ (∃ x, x < 0x10_0200 ∧ pairLow x = true ∧ up.shows .mgmt x ∧ tfind (up.lat .mgmt).high x = none) := by
  subst ha; unfold State.shows
  exact ⟨by decide +kernel, by decide +kernel, by decide +kernel, by decide +kernel, 0x10_0180, by decide +kernel⟩
theorem wit_PoppingReads (n : Nat) (hn : n = 15) : up.shows .mgmt (0xA_0008 + 0x100 * n) ∧ up.shows .mgmt (0xA_0014 + 0x100 * n)
    ∧ up.shows .mgmt (0x8_0014 + 0x1000 * n) ∧ up.shows .mgmt (0xE_0014 + 0x1000 * 3) ∧ up.shows .mgmt 0x1_0014 ∧ up.shows .mgmt (0x2_0240 + 4 * 8)
    ∧ up.shows .mgmt 0x20_0020 ∧ up.shows .mgmt 0x5_0010 ∧ (up.lat .mgmt).high = [] ∧ (up.sp n).ibis = [] ∧ up.mems.pf = [] := by
  subst hn; unfold State.shows; decide +kernel
theorem wit_PoppingReads_queues (a : State) (ha : a = { up with mems := { up.mems with pf := [{ requester := 144, slot := 15, epoch := 255, write := true, kind := 2, addr := 4096 }] } }) :
    a.shows .mgmt 0x20_0020 ∧ a.mems.pf ≠ [] ∧ (({ up with sctl := [(15, { up.sp 15 with ibis := [{ addr := 1, payload := [] }] })] } : State).sp 15).ibis ≠ [] := by
  subst ha; unfold State.shows; decide +kernel
theorem wit_ClearingReads : up.shows .mgmt (coreReg 143 0x4C) ∧ up.shows .mgmt (0x500 + 4 * 63) ∧ (up.lat .mgmt).high = [] := by
  unfold State.shows; decide +kernel
/-! ## Witnesses: what is written through registers -/

/-- Channel 31 of a kind, in a state. -/
def chan31 (kind : Nat) (x : Chan) : State := { withRegs up [(chanReg 31 0, kind)] with dma := [(31, x)] }
theorem wit_ChannelControl : (chan31 1 Chan.init).past14 = true ∧ (chan31 1 Chan.init).boot.phase ≠ .rearming
    ∧ (chan31 1 Chan.init).chKind 31 ≠ 0 ∧ (chan31 1 Chan.init).chKind 31 ≠ 3 ∧ (chan31 1 Chan.init).takes .mgmt (chanReg 31 0x24)
    ∧ (chan31 1 Chan.init).takes .mgmt (chanReg 31 0x20) ∧ ((chan31 1 Chan.init).chan 31).state = .stopped
    ∧ ((chan31 1 { Chan.init with state := .running }).chan 31).state = .running
    ∧ ((chan31 1 { Chan.init with state := .halted }).chan 31).state = .halted := by unfold State.takes; decide +kernel
/-- Slot 4 of requester 144 with a stream. -/
def strmUp (x : Strm) : State := { up with mems := { up.mems with strms := [(16 * 144 + 4, { x with epoch := 5, active := true })] } }
theorem wit_StreamCommands (x : Word) (hx : x = wd (144 + 4 * 256 + 5 * 65536)) : up.takes .mgmt 0x20_0018 ∧ up.takes .mgmt 0x20_0034
    ∧ up.takes .mgmt 0x20_0030 ∧ up.boot.phase ≠ .rearming ∧ (strmUp Strm.init).takes .mgmt 0x20_0034 ∧ (strmUp Strm.init).boot.phase ≠ .rearming
    ∧ ((strmUp Strm.init).strm (fld x 0 8) (fld x 8 4)).active = true ∧ ((strmUp Strm.init).strm (fld x 0 8) (fld x 8 4)).cancelling = false
    ∧ ((strmUp Strm.init).strm (fld x 0 8) (fld x 8 4)).epoch = fld x 16 8 ∧ fld x 0 8 ≤ 144 ∧ (up.strm (fld x 0 8) (fld x 8 4)).active = false
    ∧ (strmUp { Strm.init with halted := true }).takes .mgmt 0x20_0030
    ∧ ((strmUp { Strm.init with halted := true }).strm (fld x 0 8) (fld x 8 4)).halted = true ∧ up.takes .mgmt (0x10_800C + 16 * 255) := by
  subst hx; unfold State.takes; decide +kernel
theorem wit_ParamCommands (a : State) (ha : a = withRegs up [(psAt 4095 + 0x300, 1)]) : up.takes .mgmt (psAt 4095 + 4) ∧ up.boot.phase ≠ .rearming
    ∧ swOk 64 (setWords (up.psShadow 4095)) = true ∧ a.takes .mgmt (psAt 4095 + 4) ∧ swOk 64 (setWords (a.psShadow 4095)) = false := by
  subst ha; unfold State.takes; decide +kernel
theorem wit_ImageConfigs (a : State) (ha : a = withClk (ldg (ld [])) (fun c => { c with switching := some 1 })) :
    (ldg (ld [])).held = false ∧ (ldg (ld [])).boot.load = some (ld []) ∧ pllRange 3 = (300, 700) ∧ fld (299#32) 0 12 < 300
    ∧ 300 ≤ fld (300#32) 0 12 ∧ fld (300#32) 0 12 ≤ 700 ∧ (ldg (ld [])).clk.switching = none ∧ (ldg (ld [])).rget 0x1_0160 ≠ (300#32)
    ∧ (300#32).toNat = (300#32).toNat &&& 0x1_0FFF ∧ a.clk.switching = some 1 ∧ a.boot.load = some (ld [])
    ∧ sscOk (fld (0#32) 1 5) (fld (0#32) 6 6) = true ∧ (0#32).toNat = (0#32).toNat &&& 0xFFF ∧ sscOk (fld (34#32) 1 5) (fld (34#32) 6 6) = false
    ∧ 18 ≤ fld (18#32) 0 8 ∧ sscOk (fld (18#32) 17 5) (fld (18#32) 22 6) = true ∧ (18#32).toNat = (18#32).toNat &&& 0x0FFF_FFFF
    ∧ fld (17#32) 0 8 < 18 := by subst ha; decide +kernel
theorem wit_PlainAccess (r : RegRow) (hr : r = (rowOf 0x4_0100).getD (ro 0)) : up.takes .mgmt 0x4_0100 ∧ up.held = false ∧ rowOf 0x4_0100 = some r ∧ r.w1c = 0
    ∧ r.lock = none ∧ up.gateOpen r.gate .mgmt 0x4_0100 = true ∧ up.windowShut .mgmt 0x4_0100 = false ∧ (up.writeSpecial .mgmt 0x4_0100 (5#32)).isNone = true
    ∧ up.rawVal 0x4_0100 = some (up.rget 0x4_0100) ∧ (5#32).toNat = ((up.rget 0x4_0100).toNat - ((up.rget 0x4_0100).toNat &&& r.rw)) + ((5#32).toNat &&& r.rw)
    ∧ up.pathUp .mgmt = true ∧ up.writable .mgmt 1 = false ∧ up.readable .mgmt 1 = false ∧ up.pathUp .bar0 = false
    ∧ linked.barUp = true ∧ (rowOf 0x200_0000).isSome = true ∧ linked.held = false ∧ 0x4_0100 < 0x200_0000 := by
  subst hr; unfold State.takes; decide +kernel
theorem wit_WordReads_pair : linked.barUp = true ∧ linked.past14 = true ∧ (rowOf 0x200_0008).isSome = true ∧ (rowOf 0x200_000C).isSome = true
    ∧ linked.latBar0.high = [] ∧ up.pwr.vbatLow = false := by decide +kernel

/-! ## Witnesses: time, sensors -/

theorem wit_Pace (a b : State) (ha : a = { withRegs up [(0x200, 0x104)] with now := 2000, usTicks := 16 })
    (hb : b = { a with pace := { a.pace with discard := true } }) : ({ PaceCore.init with usCycles := 4 } : PaceCore).waited = false
    ∧ PaceCore.init.winUs = 0 ∧ up.timebaseRuns = true ∧ State.reset.timebaseRuns = false ∧ a.held = false ∧ a.usTicks % 2 ^ fld (a.rget 0x200) 0 5 = 0
    ∧ a.usTicks ≠ a.pace.closedAt ∧ a.pace.discard = false ∧ b.pace.discard = true ∧ b.usTicks ≠ b.pace.closedAt ∧ up.usTicks = up.pace.closedAt
    ∧ a.paceRuns 143 = true ∧ a.coreFenced 143 = false ∧ bit (a.rget 0x200) 8 = true ∧ (a.core 143).walks = [] ∧ (a.core 143).queued = []
    ∧ (a.core 143).replay = none ∧ (a.core 143).closed = [] ∧ (a.core 143).drain = [] ∧ (∀ x, x < 4 → a.canIssue 143 x = false)
    ∧ (a.paceOf 143).probe = false ∧ (a.paceOf 143).lastWork + 2000 ≤ a.now := by subst hb ha; decide +kernel
/-- Port 0 receives, and source 0, of one exposure, 4 by 16 pixels in RAW8, is on its virtual channel 0; with a period or without. -/
def rx (period : Nat) : State :=
  withRegs up [(0x8_0000, 1), (0x1_0160, 0x1_0190), (0x1_0400, 0xFFFF), (srcAddr 0 0, 1 + 2 ^ 12 + 0x2A * 65536), (srcAddr 0 1, 4 + 16 * 65536),
    (srcAddr 0 3, 16 * 256), (srcAddr 0 8, period)]
/-- With its frame open. -/
def rxOpen : State := { rx 0 with flights := [frame0 0] }
theorem wit_PortPackets : (rx 0).held = false ∧ (rx 0).receives 0 0 = true ∧ ((rx 0).ing' 0).discard = false ∧ (rx 0).srcOn 0 0 = some (0, 0)
    ∧ (rx 0).srcOn 0 1 = none ∧ (rx 0).receives 0 1 = true ∧ ((rx 0).src 0).dt = 0x2A ∧ rxOpen.srcOn 0 0 = some (0, 0)
    ∧ (rxOpen.slots 0).dropping = none ∧ (rxOpen.openOf 0).isSome = true ∧ up.receives 0 0 = false ∧ fld ((rx 0).portCfg 0) 0 2 = 1
    ∧ (rx 0).portOn 0 = true ∧ (rx 0).leadOf 0 = 0 := by decide +kernel
/-- After T0, in the window of slot 1. -/
def rxSlot (x : SlotState) : State :=
  { rx 1000000 with now := 1000000, eph := { up.eph with t0 := some 0 }, ing := { up.ing with slots := [(0, x)] } }
theorem wit_Frames (a b : State) (ha : a = withBoot (rx 0) (fun x => { x with phase := .armedWait })) (hb : b = { a with flights := [frame0 0] }) :
    a.receives 0 0 = true ∧ a.srcOn 0 0 = some (0, 0) ∧ a.accepting = false ∧ a.openOf 0 = none ∧ a.held = false ∧ (a.ing' 0).discard = false
    ∧ b.accepting = false ∧ (b.openOf 0).isSome = true ∧ (b.src 0).period = 0 ∧ (rx 0).accepting = true ∧ ((rx 0).src 0).period = 0
    ∧ (rxOpen.src 0).exposures = 1 ∧ (frame0 0).ends = [] ∧ (rxOpen.slots 0).dropping = none := by subst hb ha; decide +kernel
theorem wit_Frames_slots (a b c : State) (ha : a = rxSlot SlotState.init) (hb : b = rxSlot { SlotState.init with opened := some 1, nextSlot := 2 })
    (hc : c = rxSlot { SlotState.init with opened := some 1, nextSlot := 2, dropping := some .extra }) :
    a.accepting = true ∧ (a.src 0).period ≠ 0 ∧ a.slotNow 0 = ((1 : Nat) : Int) ∧ (a.slots 0).opened ≠ some 1 ∧ (a.slots 0).nextSlot ≤ 1
    ∧ a.receives 0 0 = true ∧ a.srcOn 0 0 = some (0, 0) ∧ (b.slots 0).opened = some 1 ∧ (b.slots 0).dropping ≠ some .extra
    ∧ b.slotNow 0 = ((1 : Nat) : Int) ∧ (c.slots 0).opened = some 1 ∧ (c.slots 0).dropping = some .extra ∧ (a.src 0).enable = true
    ∧ (a.src 0).kind ≤ 1 := by subst ha hb hc; decide +kernel
/-- Control port 15 on as I3C with IBIs on. -/
def ctl (x : SctlPort) : State := { withRegs up [(0xA_0F00, 5)] with sctl := [(15, x)] }
def wordW : Word := wd (4 * 256)
theorem wit_SensorBus (x : SctlPort) (hx : x = SctlPort.init) : fld ((ctl x).ctlCfg 15) 0 2 = 1 ∧ bit ((ctl x).ctlCfg 15) 2 = true ∧ (ctl x).held = false
    ∧ ((ctl { x with queue := [(wordW, none), (7#32, none)] }).sp 15).queue = [(wordW, none), (7#32, none)] ∧ bit wordW 7 = false
    ∧ cmdWords wordW ≤ 1 ∧ ((ctl x).sp 15).busy = none
    ∧ ((ctl { x with busy := some [wordW] }).sp 15).busy = some [wordW] ∧ ((ctl { x with busy := some [wordW] }).sp 15).busySet = none
    ∧ bit (wd 0x480) 7 = true ∧ bit ((up).ctlCfg 15) 2 = false ∧ fld ((withRegs up [(0xA_0F00, 1)]).ctlCfg 15) 0 2 = 1
    ∧ bit ((withRegs up [(0xA_0F00, 1)]).ctlCfg 15) 2 = false ∧ ((ctl { x with assigned := [9] }).sp 15).assigned.contains 9 = true
    ∧ ((ctl { x with assigned := [9] }).sp 15).ibis.length < 16
    ∧ 16 ≤ ((ctl { x with assigned := [9], ibis := List.replicate 16 { addr := 9, payload := [] } }).sp 15).ibis.length := by subst hx; decide +kernel
/-- FSYNC output 3 in FREE from T0 = 0, and GENLOCK with two edges behind it. -/
def fs3 (ctrl now : Nat) : State :=
  { up with now, trig := { up.trig with outs := [(3, { FsOut.init with ctrl := wd ctrl, period := 2000, phase := 0, t0 := some 0, nextFree := 1 })] } }
def gen (periods now : Nat) : State :=
  { up with now, trig := { up.trig with lastEdge := some 0, period := periods, periods } }
theorem wit_Triggers : ((fs3 0x8_0001 0).fs 3).t0 = some 0 ∧ ((fs3 0x8_0001 0).fs 3).old = [] ∧ fld ((fs3 0x8_0001 0).fs 3).ctrl 0 2 = 1
    ∧ (fs3 0x8_0001 0).now < 0 + 0 + 1 * 2000 ∧ 0 + 0 + 1 * 2000 ≤ (fs3 0x8_0001 2000).now ∧ fsWidth ((fs3 0x8_0001 0).fs 3).ctrl < 2000
    ∧ 2000 ≤ fsWidth ((fs3 0x7D0_0001 0).fs 3).ctrl ∧ up.timebaseRuns = true ∧ up.trig.lastEdge = none ∧ up.held = false
    ∧ (gen 0 1000000).trig.lastEdge = some 0 ∧ (gen 0 1000000).trig.holdEdge = none ∧ 1_000_000 ≤ (gen 0 1000000).now - 0
    ∧ (gen 0 1000000).now - 0 ≤ 1_000_000_000 ∧ (gen 0 1000000).trig.periods = 0 ∧ (gen 0 1000000).trig.everLocked = false
    ∧ (gen 1000000 1001000).trig.periods ≠ 0 ∧ 1001000 ≤ (gen 1000000 1001000).trig.periods + 1000 ∧ (gen 1000000 1250000).trig.period ≠ 0
    ∧ 4 * 0 + 5 * (gen 1000000 1250000).trig.period ≤ 4 * (gen 1000000 1250000).now := by decide +kernel
/-! ## Witnesses: the cores -/

/-- A tensor descriptor in the own vault: a format, dimensions, offset of its first element. -/
def desc (fmt w h c e base : Nat) : List Byte :=
  let size := max 1 (fmtSize fmt)
  bytesLE 4 fmt ++ bytesLE 4 (w * 65536) ++ bytesLE 4 (h * 65536) ++ bytesLE 4 (c * 65536) ++ bytesLE 4 (e * 65536) ++ bytesLE 4 base
    ++ bytesLE 4 (c * size) ++ bytesLE 4 (w * c * size) ++ bytesLE 4 (h * w * c * size) ++ List.replicate 28 0
/-- A macro-instruction from its nonzero bytes. -/
def minst (l : List (Nat × Nat)) : List Byte := (List.range 64).map (fun i => BitVec.ofNat 8 ((l.find? (fun e => e.1 == i)).map (·.2) |>.getD 0))
/-- Core 0 with context 0 enabled, 8 queue entries, 16 accumulator rows, descriptors 1 and 2, and an instruction at the head. -/
def coreUp (r : List Byte) : State :=
  { withRegs up [(coreReg 0 0x10, 1 + 8 * 256), (coreReg 0 0x20, 16 * 65536), (coreReg 0 0x40, 3)] with
    mem := memWrite [] (vaultAt 0 + 64) (desc 0 1 1 1 1 4096 ++ desc 0 1 1 1 1 8192)
    cores := [(0, { CoreS.init with ctxs := [(0, { Ctx.init with queue := [(0, r)], fetchAt := 1 })] })] }
def iCopy : List Byte := minst [(0, 8), (4, 1), (8, 2)]
def iMat : List Byte := minst [(0, 3), (4, 1), (8, 2), (0x14, 1), (0x22, 2), (0x24, 1), (0x25, 1), (0x26, 1), (0x27, 1)]
def isOk {α : Type} (x : Chk α) : Bool := match x with | .ok _ => true | .error _ => false
theorem wit_DataIssue : (coreUp iCopy).ctxRuns 0 0 = true ∧ (coreUp iCopy).head 0 0 = some (0, iCopy) ∧ (coreUp iCopy).dataWaits 0 0 = false
    ∧ leAt iCopy 0 1 = 8 ∧ isOk ((coreUp iCopy).resolve 0 0 0 iCopy) = true ∧ leAt iMat 0 1 = 3
    ∧ isOk ((coreUp iMat).resolve 0 0 0 iMat) = true ∧ isOk ((coreUp (minst [(0, 8)])).resolve 0 0 0 (minst [(0, 8)])) = false
    ∧ (coreUp iCopy).head 1 0 = none ∧ (coreUp iMat).ctxRuns 0 1 = false ∧ knownOpcode iMat = true ∧ leAt iMat 0 1 ≠ leAt iCopy 0 1 := by decide +kernel
/-- The entry of the instruction at the head is held without error, or with one. -/
theorem wit_DataIssue_entry (s : State) (hs : s = { coreUp iCopy with poison := [mqAt 0 0 + 8] }) : (coreUp iCopy).headUe 0 0 = none
    ∧ s.ctxRuns 0 0 = true ∧ s.head 0 0 = some (0, iCopy) ∧ s.dataWaits 0 0 = false ∧ s.headUe 0 0 = some (mqAt 0 0 + 8) := by
  subst hs; decide +kernel
/-- The instruction that has passed checks 1 to 7, or a dummy. -/
def opOr (x : Chk Op) (p : Op → Bool) : Bool := match x with | .ok o => p o | .error _ => false
theorem wit_DataIssue_op : opOr ((coreUp iMat).resolve 0 0 0 iMat) (fun o => isOk ((coreUp iMat).lateChecks 0 o) && o.array
    && ((coreUp iMat).freeSlots 0 o.streamCount []).isSome && (tfind ((coreUp iMat).core 0).walks 0).isNone) = true
    ∧ opOr ((coreUp iCopy).resolve 0 0 0 iCopy) (fun o => isOk ((coreUp iCopy).lateChecks 0 o) && !o.array
      && ((coreUp iCopy).freeSlots 0 o.streamCount []).isSome) = true
    ∧ (let r := minst [(0, 3), (4, 1), (8, 2), (0x14, 1), (0x22, 1), (0x24, 1), (0x25, 1), (0x26, 1), (0x27, 1)]
      opOr ((coreUp r).resolve 0 0 0 r) (fun o => !isOk ((coreUp r).lateChecks 0 o))) = true := by decide +kernel
/-- A walk on the array of core 0 in its last tile, and one that has not begun: the next data macro-instruction issues, or waits. -/
def walkOf (r : List Byte) (f : Walk → Walk) : State :=
  let s := coreUp r
  match s.resolve 0 0 0 r with
  | .ok o => s.putCore 0 { s.core 0 with walks := [(0, f (Walk.start o))] }
  | .error _ => s
theorem wit_DataIssue_walks : (walkOf iMat id).dataWaits 0 0 = true ∧ (walkOf iMat id).ctxRuns 0 0 = true
    ∧ (walkOf iMat (fun w => { w with loaded := true })).dataWaits 0 0 = false
    ∧ (tfind ((walkOf iMat (fun w => { w with loaded := true })).core 0).walks 0).isSome = true
    ∧ isOk ((walkOf iMat (fun w => { w with loaded := true })).resolve 0 0 0 iMat) = true := by decide +kernel
/-- Every slot of the core holds a stream: an instruction with a stream waits. -/
theorem wit_DataIssue_slots (s : State) (hs : s = { up with mems := { up.mems with strms := (List.range 16).map (fun k => (k, { Strm.init with active := true })) } }) :
    s.freeSlots 0 1 [] = none := by subst hs; decide +kernel
/-- Core 0 with link 5 (2 slots, context 0 the one consumer and producer) and counter 3 on it. -/
def coreLink (r : List Byte) (f : LinkS) : State :=
  { withRegs (coreUp r) [(0x47_0000 + 0x80 * 5, 1 + 2 * 256), (0x47_0000 + 0x80 * 5 + 4 * 8, 0x8000), (0x47_0000 + 0x80 * 5 + 4 * 16, 0x8000),
      (0x4A_0000 + 0x10 * 3, 5)] with links := [(5, f)] }
def tag0 : Tag := { source := 0, fold := false, epoch := 0, frame := 0, stripe := 0, lines := 4, last := true, poisoned := false, late := false, seg := 0 }
def iClaim : List Byte := minst [(0, 0x10), (2, 3), (4, 3), (8, 0x00), (9, 0x00), (10, 5)]
def iWait (empty : Nat) : List Byte := minst [(0, 0x11), (2, 5), (4, empty), (5, 1)]
def iSignal : List Byte := minst [(0, 0x12), (2, 5), (4, 1), (5, 1)]
def iLoop : List Byte := minst [(0, 0x13), (2, 3), (4, 1), (10, 5)]
def iEnd (restart : Nat) : List Byte := minst [(0, 0x14), (1, restart)]
/-- The control instruction at the head passes its checks, with nothing in work. -/
def ctlReady (s : State) (r : List Byte) : Bool :=
  s.ctxRuns 0 0 && (s.head 0 0 == some (0, r)) && !s.ctxBusy 0 0 && isOk (s.ctlCheck 0 0 0 r)
theorem wit_ControlIssue_entry : (coreLink iClaim LinkS.init).headUe 0 0 = none := by decide +kernel
theorem wit_ControlIssue : ctlReady (coreLink iClaim LinkS.init) iClaim = true ∧ ((coreLink iClaim LinkS.init).ctx 0 0).asked = none
    ∧ ctlReady (coreLink (iWait 0) LinkS.init) (iWait 0) = true ∧ (coreLink (iWait 0) LinkS.init).canWait 5 true 0 1 = false
    ∧ ctlReady (coreLink (iWait 1) LinkS.init) (iWait 1) = true ∧ (coreLink (iWait 1) LinkS.init).canWait 5 false 0 1 = true
    ∧ ctlReady (coreLink iSignal LinkS.init) iSignal = true ∧ (coreLink iSignal LinkS.init).ctxDrained 0 0 [] = true
    ∧ ctlReady (coreLink iLoop LinkS.init) iLoop = true ∧ ctlReady (coreLink (iEnd 1) LinkS.init) (iEnd 1) = true
    ∧ (coreUp iSignal).ctxRuns 0 0 = true ∧ isOk ((coreUp iSignal).ctlCheck 0 0 0 iSignal) = false := by decide +kernel
theorem wit_ControlIssue_loops (r : List Byte) (hr : r = minst [(0, 0x13), (2, 3), (4, 1)]) :
    ctlReady (coreLink r LinkS.init) r = true
    ∧ (match (coreLink r LinkS.init).ctlCheck 0 0 0 r with | .ok v => v == 0 | .error _ => false) = true
    ∧ (match (coreLink iLoop LinkS.init).ctlCheck 0 0 0 iLoop with | .ok v => v == 5 | .error _ => false) = true := by subst hr; decide +kernel
/-- Nothing queued at core 0, context 3, which is enabled with two entries. -/
def fetching (poison : List Nat) : State :=
  { withRegs up [(coreReg 0 0x1C, 1 + 2 * 256)] with poison }
theorem wit_Semaphores (g : Signal) (w w1 : WorkCtr) (hg : g = { link := 5, full := true, member := 0, count := 1, endStripe := false, index := 0, tag := none, seg := 0, claim := none })
    (hw : w = { next := 1, limit := 2, seq := 1, cur := some tag0, prev := none }) (hw1 : w1 = { next := 2, limit := 2, seq := 1, cur := some tag0, prev := none }) :
    (fetching []).ctxRuns 0 3 = true ∧ ((fetching []).ctx 0 3).queue.length < (fetching []).mqEntries 0 3 ∧ ((fetching []).ctx 0 3).fetchFree = true
    ∧ (fetching []).poisonedIn ((fetching []).macroAt 0 3 0) 64 = false ∧ (fetching [vaultAt 0]).poisonedIn ((fetching [vaultAt 0]).macroAt 0 3 0) 64 = true
    ∧ up.ctxRuns 0 3 = false ∧ up.signals = [] ∧ (coreLink [] LinkS.init).lnk 5 = LinkS.init ∧ LinkS.init.fenced = false
    ∧ LinkS.init.fullOk ((coreLink [] LinkS.init).link 5) 1 = true ∧ ((coreLink [] LinkS.init).link 5).claimed = false
    ∧ LinkS.init.emptyOk ((coreLink [] LinkS.init).link 5) 0 1 = false
    ∧ ({ LinkS.init with waitFull := [(0, 1)], waitEmpty := 1, tallyFull := 1 } : LinkS).emptyOk ((coreLink [] LinkS.init).link 5) 0 1 = true
    ∧ ((coreLink [] { LinkS.init with fenced := true }).lnk 5).fenced = true ∧ tag0.same tag0 = true ∧ w.cur = some tag0 ∧ w.next < w.limit
    ∧ w1.limit ≤ w1.next ∧ WorkCtr.init.cur = none ∧ WorkCtr.init.prev = none
    ∧ ({ up with signals := [g] } : State).signals = g :: [] := by subst hg hw hw1; decide +kernel
theorem wit_Semaphores_claim (w : WorkCtr) (t1 : Tag) (a : ClaimAsk) (s : State) (ht : t1 = { tag0 with stripe := 1 }) (hw : w = { next := 1, limit := 2, seq := 1, cur := some tag0, prev := none })
    (ha : a = { counter := 3, tag := tag0, limit := 2 })
    (hs : s = (coreLink iClaim LinkS.init).modCtx 0 0 (fun x => { x with asked := some a })) :
    s.ctxRuns 0 0 = true ∧ (s.ctx 0 0).asked = some a ∧ s.head 0 0 = some (0, iClaim) ∧ s.ctrLink a.counter = 5 ∧ (s.lnk 5).fenced = false
    ∧ w.answer t1 2 false = (.notReady, w) ∧ (w.answer tag0 2 false).1 = .tile 1 1 := by subst ht hw ha hs; decide +kernel
/-- A state of core 0 made from the instruction that passes its checks. -/
def withOp (r : List Byte) (f : State → Op → CoreS → CoreS) : State :=
  let s := coreUp r
  match s.resolve 0 0 0 r with
  | .ok o => s.putCore 0 (f s o (s.core 0))
  | .error _ => s
def onWalk (s : State) (p : Walk → Bool) : Bool := match s.arrayWalk 0 with | some w => p w | none => false
theorem wit_ArrayCycles (a b : State) (ha : a = withRegs (walkOf iMat (fun w => { w with loaded := true })) [(coreReg 0 0x40, 3)])
    (hb : b = a.putCore 0 { a.core 0 with openAt := some 0 }) :
    a.coreRuns 0 = true ∧ onWalk a (fun w => w.inTile && w.selects 0 && !a.rowBusy 0 (w.row0 + w.m)) = true ∧ bit (a.rget (coreReg 0 0x40)) 1 = true
    ∧ b.coreRuns 0 = true ∧ (b.core 0).openAt = some 0 ∧ b.now < 0 + 40_000 ∧ onWalk b (fun _ => true) = true
    ∧ 0 + 40_000 ≤ ({ b with now := 40000 } : State).now ∧ up.coreRuns 0 = true ∧ up.arrayWalk 0 = none ∧ (up.core 0).closed = []
    ∧ (coreUp iMat).coreRuns 144 = false := by subst hb ha; decide +kernel
/-- A closed interval whose residues agree in lane 0, or differ. -/
def closedAt (ares : List Nat) : State :=
  withOp iMat (fun _ o k => { k with closed := [{ walk := Walk.start o, tileEnd := true, pres := [1], ares, excl := 0 }] })
theorem wit_ArrayCycles_closed : (closedAt [1]).coreRuns 0 = true ∧ ((closedAt [1]).core 0).closed.map Closed.mismatch = [none]
    ∧ ((closedAt [2]).core 0).closed.map Closed.mismatch = [some 0] ∧ bit ((closedAt [2]).rget (coreReg 0 0x40)) 0 = true := by decide +kernel
/-- A tile, or the elements of an instruction, at the head of the drain. -/
def drainAt (r : List Byte) (f : Op → Op) (space : Bool) (opcode : Bool) : State :=
  withOp r (fun _ o k => { k with drain := [{ DrainJob.run (f o) with
    op := if space then { f o with tout := { o.tout with pl := { o.tout.pl with space := 3 } } } else f o, tile := !opcode, rows := 1, next := if opcode then 1 else 0 }] })
def onJob (s : State) (p : DrainJob → Bool) : Bool := match (s.core 0).drain with | j :: _ => p j | [] => false
/-- A chain of one operation: a bias from parameter word 0. -/
def chain1 (o : Op) : Op := { o with chain := [{ op := 2, sh := 0, c0 := 0, nc := 0, tab := 0, src := 1, pidx := 0, imm := 0 }] }
theorem wit_DrainRows : up.coreRuns 0 = true ∧ (up.core 0).drain = [] ∧ (drainAt iMat id false false).coreRuns 0 = true
    ∧ onJob (drainAt iMat id false false) (fun j => j.tile && (drainAt iMat id false false).rowRoom 0 j.op ((drainAt iMat id false false).tileRow 0 j)
        && ((drainAt iMat id false false).chainUe 0 j.op ((drainAt iMat id false false).tileRow 0 j)).isNone) = true
    ∧ onJob { drainAt iMat chain1 false false with poison := [vaultAt 0] } (fun j => j.tile && !j.zero
        && (({ drainAt iMat chain1 false false with poison := [vaultAt 0] } : State).chainUe 0 j.op
          (({ drainAt iMat chain1 false false with poison := [vaultAt 0] } : State).tileRow 0 j)).isSome) = true
    ∧ onJob (drainAt iMat (fun o => { o with raw := minst [(0, 0x22)] }) false true) (fun j => !j.tile && j.next != 0 && j.op.opcode == 0x22) = true
    ∧ onJob (drainAt iMat (fun o => { o with raw := minst [(0, 7)] }) false true) (fun j => !j.tile && j.next != 0 && j.op.opcode == 7) = true := by
  decide +kernel
/-- An output stream that has no room. -/
theorem wit_DrainRows_full (s : State) (hs : s = { drainAt iMat id true false with mems := { up.mems with strms := [(0, { Strm.init with active := true, write := true, filled := 1 })] } }) :
    onJob s (fun j => j.tile && !s.rowRoom 0 j.op (s.tileRow 0 j)) = true := by subst hs; decide +kernel
/-- Context 0 waits to publish; the others are not in the midst of an instruction, or are. -/
def pubAt (replay : Bool) (mid : Bool) : State :=
  withOp iMat (fun _ o k => { k with
    ctxs := [(0, { Ctx.init with publish := some (o, [0]) })]
    replay := if replay then some (Walk.start o) else none
    walks := if mid then [(1, { Walk.start o with loaded := true, m := 1 })] else [] })
theorem wit_DrainRows_publish : (∀ c, c < 4 → (up.ctx 0 c).publish = none) ∧ ((pubAt false false).ctx 0 0).publish.isSome = true
    ∧ (pubAt false false).ctxFenced 0 0 = false ∧ (∀ d, d < 4 → 0 < d → (pubAt false false).midWalk 0 d = false)
    ∧ ((pubAt false false).core 0).replay = none ∧ ((pubAt true false).core 0).replay.isSome = true ∧ (pubAt false true).midWalk 0 1 = true
    ∧ ((pubAt false true).ctx 0 0).publish.isSome = true ∧ (pubAt false false).coreRuns 0 = true := by decide +kernel
/-! ## Witnesses: memory, stripes -/

/-- A request in flight. -/
def req0 : Req :=
  { id := 7, client := .strm 144 4, epoch := 5, pos := 0, write := false, path := 4, addr := 0x8_0000_0000, len := 16, data := [], reg := 144
    readTags := 0, writeTags := 0, noSnoop := false, relaxed := false, entry := none, since := 0 }
/-- A state with requests in flight. -/
def reqUp (x : Strm) (qs : List Req) : State := { strmUp x with mems := { (strmUp x).mems with reqs := qs } }
/-- A read stream of requester 144 in the vault of core 0. -/
def rdStrm : Strm := { Strm.init with active := true, total := 64, run := 64, counts := [1], starts := [0], strides := [0], qsize := 64, space := 2, base := 4096 }
theorem wit_MemoryRequests (s : State) (q : Req) (hs : s = strmUp rdStrm) (hq : q = { req0 with path := 0, addr := 64, entry := some true }) :
    s.prepare.pointUp 16 = true ∧ (s.prepare.winner (s.prepare.candsAt 16)).isSome = true ∧ up.prepare.winner (up.prepare.candsAt 0) = none
    ∧ up.findReq 7 = none ∧ (reqUp Strm.init [req0]).findReq 7 = some req0 ∧ (reqUp Strm.init [req0]).oldest req0 = true
    ∧ (reqUp Strm.init [req0]).vaultLost req0.addr = false ∧ (reqUp Strm.init [req0]).poisonedIn req0.addr req0.len = false
    ∧ (((reqUp Strm.init [req0]).dropReq 7).strm 144 4).active = true ∧ (((reqUp Strm.init [req0]).dropReq 7).strm 144 4).epoch = req0.epoch
    ∧ ((((reqUp Strm.init [req0]).dropReq 7).readFault req0 .uncorrectable).strm 144 4).active = true
    ∧ ((((reqUp Strm.init [req0]).dropReq 7).readFault req0 .uncorrectable).strm 144 4).cancelling = false
    ∧ (reqUp Strm.init [q]).findReq 7 = some q ∧ (reqUp Strm.init [q]).oldest q = true
    ∧ (reqUp Strm.init [{ q with id := 6 }, q]).oldest q = false ∧ (reqUp Strm.init [{ q with id := 6 }, q]).findReq 7 = some q
    ∧ q.since + 10_000 ≤ ({ reqUp Strm.init [q] with now := 10000 } : State).now ∧ nbit up.clk.held q.path = false
    ∧ (reqUp Strm.init [q]).now < q.since + 10_000 := by subst hs hq; decide +kernel
theorem wit_MemoryRequests_writes (q h : Req) (hq : q = { req0 with write := true, data := List.replicate 16 1#8 }) (hh : h = { q with path := 2 }) :
    (reqUp Strm.init [q]).findReq 7 = some q ∧ (reqUp Strm.init [q]).oldest q = true ∧ (((reqUp Strm.init [q]).storeReq q).dropReq 7).strm 144 4 = ((strmUp Strm.init).strm 144 4)
    ∧ (((strmUp Strm.init).strm 144 4)).active = true ∧ ((strmUp Strm.init).strm 144 4).epoch = q.epoch
    ∧ (reqUp Strm.init [{ q with client := .ingress 3 }]).oldest { q with client := .ingress 3 } = true
    ∧ (reqUp Strm.init [{ q with client := .tap 3 }]).oldest { q with client := .tap 3 } = true
    ∧ (reqUp Strm.init [{ q with client := .dma 3 }]).oldest { q with client := .dma 3 } = true
    ∧ (reqUp Strm.init [{ q with client := .aux 3 }]).oldest { q with client := .aux 3 } = true
    ∧ (reqUp Strm.init [{ q with id := 6 }, q]).oldest q = false ∧ (reqUp Strm.init [{ h with id := 6 }, h]).oldestPosted h = false
    ∧ up.vaultLost q.addr = false ∧ up.hostOwn q = false := by subst hh hq; decide +kernel
theorem wit_MemoryRequests_cancel : ((strmUp { Strm.init with cancelling := true }).strm 144 4).active = true
    ∧ ((strmUp { Strm.init with cancelling := true }).strm 144 4).cancelling = true ∧ ((strmUp { Strm.init with cancelling := true }).inFlight 144 4).isEmpty = true
    ∧ (up.strm 144 4).active = false := by decide +kernel
/-- A stream of core 0's slot 0 has 64 bytes to write; its ring, or a mesh link, meets an error. -/
theorem wit_MemoryRequests_errors (x : Strm) (a b : State) (hx : x = { rdStrm with write := true, filled := 64 })
    (ha : a = { up with mems := { up.mems with strms := [(0, x)] } }) (hb : b = { a with poison := [vaultAt 0] }) :
    a.prepare.pointUp 16 = true
    ∧ (a.prepare.winner (a.prepare.candsAt 16)).map (fun c => (a.prepare.ringUe c.req, a.prepare.bufUnit c.req)) = some (none, some 0x1004)
    ∧ (b.prepare.winner (b.prepare.candsAt 16)).map (fun c => b.prepare.ringUe c.req) = some (some (vaultAt 0)) := by
  subst hb ha hx; decide +kernel
/-- The front stage runs; source 0 takes part after T0. -/
def front (f : Front → Front) : State :=
  let s := withRegs (rx 1000000) [(0x1_0160, 0x1_0190), (0x1_0400, 0xFFFF)]
  { s with front := f s.front, eph := { s.eph with t0 := some 0 } }
def rel0 : Rel := { rel := 0, dl0 := 0, source := 0, frame := 0, stripe := 0, lines := 16 }
def fst0 : FrontStripe := { rel := rel0, slot := 0, epoch := 0, published := 0, poisoned := false, member := 1, tapped := 0, got := [] }
theorem wit_Stripes (a b : State) (ha : a = { front id with flights := [{ frame0 0 with arrived := [(0, 16)] }] })
    (hb : b = { a with eph := { a.eph with queue := List.replicate 1024 rel0 } }) :
    a.foldLead 0 = 0 ∧ a.group 0 = [0] ∧ (a.flight 0 0).isSome = true ∧ a.live = true ∧ a.eph.t0 ≠ none ∧ a.eph.cutoff = none ∧ (a.src 0).kind ≠ 1
    ∧ 0 < (a.src 0).stripes ∧ a.stripeIn { frame0 0 with arrived := [(0, 16)] } 0 = true ∧ a.relAt 0 0 0 ≤ a.now ∧ a.eph.queue.length < 1024
    ∧ 1024 ≤ b.eph.queue.length ∧ a.stripeIn (frame0 0) 0 = false ∧ rxOpen.flight 1 0 = none := by subst hb ha; decide +kernel
theorem wit_Stripes_shared (a b : State) (ha : a = { front id with eph := { (front id).eph with queue := [rel0] } })
    (hb : b = front (fun x => { x with resumed := [fst0] })) :
    a.parkBusy.frontRuns = true ∧ a.parkBusy.front.busy = none ∧ b.parkBusy.frontRuns = true ∧ b.parkBusy.front.resumed = [fst0] ∧ b.parkBusy.front.busy = none
    ∧ a.parkBusy.front.resumed = [] ∧ a.parkBusy.eph.queue = [rel0] ∧ a.parkBusy.frontSlot = some 0 ∧ up.frontAdvance.front.busy = none
    ∧ (front id).parkBusy.eph.queue = [] := by subst ha hb; decide +kernel
theorem wit_Stripes_done (a : State) (ha : a = front (fun x => { x with busy := some fst0 })) : a.frontAdvance.front.busy = some fst0
    ∧ a.frontAdvance.frontRuns = true ∧ (a.frontAdvance.group 0).length ≤ fst0.member ∧ (∀ m ∈ a.frontAdvance.group 0, a.frontAdvance.setKnown m 0 = true) := by
  subst ha; decide +kernel
/-- Source 0 goes in line, with its first stripe of 16 lines gathered, and a link of 16 slots behind its chain. -/
def inl0 (known : Bool) : InlineS :=
  { frame := 0, lines := if known then (List.range 16).map (fun l => ((0, l), List.replicate 4 1#8)) else [], away := [], fetching := [], held := [], bad := []
    stripe := 0, seg := 0, tapped := 16, segW := 2, closed := false }
def inlUp (known : Bool) : State :=
  let s := withRegs (front (fun x => { x with inl := [inl0 known] })) [(srcAddr 0 0, 3 + 2 ^ 12 + 0x2A * 65536), (0x47_0000 + 0x80 * 5, 1 + 16 * 256), (0x49_0004, 5)]
  { s with flights := [{ frame0 0 with set := List.replicate 4096 0#8 }] }
theorem wit_Stripes_inline : up.inlTaps.front.inl = [] ∧ (inlUp true).inlTaps.inlineSrc = some 0 ∧ ((inlUp true).inlTaps.front.inl.map (·.seg)) = [0]
    ∧ (inlUp true).inlTaps.frontRuns = true ∧ (inlUp true).inlTaps.setKnown 0 0 = true ∧ (inlUp true).inlTaps.segReady 5 = true
    ∧ (inlUp true).inlTaps.chainFirst ((inlUp true).inlTaps.src 0).chain = 5
    ∧ (List.range 16).all (fun y => (inlUp true).inlTaps.inlLine 0 (inl0 true) y) = true ∧ 0 + 1 ≠ ceilDiv ((inlUp true).src 0).width 2
    ∧ 0 < ((inlUp true).src 0).stripes ∧ ((inlUp false).inlTaps.front.inl.map (·.seg)) = [0] ∧ (inlUp false).inlTaps.inlineSrc = some 0
    ∧ (inlUp false).inlTaps.inlLine 0 (inl0 false) 0 = false := by decide +kernel
theorem wit_Stripes_rest (a b : State) (ha : a = { coreUp [] with eph := { up.eph with waitSince := [(0, 0)] } })
    (hb : b = withRegs { a with cores := [(0, { CoreS.init with ctxs := [(0, { Ctx.init with blocked := true })] })] } [(0x40_0020, 1), (0x40_0200, 0x100)]) :
    tfind b.eph.waitSince 0 = some 0 ∧ fld (b.rget 0x40_0020) 0 16 ≠ 0 ∧ b.partWaits 0 = true ∧ b.now < 0 + fld (b.rget 0x40_0020) 0 16 * 1000
    ∧ 0 + fld (b.rget 0x40_0020) 0 16 * 1000 ≤ ({ b with now := 1000 } : State).now
    ∧ up.finalReady { frame0 0 with stopped := true, isOpen := false } = true ∧ up.finalReady (frame0 0) = false
    ∧ rxOpen.flight 0 0 = some (frame0 0) ∧ up.flight 0 0 = none := by subst hb ha; decide +kernel
/-! ## Witnesses: transmit, the host link, DMA -/

/-- Transmit port 3 runs; stream 15 of it sends source 0, 16 lines of 100 ns from 1 µs after the start of the frame. -/
def tx (f : TxStream → TxStream) (now : Nat) (fs : List Flight) : State :=
  let s := withRegs (rx 0) [(0x1_0180, 0x1_0190), (0xE_3000, 1), (txsWord 3 15 0, 2 ^ 24), (txsWord 3 15 1, 4 + 16 * 65536), (txsWord 3 15 2, 100), (txsWord 3 15 3, 1000)]
  { s with now, flights := fs, tx := [(3, { TxPort.init with lanesOn := true, strms := [(15, f TxStream.init)] })] }
def txF : Flight := { frame0 0 with frame := 1, startAt := 100, endsLeft := [63] }
theorem wit_TransmitSlots (a b c d : State) (ha : a = tx (fun x => { x with cur := some (0, 0, 3) }) 1200 [])
    (hb : b = tx (fun x => { x with cur := some (0, 0, 17) }) 1100 [txF]) (hc : c = tx id 1100 [txF])
    (hd : d = tx (fun x => { x with cur := some (0, 0, 17) }) 5000 []) :
    a.txRuns 3 = true ∧ (a.txs 3 15).en = true ∧ a.past14 = true ∧ (a.txStrm 3 15).cur = some (0, 0, 3) ∧ 3 ≤ (a.txs 3 15).outH + 1
    ∧ (a.txs 3 15).slotAt 0 3 ≤ a.now ∧ a.txWaits 3 15 = none ∧ 3 ≤ (a.txs 3 15).outH ∧ 17 = (d.txs 3 15).outH + 1 ∧ (d.txs 3 15).slotAt 0 17 ≤ d.now
    ∧ c.txRuns 3 = true ∧ (c.txStrm 3 15).cur = none ∧ c.txWaits 3 15 = some txF ∧ (c.txs 3 15).slotAt txF.startAt 0 ≤ c.now
    ∧ b.txRuns 3 = true ∧ (b.txStrm 3 15).cur = some (0, 0, 17) ∧ b.txWaits 3 15 = some txF ∧ (b.txs 3 15).slotAt txF.startAt 0 ≤ b.now
    ∧ (b.txs 3 15).slotAt txF.startAt 0 < (b.txs 3 15).slotAt 0 17
    ∧ (tx (fun x => { x with cur := some (0, 0, 3) }) 0 []).now < (a.txs 3 15).slotAt 0 3 ∧ up.txRuns 3 = false := by subst ha hb hc hd; decide +kernel
theorem wit_TransmitSlots_sent (a : State) (k : TxKind) (ha : a = { up with tx := [(3, { TxPort.init with sending := some { strm := 15, frame := 1, kind := k } })] }) :
    (a.port 3).sending = some { strm := 15, frame := 1, kind := k } ∧ (up.port 3).sending = none := by subst ha; exact ⟨rfl, rfl⟩
/-- A host read outstanding. -/
def rd0 : HostRead := { tag := 9, addr := 0, len := 4, request := 0, since := 0 }
/-- BAR2 with the staging region open. -/
def staging : State := withHost (at14 .pushWait) (fun h => { h with linkUp := true, cfg := { h.cfg with memEn := true } })
theorem wit_HostLink (a b c : State) (ha : a = withBoot linked (fun x => { x with rrs := true }))
    (hb : b = { withHost linked (fun h => { h with reads := [rd0] }) with now := 60_000_000_000_000 })
    (hc : c = withHost linked (fun h => { h with cfg := { h.cfg with ctoDisable := true } })) :
    (withRegs up [(0x1_0140, 0x1_0190)]).linkMayTrain = true ∧ (withRegs up [(0x1_0140, 0x1_0190)]).host.linkUp = false ∧ linked.host.linkUp = true
    ∧ linked.boot.rrs = false ∧ a.boot.rrs = true ∧ (capIds true).contains 0xF = false
    ∧ linked.barUp = true ∧ linked.stagingOpen = false ∧ linked.bar2Mem 0 4 = true ∧ linked.bar2Mem 0x1F_FFFF_FFFF 4 = false
    ∧ staging.barUp = true ∧ staging.stagingOpen = true ∧ 4 ≤ linked.mps ∧ b.host.reads.find? (fun r => r.tag == 9) = some rd0
    ∧ b.host.linkUp = true ∧ b.host.cfg.ctoDisable = false ∧ rd0.since + ctoNs b.host.cfg.ctoRange ≤ b.now
    ∧ linked.now < rd0.since + ctoNs linked.host.cfg.ctoRange ∧ c.host.cfg.ctoDisable = true ∧ up.host.linkUp = false
    ∧ (withHost linked (fun h => { h with cfg := { h.cfg with memEn := false } })).barUp = false
    ∧ linked.host.reads.find? (fun r => r.tag == 9) = none := by subst ha hb hc; decide +kernel
/-- An XFER channel 31 with a ring of 16 descriptors; or a SOURCE channel. -/
def dma31 (kind : Nat) (x : Chan) : State := withRegs { chan31 kind x with host := linked.host } [(chanReg 31 8, 4)]
def dXfer (len flags : Nat) : Desc := { index := 0, raw := bytesLE 2 flags ++ bytesLE 2 1 ++ bytesLE 4 len ++ bytesLE 8 0x1000 ++ bytesLE 8 0x2000 ++ bytesLE 8 0 }
def running (ds : List Desc) : Chan := { Chan.init with state := .running, pi := 3, fetched := ds }
theorem wit_DmaEngine (a p : State) (ha : a = dma31 1 (running [dXfer 64 0]))
    (hp : p = withBoot a (fun b => { b with ranges := [{ lo := 0x2000, hi := 0x2100 }] })) : a.chan 31 = running [dXfer 64 0] ∧ (running [dXfer 64 0]).fetching = false ∧ a.chKind 31 = 1 ∧ a.dmaFetches = true
    ∧ min (min (8 - 1) ((3 + 65536 - (running []).fetchAt) % 65536)) (min (2 ^ a.drLog 31 - 0) (min ((512 - a.descAddr 31 0 % 512) / 32) (a.mrrs / 32))) ≠ 0
    ∧ ((3 : Nat) + 65536 - 3) % 65536 = 0 ∧ (up.chan 31).fetched = [] ∧ (dXfer 64 0).raw.length = 32 ∧ (running [dXfer 64 0]).clear = true
    ∧ xferOk (dXfer 64 0).raw = true ∧ xferOk (dXfer 0 0).raw = false
    ∧ a.protectedIn (a.descRange 31 (dXfer 64 0).raw).1 (a.descRange 31 (dXfer 64 0).raw).2 = none
    ∧ p.protectedIn (p.descRange 31 (dXfer 64 0).raw).1 (p.descRange 31 (dXfer 64 0).raw).2 = some 0x2000
    ∧ nbit (leAt (dXfer 64 0).raw 0 2) 2 = false ∧ nbit (leAt (dXfer 64 4).raw 0 2) 2 = true := by subst hp ha; decide +kernel
/-- Source 0 is a host source, every half millisecond or unscheduled, its plate in HBM or in host memory. -/
def hostSrc (period : Nat) (plateHost : Bool) (now : Nat) (d : Desc) : State :=
  let s := withRegs (dma31 2 (running [d])) [(srcAddr 0 0, 1 + 2 * 2 + 2 ^ 12 + 0x2A * 65536), (srcAddr 0 1, 4 + 16 * 65536), (srcAddr 0 6, 16), (srcAddr 0 5, b2n plateHost * 2 ^ 31),
    (srcAddr 0 8, period), (chanReg 31 4, 1 * 4096)]
  { s with now, eph := { s.eph with t0 := some 0 } }
def dSrc (pitch : Nat) : Desc := { index := 0, raw := bytesLE 2 0 ++ bytesLE 2 1 ++ bytesLE 4 0 ++ bytesLE 8 0 ++ bytesLE 4 pitch ++ bytesLE 12 0 }
theorem wit_DmaEngine_source : (hostSrc 0 true 0 (dSrc 0)).chKind 31 = 2 ∧ (running [dSrc 0]).sound = true ∧ (hostSrc 0 true 0 (dSrc 0)).sourceOk 31 (dSrc 0).raw = true
    ∧ (hostSrc 0 false 0 (dSrc 16)).sourceOk 31 (dSrc 16).raw = true ∧ (hostSrc 0 true 0 (dSrc 0)).accepting = true
    ∧ ((hostSrc 0 true 0 (dSrc 0)).src 0).period = 0 ∧ ((hostSrc 0 true 0 (dSrc 0)).src 0).plateHost = true ∧ ((hostSrc 0 false 0 (dSrc 16)).src 0).plateHost = false
    ∧ ((hostSrc 500000 true 500000 (dSrc 0)).src 0).period ≠ 0
    ∧ 2 * (hostSrc 500000 true 500000 (dSrc 0)).expectOf 0 ((hostSrc 500000 true 500000 (dSrc 0)).slots 0).nextSlot ≤ 2 * 500000 + 500000
    ∧ (hostSrc 500000 true 500000 (dSrc 0)).protectedIn ((hostSrc 500000 true 500000 (dSrc 0)).descRange 31 (dSrc 0).raw).1
        ((hostSrc 500000 true 500000 (dSrc 0)).descRange 31 (dSrc 0).raw).2 = none := by decide +kernel
/-- An XFER job has a block of the host to read, and the channel has SURPLUS: its beat is chosen on the host link. -/
theorem wit_DmaEngine_beat (a : State)
    (ha : a = dma31 17 { running [] with jobs := [{ Job.empty 0 (dXfer 64 1) with unit := 64, copies := [(0x2000, 0x1000)] }] }) :
    (a.chosenBeat 2).isSome = true ∧ (up.chosenBeat 2).isNone = true := by subst ha; decide +kernel
/-! ## Witnesses: faults, repair, JTAG, MGMT, the Chronograph, the whole machine -/

def isNext (x : Host.Outcome State Fault Refusal) : Bool := match x with | .next _ => true | _ => false
def okState (x : Host.Outcome State Fault Refusal) (p : State → Bool) : Bool := match x with | .next s => p s | _ => false
theorem wit_RecordWritten (r c : Report) (a b : State) (hr : r = { cls := 0x20, action := 3, unit := 7, detail := 0 })
    (hc : c = { cls := 0x10, action := 1, unit := 7, detail := 0 }) (ha : a = { up with flt := { up.flt with cores := [7] } })
    (hb : b = up.raiseAt c 0) :
    up.suppressed r = (false, false) ∧ a.suppressed r = (true, true) ∧ a.unitFenced r = true ∧ (b.suppressed c).1 = true := by
  subst hb ha hr hc; decide +kernel
theorem wit_RepairWork (a b c : State) (ha : a = withRegs up [(0x6_0010, 2 ^ 16), (0x6_0014, 2 ^ 16)]) (hb : b = { a with poison := [vaultAt 0] })
    (hc : c = { up with sec := { up.sec with busy := some { word := 127, value := 3 } } }) :
    a.live = true ∧ a.boot.memDone = true ∧ bit (a.rget 0x6_0010) 16 = true ∧ scrubbed (vaultAt 0) = true ∧ vaultAt 0 ≠ scrubLast
    ∧ a.poison.contains (vaultAt 0) = false ∧ b.poison.contains (vaultAt 0) = true ∧ scrubbed scrubLast = true ∧ scrubbed (vaultAt 0 + 1) = false
    ∧ a.timebaseRuns = true ∧ bit (a.rget 0x6_0014) 16 = true ∧ bit ((withRegs up [(0x6_0014, 0)]).rget 0x6_0014) 16 = false
    ∧ c.sec.busy = some { word := 127, value := 3 } ∧ up.sec.busy = none ∧ 3 &&& (3#32).toNat = 3
    ∧ (c.fuse 127).toNat ||| (3 &&& (1#32).toNat) ≠ (c.fuse 127).toNat ||| 3 := by subst hb ha hc; decide +kernel
theorem wit_Jtag (a h b : State) (ha : a = { up with sec := { up.sec with debugEn := true } })
    (c : State) (hc : c = { up with sec := { up.sec with debugEn := false } })
    (hh : h = { held0 with pinResetN := true, jtag := .extest }) (hb : b = { up with aon := { up.aon with onVbat := true } }) :
    up.jtagUp = true ∧ jtagHolds up.jtag = false ∧ up.held = false ∧ up.aon.powered = true ∧ ({ c with jtag := .dbgAccess } : State).pathUp .dbg = false
    ∧ ({ a with jtag := .dbgAccess } : State).pathUp .dbg = true ∧ coreLocal (localAt 143) 4 = true ∧ a.past14 = true
    ∧ a.diePowered (dieOf ((localAt 143 - localAt 0) / 0x20_0000)) = true ∧ coreLocal 0 4 = false ∧ a.stagingOpen = false ∧ a.bar2Mem 0 4 = true
    ∧ h.jtagUp = true ∧ jtagHolds h.jtag = true ∧ State.mayRelease { h with jtag := .idcode } = true ∧ b.jtagUp = false := by
  subst ha hh hb hc; decide +kernel
theorem wit_MgmtPort (a b : State) (ha : a = { up with mgmt := { up.mgmt with dynAddr := some 9, addr := some 0, addrAt := 0, events := true, ibi := some 4 } })
    (hb : b = { a with now := 1_000_000 }) : up.pathUp .mgmt = true ∧ up.mgmt.dynAddr = none ∧ a.pathUp .mgmt = true ∧ a.mgmt.dynAddr ≠ none
    ∧ a.mgmt.addr = some 0 ∧ a.mgmtUse.now < a.mgmtUse.mgmt.addrAt + 4000 ∧ b.mgmtUse.mgmt.addrAt + 4000 ≤ b.mgmtUse.now ∧ a.mgmt.events = true
    ∧ a.mgmt.ibi = some 4 ∧ b.mgmt.ibiAt + 1_000_000 ≤ b.now ∧ a.now < a.mgmt.ibiAt + 1_000_000 ∧ up.mgmt.ibi = none
    ∧ leAt (bytesLE 4 0x200 ++ bytesLE 4 5) 0 4 % 4 = 0 ∧ leAt (bytesLE 4 0x201) 0 4 % 4 ≠ 0 := by subst hb ha; decide +kernel
def chr1 (cfg now : Nat) (last : Option Nat) (f : Chrono → Chrono) : State := { up with now, chr := f { up.chr with cfg := wd cfg, lastEdge := last, pps := .locked } }
theorem wit_PpsEdges (a b : State) (ha : a = chr1 2 1_000_000_000 (some 0) id) (hb : b = chr1 (2 + 8 * 2) 2_000_000_000 (some 0) (fun x => { x with setPending := true })) :
    a.held = false ∧ a.chr.settle.served = true ∧ a.chr.settle.accepts a.now 100 = true ∧ a.chr.settle.accepts a.now 99 = false
    ∧ a.chr.settle.accepts (a.now + 200_000) 100 = true ∧ a.chr.settle.accepts (a.now + 200_001) 100 = false ∧ a.chr.settle.accepts 999_799_999 100 = false
    ∧ (chr1 0 0 none id).chr.settle.served = false ∧ b.chr.setPending = true ∧ a.chr.setPending = false 
    ∧ a.chr.lastEdge = some 0 ∧ a.chr.served = true ∧ a.chr.pps = .locked ∧ a.now < 0 + 1_500_000_000 ∧ 0 + 1_500_000_000 ≤ b.now := by
  subst ha hb; decide +kernel
theorem wit_PpsEdges_modes : (chr1 12 0 none id).chr.mode = 2 ∧ bit (chr1 12 0 none id).chr.cfg 3 = true ∧ bit (chr1 4 0 none id).chr.cfg 3 = false
    ∧ (chr1 2 0 none id).chr.mode = 1 ∧ (chr1 2 0 none id).chr.setPending = false := by decide +kernel
theorem wit_XtalDelay (a : State) (ha : a = withBoot State.reset (fun x => { x with countAt := some 0 })) : a.held = false ∧ a.boot.phase = .clocks
    ∧ a.boot.countAt = some 0 ∧ a.boot.xoStable = false ∧ State.reset.boot.countAt = none := by subst ha; decide +kernel
theorem wit_StepFourteen : up.host.linkUp = false ∧ linked.host.reads = [] := by decide +kernel
/-- Sound states, from which a step is taken. -/
theorem wit_StepKeepsMemory (s : State) (hs : s = { up with pending := [.idcode 0], mem := [(5, 1#8)] }) : s.memSound ∧ State.reset.memSound
    ∧ isNext (step s) = true := by subst hs; decide +kernel
/-- A programmed fuse bit. -/
theorem wit_FusesOneWay (s : State) (hs : s = { keyed with pending := [.idcode 0] }) : (s.fuse 48).getLsbD 0 = true ∧ isNext (step s) = true := by
  subst hs; decide +kernel
theorem wit_CommandsLeaveQueue : isNext (exec (.idcode 5) up) = true ∧ isNext (exec (.getstatus 5) up) = true := by decide +kernel
theorem wit_EdgeFrames : isNext (exec (.hotReset 5) linked) = true ∧ isNext (exec (.xtalAmpDetect 5) State.reset) = true
    ∧ isNext (exec (.pcieConfigRequest 5 (.read 0)) linked) = true ∧ isNext (exec (.ibi 5 15 9 []) (ctl SctlPort.init)) = true := by decide +kernel

/-! ## Effects, worked out by hand from the spec -/

/-- BYPASS shifts one bit 0 (17 R435). -/
theorem test_bypass : okState (exec (.bypass 0) up) (fun u => u.outbox.head? == some (.tdo 1 0) && u.jtag == .bypass) = true := by decide +kernel
/-- A register that reads as it resets, over MGMT: PACE_CTRL (01). -/
theorem test_read : okState (exec (.lowWordRead 0 .mgmt 0x200 false) up) (fun u => u.outbox.head? == some (.readWord 1 0x200 0x041A_010A)) = true := by
  decide +kernel
/-- RESET_ASSERT empties memory and ends every load; ALERT_N goes low. -/
theorem test_reset : okState (exec (.resetAssert 0 false) { ldg (ld []) with mem := [(5, 1#8)] })
    (fun u => u.held && u.mem == [] && u.boot.load.isNone && u.alertLow) = true := by decide +kernel
/-- Rounding is to the nearest, ties to even; a result outside the format saturates. -/
theorem test_round : rheShift 5 1 = 2 ∧ rheShift 7 1 = 4 ∧ rheShift (-5) 1 = -2 ∧ sat 8 200 = 127 ∧ sat 8 (-200) = -128 := by decide
/-- SHA-384 of the empty message (FIPS 180-4): its first bytes. -/
theorem test_sha384 : sha384 [] / 2 ^ 352 = 0x38B060A7 := by decide +kernel
/-- CRC-32 of "123456789" is 0xCBF43926. -/
theorem test_crc : crc32 ([49, 50, 51, 52, 53, 54, 55, 56, 57] : List Byte) = 0xCBF43926 := by decide +kernel
/-- No row of the table gives its command bits. -/
theorem test_no_words (nbits w : Nat) : decodeTableWord nbits w = none := rfl

/-! ## Ill-formed commands, one for each check of WellFormed -/

theorem ill_formed : [Instr.resetRelease 0 4 0 0 true, .resetRelease 0 0 4 0 true, .resetRelease 0 0 0 8 true, .pllLocked 0 8, .pllUnlock 0 8 false,
    .pcieConfigRequest 0 (.deviceControl true 6 0), .pcieConfigRequest 0 (.deviceControl true 0 6), .pcieConfigRequest 0 (.deviceControl2 16 true),
    .pcieConfigRequest 0 (.linkControl 4), .imageHeader 0 [] none, .regWrite 0 [], .regBlock 0 (List.replicate 65 0), .memLoad 0 [], .wait 0 [],
    .delay 0 [], .info 0 [], .lock 0 [], .arm 0 []].all (fun i => !i.wf) = true := by decide
theorem ill_formed_sensors : [Instr.frameStart 0 16 0 0 0, .frameStart 0 0 16 0 0, .frameStart 0 0 0 65536 0, .frameStart 0 0 0 0 3, .frameEnd 0 16 0 0 0,
    .frameEnd 0 0 16 0 0, .frameEnd 0 0 0 65536 0, .frameEnd 0 0 0 0 3, .longPacket 0 16 0 0 0 0 [] true, .longPacket 0 0 16 0 0 0 [] true,
    .longPacket 0 0 0 64 0 0 [] true, .longPacket 0 0 0 0 65536 0 [] true, .longPacket 0 0 0 0 0 3 [] true, .shortPacketIgnored 0 16 0 0 0,
    .shortPacketIgnored 0 0 16 0 0, .shortPacketIgnored 0 0 0 64 0, .shortPacketIgnored 0 0 0 0 3, .frameCloseTimeout 0 4096, .frameSlotExpire 0 4096,
    .sensorCommandIssue 0 16, .sensorCommandDone 0 16 [] false, .ibi 0 16 0 [], .ibi 0 0 128 [], .hotJoin 0 16, .scCmd 0 .mgmt 16 0, .scFlush 0 .mgmt 16,
    .scRdataRead 0 .mgmt 16, .scIbiRead 0 .mgmt 16, .fsyncPulse 0 4, .commit 0 .mgmt 4096 true, .next 0 .mgmt 4096 true, .discard 0 .mgmt 4096,
    .hsBurstEnd 0 16, .phyErr 0 16, .deskew 0 16, .bufPeakRead 0 .mgmt 16].all (fun i => !i.wf) = true := by decide
theorem ill_formed_cores : [Instr.paceProbeStart 0 144, .partMarginLowRead 0 .mgmt 64, .macroFetch 0 144 0 none, .macroFetch 0 0 4 none, .conv 0 144, .dwconv 0 144,
    .matmul 0 144, .xformForward 0 144, .xformInverse 0 144, .poolMax 0 144, .poolAverage 0 144, .resampleNearest 0 144, .resampleBilinear 0 144, .eltw 0 144,
    .copy 0 144, .bwdData 0 144, .bwdWgt 0 144, .updateStep 0 144, .updateLoss 0 144, .updatePublish 0 144, .publication 0 144, .claim 0 144,
    .claimAnswer 0 144 0 true none, .claimAnswer 0 0 4 true none, .waitSem 0 144, .signalSem 0 144, .loop 0 144, .endStop 0 144, .endRestart 0 144,
    .coreCycle 0 144 .none, .residueIntervalTimeout 0 144, .residueCompare 0 144, .drainRow 0 144 .none, .resplitLastRead 0 .mgmt 144].all (fun i => !i.wf)
    = true := by decide
theorem ill_formed_rest : [Instr.arbitrationGrant 0 400 none, .streamCancelDone 0 145 0, .streamCancelDone 0 0 16, .stripeRelease 0 4096 0 0, .frameRecordFinal 0 4096 0,
    .stallTimeout 0 64, .txSlot 0 4 0, .txSlot 0 0 16, .txPacketSent 0 4, .linkUp 0 0 1, .linkUp 0 6 1, .linkUp 0 5 3, .bar2Read 0 0 4097 .ok,
    .bar2Write 0 0 (List.replicate 4097 0) false, .pcieCompletion 0 1024 .ok [], .chDoorbell 0 .mgmt 32 0, .descriptorFetch 0 32, .descriptorReceived 0 32,
    .sourceAccept 0 32, .start 0 .mgmt 32, .stop 0 .mgmt 32, .abort 0 .mgmt 32, .restart 0 .mgmt 32, .resetIdx 0 .mgmt 32, .handshakeTimeout 0 4 0 0, .handshakeTimeout 0 8 0 2,
    .handshakeTimeout 0 0 36 0, .handshakeTimeout 0 0 0 6, .pllCfgWrite 0 .mgmt 8 0, .sscCfgWrite 0 .mgmt 8 0, .mclkCfgWrite 0 .mgmt 16 0, .railDipStart 0 8 0,
    .railDipEnd 0 8 0, .supplyReset 0 8, .thermalSample 0 [], .entdaa 0 128, .setdasa 0 128 0, .setdasa 0 0 128, .setnewda 0 128, .setmwl 0 65536,
    .setmrl 0 65536, .lowWordRead 0 .mgmt 0 true, .txqPeakRead 0 .mgmt 4, .monMinRead 0 .mgmt 9, .registerWrite 0 .mgmt 0 0 (some 0),
    .supplyResetRelease 0 4 0 0, .supplyResetRelease 0 0 4 0, .supplyResetRelease 0 0 0 8].all (fun i => !i.wf) = true := by decide +kernel
theorem well_formed : [Instr.idcode 0, .conv 0 143, .linkUp 0 5 16, .txSlot 0 3 15, .registerWrite 0 .bar0 0 0 (some 0)].all (fun i => i.wf) = true := by decide

end Sys2Proof.Tests
end

section
/-! SUPPORT. What an access to a register on a path does: the bytes it carries over the link, where it goes, and what it answers
or stores; in the order of the definitions of Machine/RegRead.lean and Machine/RegWrite.lean. -/

namespace Sys2Proof.Machine

/-! ## The commands -/

theorem exec_lowWordRead (t : Nat) (p : Path) (a : Nat) (s : State) :
    exec (.lowWordRead t p a false) s = .next ((s.advance t).readOut p a) := rfl
theorem exec_lowWordRead_wide (t : Nat) (p : Path) (a : Nat) (s : State) :
    exec (.lowWordRead t p a true) s = .next ((s.advance t).readOutWide a) := rfl
theorem exec_registerWrite (t : Nat) (p : Path) (a : Nat) (w : Word) (s : State) :
    exec (.registerWrite t p a w none) s = .next ((s.advance t).writeIn p a w) := rfl
theorem exec_registerWrite_wide (t : Nat) (p : Path) (a : Nat) (lo hi : Word) (s : State) :
    exec (.registerWrite t p a lo (some hi)) s = .next ((s.advance t).writeInWide a lo hi) := rfl

/-- An instant that has been reached already changes nothing. -/
theorem State.advance_of_le {s : State} {t : Nat} (h : t ≤ s.now) : s.advance t = s := if_pos h

/-- The state in which a command leaves the device is at its instant. -/
theorem advance_of_exec {i : Instr} {s s' : State} (h : exec i s = .next s') : s'.advance i.time = s' := by
  refine State.advance_of_le ?_
  rw [(exec_ev h).now, State.advance_now]
  exact Nat.le_max_right ..

/-! ## The bytes of a write over the link -/

theorem State.linkRx_rget {a : Nat} (s : State) (p : Path) (hlo : a ≠ 0x10_0180) (hhi : a ≠ 0x10_0184) :
    (s.linkRx p).rget a = s.rget a := by
  unfold State.linkRx State.bump64 State.rput64
  split
  · simp [hlo, hhi]
  · rfl

@[simp] theorem State.linkRx_chan (s : State) (p : Path) (c : Nat) : (s.linkRx p).chan c = s.chan c := by
  unfold State.linkRx; split <;> rfl

@[simp] theorem State.linkRx_chKind (s : State) (p : Path) (c : Nat) : (s.linkRx p).chKind c = s.chKind c := by
  have h := s.linkRx_rget (a := chanReg c 0) p (by unfold chanReg; omega) (by unfold chanReg; omega)
  simp [State.chKind, State.chCfg, h]

@[simp] theorem State.linkRx_writable (s : State) (p q : Path) (a : Nat) : (s.linkRx p).writable q a = s.writable q a := by
  unfold State.linkRx; split <;> rfl

@[simp] theorem State.linkRx_gateOpen (s : State) (g : Gate) (p q : Path) (a : Nat) :
    (s.linkRx p).gateOpen g q a = s.gateOpen g q a := by
  cases g with
  | img => unfold State.linkRx; split <;> rfl
  | stopped => simp [State.gateOpen]
  | any | imgMgmt | mgmt => rfl

@[simp] theorem State.linkRx_windowShut (s : State) (p q : Path) (a : Nat) :
    (s.linkRx p).windowShut q a = s.windowShut q a := by
  unfold State.linkRx; split <;> rfl

/-! ## Writes -/

theorem State.writeIn_down {s : State} {p : Path} (h : s.pathUp p = false) (a : Nat) (w : Word) : s.writeIn p a w = s := by
  simp [State.writeIn, h]

theorem State.writeIn_up {s : State} {p : Path} (hp : p ≠ .image) (h : s.pathUp p = true) (a : Nat) (w : Word) :
    s.writeIn p a w = (s.linkRx p).writeReg p a w := by
  simp [State.writeIn, h, hp]

theorem State.writeReg_unreached {s : State} {p : Path} {a : Nat} (h : s.writable p a = false) (w : Word) :
    s.writeReg p a w = s := by
  simp [State.writeReg, h]

theorem State.rowLock_of_unlocked (s : State) {r : RegRow} (h : r.lock = none) : s.rowLock r = none := by
  simp [State.rowLock, h]

theorem State.lockBroken_of_unlocked (s : State) {a : Nat} {r : RegRow} (hr : rowOf a = some r) (h : r.lock = none) (w : Word) :
    s.lockBroken a w = none := by
  simp [State.lockBroken, hr, s.rowLock_of_unlocked h]

/-- A write to a row that no lock protects raises nothing. -/
theorem State.writeReg_unlocked {s : State} {p : Path} {a : Nat} {r : RegRow} (hw : s.writable p a = true)
    (hr : rowOf a = some r) (h : r.lock = none) (w : Word) :
    s.writeReg p a w = (s.writeHere p a w).noteEvt s.evtStatus := by
  simp [State.writeReg, hw, s.lockBroken_of_unlocked hr h]

/-- A write that passes the row's gate and does no more than store fields. -/
theorem State.writeHere_unlocked {s : State} {p : Path} {a : Nat} {r : RegRow} {w : Word} (hr : rowOf a = some r)
    (h : r.lock = none) (hg : s.gateOpen r.gate p a = true) (hs : s.windowShut p a = false) (hx : s.writeSpecial p a w = none) :
    s.writeHere p a w = s.writePlain p r 0 a w := by
  simp [State.writeHere, hr, s.rowLock_of_unlocked h, hg, hs, hx]

/-- R11: the bits of the row take the written value, the others keep theirs. -/
theorem State.writePlain_unlocked {s : State} {p : Path} {a : Nat} {r : RegRow} {old w new : Word} (hp : p ≠ .image)
    (hc : r.w1c = 0) (ho : s.rawVal a = some old) (hb : a ≠ 0x3_0010) (hm : ¬ (0x10_8000 ≤ a ∧ a < 0x10_9000))
    (hn : new.toNat = (old.toNat - (old.toNat &&& r.rw)) + (w.toNat &&& r.rw)) :
    s.writePlain p r 0 a w = s.putRaw a new := by
  have hnew : wd ((old.toNat - (old.toNat &&& r.rw)) + (w.toNat &&& r.rw)) = new := by
    rw [← hn, wd, BitVec.ofNat_toNat, BitVec.setWidth_eq]
  simp [State.writePlain, hc, ho, hb, hm, hp, hnew]

/-- 12 R316: two words over the link are written in the PAGEMAP window, at an even entry address. -/
theorem State.writeInWide_pagemap {s : State} {a : Nat} (hu : s.barUp = true) (hlo : 0x200_0000 ≤ a) (he : a % 8 = 0)
    (hr : (rowOf a).isSome = true) (lo hi : Word) :
    s.writeInWide a lo hi = (s.writeIn .bar0 a lo).writeIn .bar0 (a + 4) hi := by
  simp [State.writeInWide, State.pathUp, hu, hlo, he, hr]

theorem State.barUp_linkUp {s : State} (hu : s.barUp = true) : s.host.linkUp = true := by
  simp only [State.barUp, Bool.and_eq_true] at hu
  obtain ⟨⟨hlink, -⟩, -⟩ := hu
  exact hlink

/-- Outside the window a write of two words is dropped and counted in BAR0_BAD. -/
theorem State.writeInWide_elsewhere {s : State} {a : Nat} (hu : s.barUp = true) (h : a < 0x200_0000 ∨ a % 8 ≠ 0) (lo hi : Word) :
    s.writeInWide a lo hi = (s.bump64 0x10_0180 8).bumpHost 0 := by
  have hout : 0x200_0000 ≤ a → ¬ a % 8 = 0 := by omega
  simp +contextual [State.writeInWide, bar0Bad, State.barUp_linkUp hu, hu, hout]

/-! ## Reads -/

theorem State.readOut_down {s : State} {p : Path} (h : s.pathUp p = false) (a : Nat) :
    s.readOut p a = if p = .bar0 ∧ s.host.linkUp = true then s.out (.unsupported a) else s := by
  simp [State.readOut, h]

theorem State.readOut_up {s : State} {p : Path} (h : s.pathUp p = true) (a : Nat) :
    s.readOut p a = ((s.readReg p a).2.linkTx p).out (.readWord (pathNum p) a (s.readReg p a).1) := by
  simp [State.readOut, h]

theorem State.readReg_unreached {s : State} {p : Path} {a : Nat} (h : s.readable p a = false) : s.readReg p a = (0, s) := by
  simp [State.readReg, h]

theorem State.readReg_reached {s : State} {p : Path} {a : Nat} (h : s.readable p a = true) (hc : s.coreOut a = false) :
    s.readReg p a = s.readHere p a := by
  simp [State.readReg, h, hc]

/-- Registers of which a read answers no free value (notes/assumptions/5.md). -/
structure State.Certain (s : State) (a : Nat) : Prop where
  stack0 : a ≠ 0x20_0100
  stack1 : a ≠ 0x20_0104
  vbat : a = 0x2_0204 → s.pwr.vbatLow = false

theorem State.Certain.vbat_and {s : State} {a : Nat} (h : s.Certain a) : (decide (a = 0x2_0204) && s.pwr.vbatLow) = false := by
  by_cases ha : a = 0x2_0204
  · simp [h.vbat ha]
  · simp [ha]

/-- A latched word is answered, and its latch ends (R12). -/
theorem State.readHere_latched {s : State} {p : Path} {a : Nat} {w : Word} (h : s.Certain a)
    (hl : tfind (s.lat p).high a = some w) :
    s.readHere p a = (w, s.putLat p { s.lat p with high := tdel (s.lat p).high a }) := by
  simp [State.readHere, h.stack0, h.stack1, h.vbat_and, hl]

/-- Nothing latched: the live word; the low word of a pair latches the high one (R12). -/
theorem State.readHere_live {s : State} {p : Path} {a : Nat} (h : s.Certain a) (hp : p ≠ .image)
    (hl : tfind (s.lat p).high a = none) (hf : a ≠ 0x5_0010) :
    s.readHere p a = (s.peek (s.lat p) a,
      if pairLow a then (s.readClears a).putLat p { s.lat p with high := tput (s.lat p).high (a + 4) (s.peek (s.lat p) (a + 4)) }
      else s.readClears a) := by
  cases hpair : pairLow a <;> simp [State.readHere, h.stack0, h.stack1, h.vbat_and, hl, hf, hp, hpair]

@[simp] theorem State.lat_putLat {p : Path} (hp : p ≠ .image) (s : State) (l : Latches) : (s.putLat p l).lat p = l := by
  cases p with
  | image => exact absurd rfl hp
  | mgmt | dbg | bar0 => rfl

theorem State.peek_pagemap {a : Nat} (h : 0x200_0000 ≤ a) (s : State) (l : Latches) : s.peek l a = s.readPagemap a := by
  have hc : s.computed l a = some (s.readPagemap a) := by
    unfold State.computed
    repeat rw [if_neg (by omega)]
    exact if_pos h
  simp [State.peek, hc]

/-- In the PAGEMAP window a read over the link, with no word latched, answers the word of the entry. -/
theorem State.readReg_pagemap {s : State} {a : Nat} (h14 : s.past14 = true) (ha : 0x200_0000 ≤ a)
    (hr : (rowOf a).isSome = true) (hl : s.latBar0.high = []) : (s.readReg .bar0 a).1 = s.readPagemap a := by
  have hcore : ¬ a < 0x190_0000 := by omega
  have hread : s.readable .bar0 a = true := by simp [State.readable, State.dieGone, hr, h14, hcore]
  have hout : s.coreOut a = false := by simp [State.coreOut, hcore]
  have hnone : tfind (s.lat .bar0).high a = none := by simp [State.lat, hl, tfind]
  have hcert : s.Certain a := ⟨by omega, by omega, by omega⟩
  rw [State.readReg_reached hread hout, State.readHere_live hcert (by decide) hnone (by omega), State.peek_pagemap ha]

/-- 12 R316: two words over the link are read in the PAGEMAP window, at an even entry address. -/
theorem State.readOutWide_pagemap {s : State} {a : Nat} (hu : s.barUp = true) (hlo : 0x200_0000 ≤ a) (he : a % 8 = 0)
    (hr : (rowOf a).isSome = true) :
    s.readOutWide a = (s.bump64 0x10_0188 8).out (.readBytes 3 a
      (bytesLE 4 (s.readReg .bar0 a).1.toNat ++ bytesLE 4 (s.readReg .bar0 (a + 4)).1.toNat) false) := by
  simp [State.readOutWide, State.pathUp, hu, hlo, he, hr]

/-- Outside the window a read of two words is an Unsupported Request, counted in BAR0_BAD. -/
theorem State.readOutWide_elsewhere {s : State} {a : Nat} (hu : s.barUp = true) (h : a < 0x200_0000 ∨ a % 8 ≠ 0) :
    s.readOutWide a = (s.bumpHost 0).out (.unsupported a) := by
  have hout : 0x200_0000 ≤ a → ¬ a % 8 = 0 := by omega
  simp +contextual [State.readOutWide, bar0Bad, State.barUp_linkUp hu, hu, hout]

end Sys2Proof.Machine
end

section
/-! The statements about reads of words and plain accesses (spec/00_scope.md R11, R12). -/

namespace Sys2Proof.Machine

/-- Settles O32: a read that reaches its register is `readHere`, whose answer turns on whether the path has a latched word. -/
theorem wordReads : Obligations.WordReads := by
  unfold Obligations.WordReads
  refine ⟨?single, ?pair⟩
  case single =>
    rintro s u t a p rfl ⟨hp, -, hup, hread, hcore⟩ h0 h1 hv
    have hcert : (s.advance t).Certain a := ⟨h0, h1, hv⟩
    rw [exec_lowWordRead, State.readOut_up hup, State.readReg_reached hread hcore]
    refine ⟨fun w hw => ?_, fun hnone hf => ⟨?_, fun _ => ?_⟩⟩
    · rw [State.readHere_latched hcert hw]
    · rw [State.readHere_live hcert hp hnone hf]
    · simp [hp]
  case pair =>
    rintro s u t a p rfl hbar h14 ha he hr hr4 hl
    rw [exec_lowWordRead_wide, State.readOutWide_pagemap hbar ha he hr, State.readReg_pagemap h14 ha hr hl,
      State.readReg_pagemap h14 (by omega) hr4 hl]

/-- Settles O39, clause by clause through the laws of an access: the bytes over the link come first and leave everything alone that
decides where a write goes. -/
theorem plainAccess : Obligations.PlainAccess := by
  unfold Obligations.PlainAccess
  rintro s u v t a p x new r rfl - hp rfl
  refine ⟨?plain, ?unwritable, ?unreadable, ?down, ?pair, ?bad⟩
  case plain =>
    rintro ⟨-, -, hup, hw⟩ hr hc hlock hg hs hx ho hb hm hn
    rw [exec_registerWrite, State.writeIn_up hp hup, State.writeReg_unlocked (by simpa using hw) hr hlock,
      State.writeHere_unlocked hr hlock (by simpa using hg) (by simpa using hs) hx, State.writePlain_unlocked hp hc ho hb hm hn]
  case unwritable =>
    intro hup hw
    rw [exec_registerWrite, State.writeIn_up hp hup, State.writeReg_unreached (by simpa using hw)]
  case unreadable =>
    intro hup hr
    rw [exec_lowWordRead, State.readOut_up hup, State.readReg_unreached hr]
  case down =>
    intro hdown
    rw [exec_registerWrite, exec_lowWordRead, State.writeIn_down hdown, State.readOut_down hdown]
    exact ⟨rfl, rfl⟩
  case pair =>
    intro y w hbar hlo he hr hfirst
    have hnow : w.advance t = w := advance_of_exec hfirst
    rw [exec_registerWrite] at hfirst
    obtain rfl : (s.advance t).writeIn .bar0 a x = w := by simpa using hfirst
    rw [exec_registerWrite_wide, exec_registerWrite, State.writeInWide_pagemap hbar hlo he hr, hnow]
  case bad =>
    intro y hbar h
    rw [exec_registerWrite_wide, exec_lowWordRead_wide, State.writeInWide_elsewhere hbar h, State.readOutWide_elsewhere hbar h]
    exact ⟨rfl, rfl⟩

end Sys2Proof.Machine
end

section
/-! SUPPORT. Where the register table lists a register of an array, and what a read of a register does whose value is only stored
and some of whose fields a read clears (spec/00_scope.md R11, spec/18_register_map.md R452); after Machine/RegTab.lean and
Machine/RegRead.lean. -/

namespace Sys2Proof.Machine

/-! ## Rows of the register table -/

/-- The highest address that a row can list. -/
def RegRow.last (r : RegRow) : Nat := r.base + (r.dims.map (fun d => d.1 * (d.2 - 1))).sum

theorem le_of_inDims {ds : List (Nat × Nat)} {off : Nat} (h : inDims ds off = true) :
    off ≤ (ds.map (fun d => d.1 * (d.2 - 1))).sum := by
  induction ds generalizing off with
  | nil => simpa [inDims] using h
  | cons d ds ih =>
    obtain ⟨st, n⟩ := d
    have hrest := ih h
    have hfirst : min (off / st) (n - 1) * st ≤ st * (n - 1) := by
      rw [Nat.mul_comm st]
      exact Nat.mul_le_mul_right st (Nat.min_le_right ..)
    simp only [List.map_cons, List.sum_cons]
    omega

theorem RegRow.covers_le_last {r : RegRow} {a : Nat} (h : r.covers a = true) : a ≤ r.last := by
  simp only [RegRow.covers, Bool.and_eq_true, decide_eq_true_eq] at h
  have hoff := le_of_inDims h.2
  unfold RegRow.last
  omega

theorem inDims_elem {i n st k : Nat} (hi : i < n) (hk : k < st) (ds : List (Nat × Nat)) :
    inDims ((st, n) :: ds) (i * st + k) = inDims ds k := by
  have hdiv : (i * st + k) / st = i := by
    rw [Nat.add_comm, Nat.add_mul_div_right _ _ (by omega), Nat.div_eq_of_lt hk, Nat.zero_add]
  rw [inDims, hdiv, Nat.min_eq_left (by omega), Nat.add_sub_cancel_left]

theorem coreReg_eq (n off : Nat) : coreReg n off = coreReg 0 off + n * 0x1_0000 := by
  simp only [coreReg, Nat.zero_mul, Nat.add_zero, Nat.add_right_comm]

/-- A row of the CORE block lists the register at an offset of every core or of none. -/
theorem RegRow.covers_coreReg {r : RegRow} {n off : Nat} (hd : r.dims.head? = some (0x1_0000, 144))
    (hlo : 0x100_0000 ≤ r.base) (hhi : r.base ≤ coreReg 0 off) (hn : n < 144) (ho : off < 0x1_0000) :
    r.covers (coreReg n off) = r.covers (coreReg 0 off) := by
  obtain ⟨ds, hdims⟩ : ∃ ds, r.dims = (0x1_0000, 144) :: ds := List.head?_eq_some_iff.mp hd
  obtain ⟨k, hk⟩ : ∃ k, coreReg 0 off = r.base + k := Nat.exists_eq_add_of_le hhi
  have hsmall : k < 0x1_0000 := by unfold coreReg at hk; omega
  have hbase : coreReg n off = r.base + (n * 0x1_0000 + k) := by rw [coreReg_eq, hk]; omega
  have hzero := inDims_elem (i := 0) (n := 144) (by decide) hsmall ds
  rw [Nat.zero_mul, Nat.zero_add] at hzero
  simp only [RegRow.covers, hk, hbase, hdims, Nat.le_add_right, Nat.add_sub_cancel_left, inDims_elem hn hsmall, hzero]

/-- The row of RESPLIT_LAST (07 Table 7.9). -/
def resplitLastRow : RegRow := ⟨0x100_004C, [(0x1_0000, 144)], 0, 0, 0xFFFF_3FFF, .any, none, 0⟩

/-- The row of PART_MARGIN_LOW (01 Table 1.6). -/
def partMarginLowRow : RegRow := ⟨0x500, [(4, 64)], 0, 0, 0xFFFF, .any, none, 0⟩

theorem rowOf_resplitLast {n : Nat} (hn : n < 144) : rowOf (coreReg n 0x4C) = some resplitLastRow := by
  have hrows : rowsAt (coreReg n 0x4C) = rowsCore := by
    unfold rowsAt coreReg
    repeat rw [if_neg (by omega)]
    exact if_pos (by omega)
  have hcore0 : ∀ r ∈ resplitLastRow :: rowsCore.take 8, r.dims.head? = some (0x1_0000, 144) ∧ 0x100_0000 ≤ r.base
      ∧ r.base ≤ coreReg 0 0x4C ∧ r.covers (coreReg 0 0x4C) = decide (r = resplitLastRow) := by decide
  have hcore : ∀ r ∈ resplitLastRow :: rowsCore.take 8, r.covers (coreReg n 0x4C) = decide (r = resplitLastRow) := by
    intro r hr
    obtain ⟨hd, hlo, hhi, hcov⟩ := hcore0 r hr
    rw [RegRow.covers_coreReg hd hlo hhi hn (by decide), hcov]
  rw [rowOf, hrows, List.find?_eq_some_iff_append]
  refine ⟨by simpa using hcore resplitLastRow (by simp), rowsCore.take 8, rowsCore.drop 9, rfl, fun r hr => ?_⟩
  have hne : r ≠ resplitLastRow := by
    rintro rfl
    exact absurd hr (by decide)
  simp [hcore r (by simp [hr]), hne]

theorem rowOf_partMarginLow {n : Nat} (hn : n < 64) : rowOf (0x500 + 4 * n) = some partMarginLowRow := by
  have hrows : rowsAt (0x500 + 4 * n) = rowsGlobal := if_pos (by omega)
  have hbefore : ∀ r ∈ rowsGlobal.take 18, r.last < 0x500 := by decide
  have hcov : partMarginLowRow.covers (0x500 + 4 * n) = true := by
    have helem := inDims_elem hn (k := 0) (st := 4) (by decide) []
    simpa [RegRow.covers, partMarginLowRow, Nat.mul_comm 4, inDims] using helem
  rw [rowOf, hrows, List.find?_eq_some_iff_append]
  refine ⟨hcov, rowsGlobal.take 18, [], rfl, fun r hr => ?_⟩
  have hlast := hbefore r hr
  have hout : ¬ r.covers (0x500 + 4 * n) = true := fun h => by
    have hle := RegRow.covers_le_last h
    omega
  simpa using hout

/-! ## Reads that clear fields -/

theorem State.computed_resplitLast (s : State) (l : Latches) {n : Nat} (hn : n < 144) : s.computed l (coreReg n 0x4C) = none := by
  have hoff : coreReg n 0x4C % 0x1_0000 = 0x4C := by unfold coreReg; omega
  have hlo : 0x100_0000 ≤ coreReg n 0x4C := by unfold coreReg; omega
  have hhi : coreReg n 0x4C < 0x190_0000 := by unfold coreReg; omega
  have hcore : s.readCore (coreReg n 0x4C) = none := by simp [State.readCore, hoff]
  unfold State.computed
  repeat rw [if_neg (by omega)]
  rw [if_pos hhi, hcore]

theorem State.computed_partMarginLow (s : State) (l : Latches) {n : Nat} (hn : n < 64) : s.computed l (0x500 + 4 * n) = none := by
  unfold State.computed State.readGlobal
  rw [if_pos (by omega)]
  simp only [Bool.and_eq_true, decide_eq_true_eq]
  repeat rw [if_neg (by omega)]

/-- A value that follows no other state is the stored one. -/
theorem State.peek_stored {s : State} {l : Latches} {a : Nat} (h : s.computed l a = none) (hk : keepsRaw a = false) :
    s.peek l a = s.rget a := by
  simp [State.peek, h, hk]

/-- R11: in GLOBAL and CORE, where no register pops a queue or starts a peak anew, a read clears the RC bits of the register's row. -/
theorem State.readClears_rc {s : State} {a : Nat} {r : RegRow} (ha : a < 0x1_0000 ∨ 0x100_0000 ≤ a) (hr : rowOf a = some r)
    (hrc : r.rc ≠ 0) : s.readClears a = s.rput a (wd ((s.rget a).toNat &&& (m32 - r.rc))) := by
  unfold State.readClears
  simp only [Bool.and_eq_true, decide_eq_true_eq]
  repeat rw [if_neg (by omega)]
  simp [hr, hrc]

/-- A read of a stored register of GLOBAL or CORE answers the word and clears its RC bits. -/
theorem State.readOut_rc {s : State} {p : Path} {a : Nat} {r : RegRow} (hs : s.shows p a) (hl : tfind (s.lat p).high a = none)
    (ha : a < 0x1_0000 ∨ 0x100_0000 ≤ a) (hc : s.computed (s.lat p) a = none) (hpair : pairLow a = false)
    (hr : rowOf a = some r) (hrc : r.rc ≠ 0) :
    s.readOut p a = ((s.rput a (wd ((s.rget a).toNat &&& (m32 - r.rc)))).linkTx p).out (.readWord (pathNum p) a (s.rget a)) := by
  obtain ⟨hp, -, hup, hread, hcore⟩ := hs
  have hcert : s.Certain a := ⟨by omega, by omega, by omega⟩
  have hraw : keepsRaw a = false := by
    simp only [keepsRaw, Bool.or_eq_false_iff, Bool.and_eq_false_iff, decide_eq_false_iff_not, beq_eq_false_iff_ne]
    omega
  rw [State.readOut_up hup, State.readReg_reached hread hcore, State.readHere_live hcert hp hl (by omega), State.peek_stored hc hraw,
    State.readClears_rc ha hr hrc, hpair]
  rfl

theorem pairLow_resplitLast {n : Nat} : pairLow (coreReg n 0x4C) = false := by
  have h8 : coreReg n 0x4C % 8 = 4 := by unfold coreReg; omega
  have hlo : 0x100_0000 ≤ coreReg n 0x4C := by unfold coreReg; omega
  simp only [pairLow, Bool.or_eq_false_iff, Bool.and_eq_false_iff, decide_eq_false_iff_not, beq_eq_false_iff_ne]
  omega

theorem pairLow_partMarginLow {n : Nat} (hn : n < 64) : pairLow (0x500 + 4 * n) = false := by
  simp only [pairLow, Bool.or_eq_false_iff, Bool.and_eq_false_iff, decide_eq_false_iff_not, beq_eq_false_iff_ne]
  omega

/-! ## The commands -/

theorem exec_resplitLastRead (t : Nat) (p : Path) (n : Nat) (s : State) :
    exec (.resplitLastRead t p n) s = .next ((s.advance t).readOut p (coreReg n 0x4C)) := rfl
theorem exec_partMarginLowRead (t : Nat) (p : Path) (n : Nat) (s : State) :
    exec (.partMarginLowRead t p n) s = .next ((s.advance t).readOut p (0x500 + 4 * n)) := rfl

/-- Settles O34: both registers are stored ones of GLOBAL and CORE, and their rows name the bits that a read clears. -/
theorem clearingReads : Obligations.ClearingReads := by
  unfold Obligations.ClearingReads
  rintro s u t a n p ans rfl hs hl hans
  refine ⟨?resplit, ?margin⟩
  case resplit =>
    rintro hn rfl
    have ha : coreReg n 0x4C < 0x1_0000 ∨ 0x100_0000 ≤ coreReg n 0x4C := by unfold coreReg; omega
    rw [exec_resplitLastRead, hans, State.readOut_rc hs hl ha (State.computed_resplitLast _ _ hn) pairLow_resplitLast
      (rowOf_resplitLast hn) (by decide)]
    rfl
  case margin =>
    rintro hn rfl
    rw [exec_partMarginLowRead, hans, State.readOut_rc hs hl (.inl (by omega)) (State.computed_partMarginLow _ _ hn)
      (pairLow_partMarginLow hn) (rowOf_partMarginLow hn) (by decide)]
    rfl

end Sys2Proof.Machine
end

section
/-! Measuring pace (spec/01_dies_and_pace.md R24 to R27): what a tick interval, a window and a probe do to a core's counters, and
when the commands act. -/

namespace Sys2Proof.Machine

/-! ## A core's counters -/

/-- The cycles that a tick interval counts: of the probe while one runs. -/
def PaceCore.ticked (c : PaceCore) (probe : Nat) : Nat := if c.probe = true then probe else c.usCycles

/-- R24: a clean interval counts. -/
theorem PaceCore.tick_clean {c : PaceCore} {probe : Nat} (hw : c.waited = false) (hn : c.ticked probe ≠ 0) (waiting : Bool) :
    c.tick probe waiting = { c with
      usCycles := 0, waited := waiting && !c.probe, cyc := (c.cyc + c.ticked probe) % 2 ^ 64, us := (c.us + 1) % 2 ^ 64
      winCyc := c.winCyc + c.ticked probe, winUs := c.winUs + 1 } := by
  unfold PaceCore.ticked at *
  simp [PaceCore.tick, hw, hn]

/-- R24: an interval with a wait or without a cycle only starts anew. -/
theorem PaceCore.tick_unclean {c : PaceCore} {probe : Nat} (h : c.waited = true ∨ c.ticked probe = 0) (waiting : Bool) :
    c.tick probe waiting = { c with usCycles := 0, waited := waiting && !c.probe } := by
  unfold PaceCore.ticked at h
  unfold PaceCore.tick
  exact if_pos (by simpa using h)

/-- R27: a window with a clean interval. -/
theorem PaceCore.close_clean {c : PaceCore} (h : c.winUs ≠ 0) (floor : Nat) :
    c.close floor = { c with
      winCyc := 0, winUs := 0, last := min 0xFFFF (c.winCyc / c.winUs)
      margin := min 0xFFFF (min 0xFFFF (c.winCyc / c.winUs) * 4096 / floor), valid := true } := by
  simp [PaceCore.close, h]

/-- R27: a window without a clean interval is not valid. -/
theorem PaceCore.close_empty {c : PaceCore} (h : c.winUs = 0) (floor : Nat) :
    c.close floor = { c with winCyc := 0, valid := false } := by
  simp [PaceCore.close, h]

/-! ## When the commands act -/

theorem exec_microsecondTick (t : Nat) (probes : List Nat) (s : State) :
    exec (.microsecondTick t probes) s = .next (microsecondTick probes (s.advance t)) := rfl
theorem exec_paceWindowClose (t : Nat) (s : State) : exec (.paceWindowClose t) s = .next (paceWindowClose (s.advance t)) := rfl
theorem exec_paceProbeStart (t n : Nat) (s : State) : exec (.paceProbeStart t n) s = .next (paceProbeStart n (s.advance t)) := rfl

theorem State.live_of_not_held {s : State} (h : s.held = false) : s.live = true := by simp [State.live, h]

/-- R27: the count of ticks stands at the end of a window that has not been closed yet. -/
def State.windowDue (s : State) : Prop := s.usTicks % 2 ^ fld (s.rget 0x200) 0 5 = 0 ∧ s.usTicks ≠ s.pace.closedAt

theorem paceWindowClose_not_due {s : State} (h : ¬ s.windowDue) : paceWindowClose s = s := by
  unfold paceWindowClose
  refine if_pos ?_
  simp only [State.windowDue, not_and_or, not_not] at h
  rcases h with h | h <;> simp [h]

theorem paceWindowClose_discarded {s : State} (hl : s.live = true) (hd : s.windowDue) (h : s.pace.discard = true) :
    paceWindowClose s = { s with pace := { s.pace with
      closedAt := s.usTicks
      discard := false
      cores := s.pace.cores.map (fun e => (e.1, { e.2 with winCyc := 0, winUs := 0 })) } } := by
  obtain ⟨hcount, hnew⟩ := hd
  simp [paceWindowClose, hl, hcount, hnew, h]

theorem paceWindowClose_due {s : State} (hl : s.live = true) (hd : s.windowDue) (h : s.pace.discard = false) :
    paceWindowClose s = ((List.range 64).foldl State.closePart ((List.range 4).foldl State.closeDie { s with
      pace := { s.pace with
        closedAt := s.usTicks
        discard := false
        winSeq := (s.pace.winSeq + 1) % 2 ^ 32
        cores := s.pace.cores.map (fun e => (e.1, if s.coreFenced e.1 || !s.diePowered (dieOf e.1) then
          { e.2 with winCyc := 0, winUs := 0 } else e.2.close s.paceFloor)) } })).noteEvt s.evtStatus := by
  obtain ⟨hcount, hnew⟩ := hd
  simp [paceWindowClose, hl, hcount, hnew, h]

/-- Settles O40: an interval or a window of a core either counts or only starts anew, and each command comes down to its guard:
TIMEBASE runs, the window is due, the core is idle. -/
theorem pace : Obligations.Pace := by
  unfold Obligations.Pace
  refine ⟨?tick, ?close, ?commands⟩
  case tick =>
    rintro c pr n w rfl
    refine ⟨fun hw hn => ?_, fun h => PaceCore.tick_unclean h w⟩
    rw [PaceCore.tick_clean hw hn]
    exact ⟨rfl, rfl, rfl, rfl, rfl⟩
  case close =>
    refine fun c fl => ⟨fun h => ?_, fun h => PaceCore.close_empty h fl⟩
    rw [PaceCore.close_clean h]
    exact ⟨rfl, rfl, rfl, rfl, rfl⟩
  case commands =>
    rintro s u t n pr rfl
    rw [exec_microsecondTick, exec_paceWindowClose, exec_paceProbeStart]
    refine ⟨fun h => ?runs, fun h => ?stands, fun _ h => ?notDue, fun hl hcount hnew h => ?discarded,
      fun hl hcount hnew h => ?due, ?probe⟩
    case runs => simp only [microsecondTick, h]; rfl
    case stands => simp [microsecondTick, h]
    case notDue =>
      rw [paceWindowClose_not_due]
      rintro ⟨hcount, hnew⟩
      exact h.elim (· hcount) hnew
    case discarded => rw [paceWindowClose_discarded (State.live_of_not_held hl) ⟨hcount, hnew⟩ h]
    case due => rw [paceWindowClose_due (State.live_of_not_held hl) ⟨hcount, hnew⟩ h]
    case probe =>
      intro hl hn hruns hfence hen hwalks hqueued hreplay hclosed hdrain hissue hprobe hwork
      have hidle : (List.range 4).all (fun x => !(s.advance t).canIssue n x) = true := by simpa using hissue
      simp only [paceProbeStart, State.live_of_not_held hl, hn, hruns, hfence, hen, hwalks, hqueued, hreplay, hclosed, hdrain,
        hidle, hprobe, hwork]
      rfl

end Sys2Proof.Machine
end

section
/-! Reset and the start of the references: what reset leaves and every step keeps, the reset pins (spec/02 R33, R39; spec/16 R416,
R424), and the events of start-up before the first PLL locks (spec/02 R35, R38, R44; spec/15 R389, R390). -/

namespace Sys2Proof.Machine

/-! ## What reset leaves, and device memory -/

/-- Settles O3: each fact is a field of the reset state. -/
theorem resetHolds : Obligations.ResetHolds := by
  unfold Obligations.ResetHolds
  refine ⟨fun _ => rfl, fun _ => rfl, rfl, rfl, fun w i hw => ?_, rfl, rfl, rfl, rfl, rfl, rfl, rfl, rfl, rfl, rfl⟩
  have hblank : State.reset.fuse w = 0#32 := if_pos hw
  rw [hblank, BitVec.getLsbD_zero]

/-- Settles O4: a memory that lists no byte is in canonical form. -/
theorem resetSound : Obligations.ResetSound := rfl

/-- Settles O5: a step on an empty queue keeps the state, and any command evolves it. -/
theorem stepKeepsMemory : Obligations.StepKeepsMemory := by
  unfold Obligations.StepKeepsMemory
  intro s s' hs h
  unfold step at h
  split at h
  case h_1 =>
    obtain rfl : s = s' := by simpa using h
    exact hs
  case h_2 c r _ => exact (exec_ev h).mem (by simpa using hs)

/-! ## The device goes into reset -/

/-- A fuse word whose programming a reset breaks off changes nothing but the fuses and the count of free values. -/
theorem State.fuseBreak_eq (s : State) :
    s.fuseBreak = { s with freeCount := s.fuseBreak.freeCount, sec := s.fuseBreak.sec } := by
  unfold State.fuseBreak
  split
  · rfl
  · split <;> rfl

theorem State.enterReset_held {s : State} (h : s.held = true) : s.enterReset = s := by simp [State.enterReset, h]

/-- R33: every block takes its reset state but the always-on domain, the fuses and the straps' levels. -/
theorem State.enterReset_up {s : State} (h : s.held = false) :
    s.enterReset = { State.reset with
      now := s.now, pending := s.pending, outbox := s.outbox, freeCount := s.fuseBreak.freeCount, held := true
      pinResetN := s.pinResetN, pinPwrgood := s.pinPwrgood, railHold := s.railHold, jtag := s.jtag
      boot := Boot.init s.boot.straps s.now, aon := s.aon, chr := s.chr, mgmt := s.mgmt
      sec := { Sec.blank with fuses := s.fuseBreak.sec.fuses } } := by
  unfold State.enterReset
  rw [State.fuseBreak_eq]
  simp [h]

/-- Noting a cause touches the always-on domain alone. -/
theorem State.noteCause_eq (s : State) (m : Nat) : s.noteCause m = { s with aon := (s.noteCause m).aon } := by
  unfold State.noteCause; split <;> rfl

/-! ## Release from reset -/

theorem State.mayRelease_iff {s : State} :
    s.mayRelease = true ↔ s.held = true ∧ s.pinResetN = true ∧ s.pinPwrgood = true ∧ s.railHold = false
      ∧ jtagHolds s.jtag = false ∧ s.aon.powered = true ∧ s.aon.onVbat = false := by
  simp [State.mayRelease, and_assoc]

/-- With no supply reset latched, a release writes no record. -/
theorem State.release_unlatched {s : State} (h : s.aon.supply = none) (straps : Straps) :
    s.release straps = { s with
      held := false, usTicks := 0, boot := Boot.init straps s.now, aon := { s.aon with cause := s.aon.causes, causes := 0 }
      sec := { s.sec with debugEn := s.debugAtReset }, pwr := { s.pwr with therm := [] }
      flt := { s.flt with scrubAt := s.now } } := by
  simp [State.release, State.supplyRecord, h]

/-! ## The reset pins -/

theorem exec_resetAssert (t : Nat) (p : Bool) (s : State) :
    exec (.resetAssert t p) s = .next (resetAssert p (s.advance t)) := rfl
theorem exec_resetRelease (t b x m : Nat) (ok : Bool) (s : State) :
    exec (.resetRelease t b x m ok) s = .next (resetRelease b x m ok (s.advance t)) := rfl

theorem resetAssert_low {p : Bool} {s : State} (h : (if p then s.pinPwrgood else s.pinResetN) = false) :
    resetAssert p s = s := by
  cases p <;> simp_all [resetAssert]

theorem resetAssert_high {p : Bool} {s : State} (h : (if p then s.pinPwrgood else s.pinResetN) = true) :
    resetAssert p s = State.enterReset { s.noteCause (if p then 4 else 2) with
      pinPwrgood := s.pinPwrgood && !p, pinResetN := s.pinResetN && p } := by
  cases p <;> simp_all [resetAssert]

theorem resetRelease_notDue {s : State} (h : s.held = false ∨ s.pinResetN = true ∧ s.pinPwrgood = true) (b x m : Nat) (ok : Bool) :
    resetRelease b x m ok s = s := by
  unfold resetRelease
  rw [if_pos (by simpa using h)]

theorem resetRelease_due {s v : State} (hheld : s.held = true) (hlow : ¬ (s.pinResetN = true ∧ s.pinPwrgood = true)) (b x m : Nat)
    (ok : Bool) (hv : v = { s with pinResetN := true, pinPwrgood := true, railHold := s.railHold || !ok }) :
    resetRelease b x m ok s
      = if v.mayRelease then v.release { bootSrc := b % 4, xtalDly := x % 4, mgmtAddr := m % 8 } else v := by
  subst hv
  unfold resetRelease
  rw [if_neg (by simpa [hheld] using hlow)]

/-- Settles O9, pin by pin and guard by guard. -/
theorem pinReset : Obligations.PinReset := by
  unfold Obligations.PinReset
  refine ⟨?assert, ?release⟩
  case assert =>
    rintro s u t p rfl
    rw [exec_resetAssert]
    refine ⟨fun h => by rw [resetAssert_low h], fun h hheld => ?held, fun h hup => ?up⟩
    case held => rw [resetAssert_high h, State.enterReset_held (by rw [State.noteCause_eq]; exact hheld)]
    case up =>
      refine ⟨_, rfl, ?_⟩
      rw [resetAssert_high h, State.enterReset_up (by rw [State.noteCause_eq]; exact hup), State.noteCause_eq]
      exact ⟨rfl, rfl, rfl, fun _ => rfl, fun _ => rfl, rfl, rfl, rfl, rfl, rfl, rfl, rfl, rfl, rfl, rfl, rfl, rfl, rfl, rfl⟩
  case release =>
    rintro s u v t b x m ok rfl hv
    rw [exec_resetRelease]
    refine ⟨fun h => by rw [resetRelease_notDue h], fun hheld hlow hm => ?holds, fun hheld hlow hm hsup => ?leaves, ?when⟩
    case holds => rw [resetRelease_due hheld hlow b x m ok hv, hm]; rfl
    case leaves =>
      have hsup' : v.aon.supply = none := by rw [hv]; exact hsup
      rw [resetRelease_due hheld hlow b x m ok hv, if_pos hm, State.release_unlatched hsup', hv]
      rfl
    case when => simp [State.mayRelease_iff, hv, and_assoc]

/-! ## The references -/

theorem exec_rcOscillatorStart (t : Nat) (s : State) : exec (.rcOscillatorStart t) s = .next (rcStart (s.advance t)) := rfl
theorem exec_vddCoreSettled (t : Nat) (s : State) : exec (.vddCoreSettled t) s = .next (vddSettled (s.advance t)) := rfl
theorem exec_xtalAmpDetect (t : Nat) (s : State) : exec (.xtalAmpDetect t) s = .next (xtalAmp (s.advance t)) := rfl
theorem exec_xtalCountDone (t : Nat) (s : State) : exec (.xtalCountDone t) s = .next (xtalCount (s.advance t)) := rfl
theorem exec_xtalDlyDone (t : Nat) (s : State) : exec (.xtalDlyDone t) s = .next (xtalDly (s.advance t)) := rfl
theorem exec_xoStartTimeout (t : Nat) (s : State) : exec (.xoStartTimeout t) s = .next (xoTimeout (s.advance t)) := rfl

theorem State.starting_iff {s : State} : s.starting = true ↔ s.held = false ∧ s.boot.phase = .clocks := by
  simp [State.starting, State.live]

/-- XTAL_DLY_DONE after the count, in CLOCKS: XO_STABLE as soon as the strap's delay has run. -/
theorem xtalDly_counted {s : State} {c : Nat} (hs : s.starting = true) (hc : s.boot.countAt = some c)
    (hx : s.boot.xoStable = false) :
    xtalDly s = if c + xtalDlyNs s.boot.straps.xtalDly ≤ s.now then { s with boot := { s.boot with xoStable := true } } else s := by
  simp [xtalDly, hs, hc, hx]

theorem xtalDly_uncounted {s : State} (h : s.boot.countAt = none) : xtalDly s = s := by simp [xtalDly, h]

theorem rcStart_due {s : State} (hl : s.held = false) (hrc : s.boot.rcRunning = false) :
    rcStart s = { s with boot := { s.boot with rcRunning := true } } := by
  simp [rcStart, State.live, hl, hrc]

theorem vddSettled_due {s : State} (hl : s.held = false) (hrc : s.boot.rcRunning = true) (hv : s.boot.vddSettled = false) :
    vddSettled s = { s.senseFuses with
      boot := { s.senseFuses.boot with vddSettled := true }, pwr := { s.senseFuses.pwr with dies := 15 } } := by
  simp [vddSettled, State.live, hl, hrc, hv]

theorem State.senseFuses_done {s : State} (h : s.boot.sensed = true) : s.senseFuses = s := by simp [State.senseFuses, h]

/-- Step 3: the AVS target goes out. -/
theorem State.senseFuses_first {s : State} (h : s.boot.sensed = false) :
    s.senseFuses = { s with
      boot := { s.boot with sensed := true }, pwr := { s.pwr with target := s.avsTarget }
      outbox := .avsTarget s.avsTarget :: s.outbox } := by
  unfold State.senseFuses
  rw [if_neg (by simp [h])]
  rfl

theorem xtalAmp_starting {s : State} (hs : s.starting = true) (ha : s.clk.ampOk = false) :
    xtalAmp s = { s with clk := { s.clk with ampOk := true }, boot := { s.boot with ampAt := some s.now } } := by
  have hl := State.live_of_not_held (State.starting_iff.1 hs).1
  unfold xtalAmp
  rw [if_neg (by simp [hl, ha])]
  exact if_pos hs

/-- R44: past CLOCKS the detector only shows. -/
theorem xtalAmp_later {s : State} (hl : s.held = false) (hp : s.boot.phase ≠ .clocks) (ha : s.clk.ampOk = false) :
    xtalAmp s = { s with clk := { s.clk with ampOk := true } } := by
  unfold xtalAmp
  rw [if_neg (by simp [State.live, hl, ha])]
  exact if_neg fun hs => hp (State.starting_iff.1 hs).2

theorem xtalCount_starting {s : State} (hs : s.starting = true) (ha : s.boot.ampAt ≠ none) (hc : s.boot.countAt = none) :
    xtalCount s = { s with boot := { s.boot with countAt := some s.now } } := by
  obtain ⟨a, ha⟩ := Option.ne_none_iff_exists'.1 ha
  simp [xtalCount, ha, hc, hs]

theorem xoTimeout_due {s : State} (hs : s.starting = true) (ha : s.boot.ampAt = none) (hd : s.boot.since + 64_000_000 ≤ s.now) :
    xoTimeout s = State.raise { s with boot := { s.boot with phase := .heldNoXo, rrs := false } }
      { cls := 0x01, action := 2, unit := 0x1008, detail := 2 ^ 17 } := by
  unfold xoTimeout
  rw [if_pos (by simp [hs, ha, hd])]
  rfl

/-- Settles O13, step by step of Table 2.2. -/
theorem startReferences : Obligations.StartReferences := by
  unfold Obligations.StartReferences
  rintro s u t c rfl hl
  rw [exec_rcOscillatorStart, exec_vddCoreSettled, exec_xtalAmpDetect, exec_xtalCountDone, exec_xtalDlyDone, exec_xoStartTimeout]
  have hstart (hp : (s.advance t).boot.phase = .clocks) := State.starting_iff.2 ⟨hl, hp⟩
  refine ⟨fun hrc => ?rc, fun hrc hv hs => ?sensed, fun hrc hv hs => ?unsensed, fun hp ha => ?amp, fun hp ha => ?ampLater,
    fun hp ha hc => ?count, fun hp hc hx hd => ?delay, fun hp ha hd => ?timeout⟩
  case rc => rw [rcStart_due hl hrc]
  case sensed => rw [vddSettled_due hl hrc hv, State.senseFuses_done hs]
  case unsensed => rw [vddSettled_due hl hrc hv, State.senseFuses_first hs]
  case amp => rw [xtalAmp_starting (hstart hp) ha]
  case ampLater => rw [xtalAmp_later hl hp ha]
  case count => rw [xtalCount_starting (hstart hp) ha hc]
  case delay => rw [xtalDly_counted (hstart hp) hc hx, if_pos hd]
  case timeout => rw [xoTimeout_due (hstart hp) ha hd]

/-- Settles O14: the four delays are the cases of the strap, and XTAL_DLY_DONE turns on whether the delay has run. -/
theorem xtalDelay : Obligations.XtalDelay := by
  unfold Obligations.XtalDelay
  refine ⟨rfl, rfl, rfl, rfl, ?counted, ?uncounted⟩
  case counted =>
    rintro s u t c rfl hl hp hc hx
    rw [exec_xtalDlyDone, xtalDly_counted (State.starting_iff.2 ⟨hl, hp⟩) hc hx]
  case uncounted =>
    rintro s u t rfl hc
    rw [exec_xtalDlyDone, xtalDly_uncounted hc]

end Sys2Proof.Machine
end

section
/-! Loading an image: the end of the memory initialisation and the next source (spec/02 R39, R59 to R61, R65), the header (R46, R47),
the failure of a load (R58, R59), and the records with ARM as the last (R48 to R56, R64, R481). -/

namespace Sys2Proof.Machine

/-! ## What leaves the start-up state alone -/

theorem Reports.boot {z u : State} (h : Reports z u) : u.boot = z.boot := by rw [h.rest]
theorem Reports.sec {z u : State} (h : Reports z u) : u.sec = z.sec := by rw [h.rest]
theorem Reports.mem {z u : State} (h : Reports z u) : u.mem = z.mem := by rw [h.rest]

@[simp] theorem State.raiseIbi_boot (s : State) (c : Nat) : (s.raiseIbi c).boot = s.boot := (State.raiseIbi_reports (.refl s) c).boot
@[simp] theorem State.raiseIbi_sec (s : State) (c : Nat) : (s.raiseIbi c).sec = s.sec := (State.raiseIbi_reports (.refl s) c).sec
@[simp] theorem State.raiseIbi_mem (s : State) (c : Nat) : (s.raiseIbi c).mem = s.mem := (State.raiseIbi_reports (.refl s) c).mem
@[simp] theorem State.raise_boot (s : State) (r : Report) : (s.raise r).boot = s.boot := (State.raise_reports (.refl s) r).boot
@[simp] theorem State.raise_sec (s : State) (r : Report) : (s.raise r).sec = s.sec := (State.raise_reports (.refl s) r).sec
@[simp] theorem State.raise_mem (s : State) (r : Report) : (s.raise r).mem = s.mem := (State.raise_reports (.refl s) r).mem

@[simp] theorem State.nvmRead_boot (s : State) (off n : Nat) : (s.nvmRead off n).boot = s.boot := by
  unfold State.nvmRead; dsimp only; split <;> rfl

/-! ## STATE (R41, 17 R442) -/

theorem State.setPhase_silent {p : Phase} (hr : p ≠ .running) (ha : p ≠ .armedWait) (hf : p ≠ .failed) (hw : p ≠ .recoveryWait)
    (s : State) : s.setPhase p = { s with boot := { s.boot with phase := p } } := by
  cases p with
  | running => exact absurd rfl hr
  | armedWait => exact absurd rfl ha
  | failed => exact absurd rfl hf
  | recoveryWait => exact absurd rfl hw
  | clocks | memInit | header | pushWait | loading | rearming | heldNoXo => rfl

theorem State.setPhase_failed (s : State) :
    s.setPhase .failed = State.raiseIbi { s with boot := { s.boot with phase := .failed } } 4 := rfl

theorem State.setPhase_recoveryWait (s : State) :
    s.setPhase .recoveryWait = State.raiseIbi { s with boot := { s.boot with phase := .recoveryWait } } 4 := rfl

/-! ## The end of the memory initialisation (R39) -/

theorem exec_memInitDone (t : Nat) (s : State) : exec (.memInitDone t) s = .next (memInitDone (s.advance t)) := rfl
theorem exec_loadFailZeroed (t : Nat) (s : State) : exec (.loadFailZeroed t) s = .next (loadFailZeroed (s.advance t)) := rfl

theorem memInitDone_again {s : State} (h : s.boot.memDone = true) : memInitDone s = s := by simp [memInitDone, h]

/-- While a header is read or after a failure STATE stays. -/
theorem memInitDone_behind {s v : State} (hl : s.held = false) (hm : s.boot.memDone = false)
    (hp : s.boot.phase = .header ∨ s.boot.phase = .failed)
    (hv : v = { s.wipe with mems := { s.mems with ready := 3 }, boot := { s.boot with memDone := true, rrs := false } }) :
    memInitDone s = v := by
  rcases hp with hp | hp <;> simp [memInitDone, State.live, hl, hm, hp, hv]

/-- In MEM_INIT, STATE goes on to what waits for the memories. -/
theorem memInitDone_memInit {s v : State} (hl : s.held = false) (hm : s.boot.memDone = false) (hp : s.boot.phase = .memInit)
    (hv : v = { s.wipe with mems := { s.mems with ready := 3 }, boot := { s.boot with memDone := true, rrs := false } }) :
    memInitDone s = if s.boot.load.isSome then { v with boot := { v.boot with phase := .loading } }
      else if 2 ≤ s.boot.straps.bootSrc then { v with boot := { v.boot with phase := .pushWait } } else v := by
  simp [memInitDone, State.live, hl, hm, hp, hv, State.setPhase_silent]

/-! ## The next source (R59 to R61, R65) -/

theorem State.nextSource_rearm {s : State} (hb : s.boot.straps.bootSrc < 2) (hr : s.boot.wasRearm = true) :
    s.nextSource
      = { s with boot := { s.boot with src := s.boot.straps.bootSrc, slot := 0, wasRearm := false, phase := .header } } := by
  simp [State.nextSource, hb, hr, State.setPhase_silent]

theorem State.nextSource_secondary {s : State} (hb : s.boot.straps.bootSrc < 2) (hr : s.boot.wasRearm = false)
    (hs : s.boot.src < 2) (h0 : s.boot.slot = 0) :
    s.nextSource
      = { s with boot := { s.boot with src := s.boot.straps.bootSrc, slot := 1, wasRearm := false, phase := .header } } := by
  simp [State.nextSource, hb, hr, hs, h0, State.setPhase_silent]

theorem State.nextSource_recovery {s : State}
    (h : 2 ≤ s.boot.straps.bootSrc ∨ s.boot.wasRearm = false ∧ (2 ≤ s.boot.src ∨ s.boot.slot ≠ 0)) :
    s.nextSource = State.raiseIbi { s with boot := { s.boot with wasRearm := false, phase := .recoveryWait } } 4 := by
  have hprimary : ¬ (s.boot.straps.bootSrc < 2 ∧ s.boot.wasRearm = true) := by
    rintro ⟨hb, hr⟩
    simp [hr] at h
    omega
  have hsecondary : ¬ ((s.boot.straps.bootSrc < 2 ∧ s.boot.src < 2) ∧ s.boot.slot = 0) := by omega
  unfold State.nextSource
  simp only [Bool.and_eq_true, decide_eq_true_eq]
  rw [if_neg hprimary, if_neg hsecondary, State.setPhase_recoveryWait]

theorem loadFailZeroed_none {s : State} (h : s.boot.failed = none) : loadFailZeroed s = s := by simp [loadFailZeroed, h]

theorem loadFailZeroed_due {s : State} {f : FailedLoad} (hf : s.boot.failed = some f) (hp : s.boot.phase = .failed)
    (hm : s.boot.memDone = true) :
    loadFailZeroed s = State.nextSource
      (f.saved.foldl (fun w e => w.putRaw e.1 e.2) { s.wipe with boot := { s.boot with failed := none, ranges := [] } }) := by
  simp [loadFailZeroed, hf, hp, hm]

/-- Settles O18, command by command; the next source is a case of `nextSource` for each of its three outcomes. -/
theorem initAndSource : Obligations.InitAndSource := by
  unfold Obligations.InitAndSource
  refine ⟨?commands, fun s => ⟨State.nextSource_rearm, State.nextSource_secondary, State.nextSource_recovery⟩⟩
  case commands =>
    rintro s u v t f rfl hl
    rw [exec_memInitDone, exec_loadFailZeroed]
    refine ⟨fun hv hm => ⟨fun hp => ?behind, fun hp hload => ?loading, fun hp hload hsrc => ?push, fun hp hload hsrc => ?nvm⟩,
      fun hm => ?again, fun hf hp hm => ?zeroed, fun hf => ?nothing, fun _ => rfl⟩
    case behind => rw [memInitDone_behind hl hm hp hv]
    case loading => rw [memInitDone_memInit hl hm hp hv, if_pos (Option.isSome_iff_ne_none.2 hload)]
    case push => rw [memInitDone_memInit hl hm hp hv, hload, if_neg (by simp), if_pos hsrc]
    case nvm => rw [memInitDone_memInit hl hm hp hv, hload, if_neg (by simp), if_neg (by omega)]
    case again => rw [memInitDone_again hm]
    case zeroed => rw [loadFailZeroed_due hf hp hm]
    case nothing => rw [loadFailZeroed_none hf]

/-! ## The failure of a load (R58, R59) -/

/-- Settles O20: the record is raised on the state that has given the load up, and raising it changes neither start-up, fuses nor
memory. -/
theorem loadFails : Obligations.LoadFails := by
  unfold Obligations.LoadFails
  rintro s v w cause record offset hv hw
  have hsaved : (match s.boot.load with | some l => l.saved | none => []) = (s.boot.load.map (·.saved)).getD [] := by
    cases s.boot.load <;> rfl
  have hfail : s.loadFail cause record offset = State.raiseIbi { w with boot := { w.boot with phase := .failed } } 4 := by
    rw [← State.setPhase_failed, hw, hv, ← hsaved]
    rfl
  rw [hfail, hw]
  simp only [State.raiseIbi_boot, State.raiseIbi_sec, State.raiseIbi_mem, State.raise_boot, State.raise_sec, State.raise_mem,
    true_and]
  rw [hv]

/-! ## The header (R46, R47) -/

theorem exec_imageHeader (t : Nat) (data : List Byte) (sfdp : Option Sfdp) (s : State) :
    exec (.imageHeader t data sfdp) s = .next (imageHeader data sfdp (s.advance t)) := rfl

theorem imageHeader_notDue {s : State} (h : s.headerDue = none) (data : List Byte) (sfdp : Option Sfdp) :
    imageHeader data sfdp s = s := by simp [imageHeader, h]

/-- Opening an NVM sets how it is read, and nothing else of start-up. -/
theorem State.nvmOpen_boot (s : State) (sfdp : Option Sfdp) :
    (s.nvmOpen sfdp).boot = { s.boot with nvm := nvmOf s.boot.src sfdp, fallback := (nvmOf s.boot.src sfdp).mode == .single } := rfl

/-- Reading a header leaves STATE and the state of the memories alone. -/
theorem State.headerRead_phase (k : State) (sfdp : Option Sfdp) (off n : Nat) (p q : Prop) [Decidable p] [Decidable q] :
    (if p then k else (if q then k.nvmOpen sfdp else k).nvmRead off n).boot.phase = k.boot.phase
    ∧ (if p then k else (if q then k.nvmOpen sfdp else k).nvmRead off n).boot.memDone = k.boot.memDone := by
  split
  · exact ⟨rfl, rfl⟩
  · rw [State.nvmRead_boot]
    split
    · rw [State.nvmOpen_boot]; exact ⟨rfl, rfl⟩
    · exact ⟨rfl, rfl⟩

/-- A header that is awaited: the load fails with the cause of the first check that fails, or begins. -/
theorem imageHeader_due {s v k w : State} {cause : Nat} {data h : List Byte} {sfdp : Option Sfdp} {dead : Bool}
    (hdue : s.headerDue = some v) (hh : h = if 2 ≤ v.boot.src then v.rd stageBase 0x200 else slice data 0 0x200)
    (hdead : dead = (v.boot.rearm.isSome && decide (v.boot.src < 2) && v.gatedIn .run 8))
    (hk : k = { v with boot := { v.boot with attempts := min 255 (v.boot.attempts + 1), loadBytes := 0x200 } })
    (hw : w = if dead = true ∨ 2 ≤ v.boot.src then k else (if v.boot.slot = 0 then k.nvmOpen sfdp else k).nvmRead 0 0x200)
    (hcause : cause = if dead then 0xC else w.headerCause h) :
    imageHeader data sfdp s = if cause ≠ 0 then w.loadFail cause 0 0
      else if w.boot.phase = .rearming then w.startLoad h
      else (w.startLoad h).setPhase (if w.boot.memDone then .loading else .memInit) := by
  have hstaged : (!decide (2 ≤ v.boot.src)) = decide (v.boot.src < 2) := by rw [Bool.eq_iff_iff]; simp
  unfold imageHeader
  simp only [hdue, hstaged, ← hdead, ← hk, Bool.or_eq_true, decide_eq_true_eq, ← hh, ← hw, ← hcause, bne_iff_ne]
  rfl

end Sys2Proof.Machine

namespace Sys2Proof
open Machine

/-- Settles O19: reading the header leaves STATE and the memories' state alone, so that both are those of the state awaiting it. -/
theorem imageHeader : Obligations.ImageHeader := by
  unfold Obligations.ImageHeader
  rintro s u v k w t cause data h sfdp dead rfl
  rw [exec_imageHeader]
  refine ⟨fun hnone => by rw [imageHeader_notDue hnone], fun hdue hh hdead hk hw hcause => ?_⟩
  have hread := State.headerRead_phase k sfdp 0 0x200 (dead = true ∨ 2 ≤ v.boot.src) (v.boot.slot = 0)
  rw [← hw] at hread
  rw [hk] at hread
  obtain ⟨hphase, hmem⟩ : w.boot.phase = v.boot.phase ∧ w.boot.memDone = v.boot.memDone := hread
  rw [imageHeader_due hdue hh hdead hk hw hcause, hphase, hmem]
  refine ⟨fun hc => ?fails, fun hc hp => ?rearm, fun hc hp => ?starts⟩
  case fails => rw [if_pos hc]
  case rearm => rw [if_neg (not_not.2 hc), if_pos hp]
  case starts =>
    rw [if_neg (not_not.2 hc), if_neg hp]
    split <;> rfl

end Sys2Proof
end

section
/-! The records of an image (spec/02 R48 to R56, R64, R481): how a record is taken, and what each TYPE does once it is. -/

namespace Sys2Proof.Machine

/-! ## Taking a record (R48, R50, R53) -/

/-- Step 13 begins at LOCK and ARM records only. -/
theorem State.step13_other {typ : Nat} (hlock : typ ≠ 0x0F) (harm : typ ≠ 0x10) (s : State) (l : Load) : s.step13 l typ = s := by
  simp [State.step13, hlock, harm]

theorem State.takeRecord_notDue {s : State} (h : s.recordDue = none) (typ : Nat) (data : List Byte) :
    s.takeRecord typ data = (s, none) := by simp [State.takeRecord, h]

section
variable {s : State} {l : Load} {d : RecDesc} {data : List Byte}
  (hdue : s.recordDue = some l) (hd : d = readDesc (s.recordBytes l data 64))
include hdue hd

/-- R58: a descriptor that fails its checks ends the load once its 64 bytes are read. -/
theorem State.takeRecord_descriptorFails (hlock : d.typ ≠ 0x0F) (harm : d.typ ≠ 0x10) (hok : d.ok l = false) (typ : Nat) :
    s.takeRecord typ data
      = (State.recordFail { s.nvmRead l.offset 64 with boot := { s.boot with loadBytes := (s.boot.loadBytes + 64) % 2 ^ 32 } } 1,
          none) := by
  unfold State.takeRecord
  simp [hdue, ← hd, hok, State.step13_other hlock harm]

/-- A sound record of another TYPE is left alone. -/
theorem State.takeRecord_otherType {typ : Nat} (hok : d.ok l = true) (ht : d.typ ≠ typ) : s.takeRecord typ data = (s, none) := by
  unfold State.takeRecord
  simp [hdue, ← hd, hok, ht]

/-- A sound record of the command's TYPE that is written nowhere as it arrives: its hash decides, then its tag. -/
theorem State.takeRecord_read {typ : Nat} {b pt : List Byte} {tag : Bool} {v : State} (hlock : d.typ ≠ 0x0F) (harm : d.typ ≠ 0x10)
    (hok : d.ok l = true) (ht : d.typ = typ) (h3 : typ ≠ 3) (hb : b = s.recordBytes l data d.total)
    (hp : payloadOf l d b = (pt, tag))
    (hv : v = { s.nvmRead l.offset d.total with boot := { s.boot with loadBytes := (s.boot.loadBytes + d.total) % 2 ^ 32 } }) :
    s.takeRecord typ data = if sha384 b ≠ l.expect then (v.recordFail 6, none)
      else if tag = false then (v.recordFail 7, none)
      else (v.putLoad { l with expect := d.next }, some ({ l with expect := d.next }, d, pt)) := by
  unfold State.takeRecord
  simp [hdue, ← hd, hok, ht ▸ State.step13_other hlock harm, ht, h3, ← hb, hp, hv]

end

/-- Settles O21: one law for each way in which a record is taken or not. -/
theorem recordTaken : Obligations.RecordTaken := by
  unfold Obligations.RecordTaken
  intro s v l d typ data b pt tag
  refine ⟨fun hnone => State.takeRecord_notDue hnone typ data, fun hdue hd hlock harm => ⟨fun hok => ?fails, fun hok ht => ?other,
    fun hok ht h3 hb hp hv => ?read⟩⟩
  case fails => exact State.takeRecord_descriptorFails hdue hd hlock harm hok typ
  case other => exact State.takeRecord_otherType hdue hd hok ht
  case read =>
    rw [State.takeRecord_read hdue hd hlock harm hok ht h3 hb hp hv]
    refine ⟨fun hne => if_pos hne, fun he htag => ?tag, fun he htag => ?accepted⟩
    case tag => rw [if_neg (not_not.2 he), if_pos htag]
    case accepted => rw [if_neg (not_not.2 he), if_neg (by simp [htag])]

/-! ## The records (R51, R53 to R56, R64) -/

theorem State.recordFail_load {s : State} {l : Load} (h : s.boot.load = some l) (cause : Nat) :
    s.recordFail cause = s.loadFail cause l.index l.offset := by simp [State.recordFail, h]

theorem State.recordDone_load {s : State} {l : Load} (h : s.boot.load = some l) (n : Nat) :
    s.recordDone n = { s with boot := { s.boot with
      load := some { l with index := l.index + 1, offset := l.offset + n, wait := none, delay := none } } } := by
  simp [State.recordDone, h]

theorem exec_regWrite (t : Nat) (data : List Byte) (s : State) : exec (.regWrite t data) s = .next (regWrite data (s.advance t)) := rfl
theorem exec_regBlock (t : Nat) (data : List Byte) (s : State) : exec (.regBlock t data) s = .next (regBlock data (s.advance t)) := rfl
theorem exec_memLoad (t : Nat) (data : List Byte) (s : State) : exec (.memLoad t data) s = .next (memLoad data (s.advance t)) := rfl
theorem exec_wait (t : Nat) (data : List Byte) (s : State) : exec (.wait t data) s = .next (imageWait data (s.advance t)) := rfl
theorem exec_waitTimeout (t : Nat) (s : State) : exec (.waitTimeout t) s = .next (waitTimeout (s.advance t)) := rfl
theorem exec_delay (t : Nat) (data : List Byte) (s : State) : exec (.delay t data) s = .next (imageDelay data (s.advance t)) := rfl
theorem exec_delayExpire (t : Nat) (s : State) : exec (.delayExpire t) s = .next (delayExpire (s.advance t)) := rfl
theorem exec_info (t : Nat) (data : List Byte) (s : State) : exec (.info t data) s = .next (imageInfo data (s.advance t)) := rfl
theorem exec_lock (t : Nat) (data : List Byte) (s : State) : exec (.lock t data) s = .next (imageLock data (s.advance t)) := rfl
theorem exec_arm (t : Nat) (data : List Byte) (s : State) : exec (.arm t data) s = imageArm data (s.advance t) := rfl

section
variable {s v : State} {l : Load} {d : RecDesc} {data pt : List Byte}

theorem regWrite_refused (h : s.takeRecord 1 data = (v, none)) : regWrite data s = v := by simp [regWrite, h]

theorem regBlock_refused (h : s.takeRecord 2 data = (v, none)) : regBlock data s = v := by simp [regBlock, h]

theorem regWrite_accepted (h : s.takeRecord 1 data = (v, some (l, d, pt))) :
    regWrite data s
      = v.regRecord d ((List.range (d.count / 8)).map (fun i => (leAt pt (8 * i) 4, wd (leAt pt (8 * i + 4) 4)))) := by
  simp [regWrite, h]

theorem regBlock_accepted (h : s.takeRecord 2 data = (v, some (l, d, pt))) :
    regBlock data s = v.regRecord d ((List.range (d.count / 4)).map (fun i => (d.target + 4 * i, wd (leAt pt (4 * i) 4)))) := by
  simp [regBlock, h]

/-- R56: the target of an encrypted MEM_LOAD joins the protected ranges, of which there may be 64. -/
theorem memLoad_accepted {a : Nat} (h : s.takeRecord 3 data = (v, some (l, d, pt))) (ha : loadAddr d.target d.count = some a) :
    memLoad data s = if d.enc then
        if 64 < (addRange { lo := a, hi := a + d.count } l.ranges).length then v.recordFail 0xA
        else (v.putLoad { l with ranges := addRange { lo := a, hi := a + d.count } l.ranges }).recordDone d.total
      else v.recordDone d.total := by
  simp [memLoad, h, ha]

theorem imageWait_accepted {w : WaitRec} (h : s.takeRecord 4 data = (v, some (l, d, pt)))
    (hw : w = { addr := leAt pt 0 4, mask := leAt pt 4 4, value := leAt pt 8 4, timeout := leAt pt 12 4, ticks := 0 }) :
    imageWait data s = if 1_000_000 < w.timeout then v.recordFail 1 else (v.putLoad { l with wait := some w }).waitPoll := by
  simp [imageWait, h, hw]

theorem imageDelay_accepted (h : s.takeRecord 5 data = (v, some (l, d, pt))) :
    imageDelay data s = v.putLoad { l with delay := some (v.now + d.target * 1000) } := by simp [imageDelay, h]

theorem imageInfo_accepted (h : s.takeRecord 0x0E data = (v, some (l, d, pt))) : imageInfo data s = v.recordDone d.total := by
  simp [imageInfo, h]

theorem imageLock_accepted (h : s.takeRecord 0x0F data = (v, some (l, d, pt))) :
    imageLock data s = (v.putLoad { l with seenLock := true, lockBits := l.lockBits ||| d.target }).recordDone d.total := by
  simp [imageLock, h]

theorem imageArm_refused (h : s.takeRecord 0x10 data = (v, none)) : imageArm data s = .next v := by simp [imageArm, h]

theorem imageArm_accepted {w : State} (h : s.takeRecord 0x10 data = (v, some (l, d, pt)))
    (hw : w = (v.putLoad { l with key := 0 }).runChecks) :
    imageArm data s = if w.boot.armCheck ≠ 0 then .next (w.recordFail 1)
      else if w.clocksOk then .next (w.step14 l (nbit d.target 0)) else .fault .clockLimitBroken := by
  simp [imageArm, h, hw]

end

theorem waitTimeout_due {s : State} {l : Load} {w : WaitRec} (hl : s.held = false) (hload : s.boot.load = some l)
    (hw : l.wait = some w) (ht : w.timeout ≤ w.ticks) : waitTimeout s = s.loadFail 9 l.index l.offset := by
  simp [waitTimeout, State.live, hl, hload, hw, ht, State.recordFail_load hload]

theorem delayExpire_due {s : State} {l : Load} {e : Nat} (hl : s.held = false) (hload : s.boot.load = some l)
    (hd : l.delay = some e) (he : e ≤ s.now) : delayExpire s = s.recordDone 64 := by
  simp [delayExpire, State.live, hl, hload, hd, he]

theorem waitTimeout_unloaded {s : State} (h : s.boot.load = none) : waitTimeout s = s := by simp [waitTimeout, h]

theorem delayExpire_unloaded {s : State} (h : s.boot.load = none) : delayExpire s = s := by simp [delayExpire, h]

/-- Settles O22, TYPE by TYPE through the law of an accepted record. -/
theorem imageRecords : Obligations.ImageRecords := by
  unfold Obligations.ImageRecords
  refine ⟨?registers, ?others⟩
  case registers =>
    rintro s u v t data pt l d ws rfl
    rw [exec_regWrite, exec_regBlock]
    refine ⟨fun h => ?pairsRefused, fun h => ?blockRefused, fun h hws => ?pairs, fun h hws => ?block⟩
    case pairsRefused => rw [regWrite_refused h]
    case blockRefused => rw [regBlock_refused h]
    case pairs => rw [regWrite_accepted h, ← hws]; rfl
    case block => rw [regBlock_accepted h, ← hws]; rfl
  case others =>
    rintro s u v t e a data pt l d w rfl
    rw [exec_memLoad, exec_wait, exec_waitTimeout, exec_delay, exec_delayExpire, exec_info, exec_lock]
    refine ⟨fun h ha => ?memory, fun h hw => ?wait, fun hl hload hw ht => ?timeout, fun h => ?delay, fun hl hload hd he => ?expire,
      fun h => ?info, fun h => ?lock, fun hload => ?unloaded⟩
    case memory =>
      rw [memLoad_accepted h ha]
      refine ⟨fun henc => ?plain, fun henc hfit => ?fits, fun henc hfull => ?full⟩
      case plain => rw [if_neg (by simp [henc])]
      case fits => rw [if_pos henc, if_neg (by omega)]
      case full => rw [if_pos henc, if_pos hfull]
    case wait =>
      rw [imageWait_accepted h hw]
      exact ⟨fun hle => by rw [if_neg (by omega)], fun hlt => by rw [if_pos hlt]⟩
    case timeout => rw [waitTimeout_due hl hload hw ht]
    case delay => rw [imageDelay_accepted h]
    case expire => rw [delayExpire_due hl hload hd he, State.recordDone_load hload]
    case info => rw [imageInfo_accepted h]
    case lock => rw [imageLock_accepted h]
    case unloaded => rw [waitTimeout_unloaded hload, delayExpire_unloaded hload]; exact ⟨rfl, rfl⟩

/-- Settles O23: the outcome of an accepted ARM turns on the load-time checks, then on the clock limits. -/
theorem armRecord : Obligations.ArmRecord := by
  unfold Obligations.ArmRecord
  rintro s u v w t data pt l d rfl
  rw [exec_arm]
  refine ⟨imageArm_refused, fun h hw => ?_⟩
  rw [imageArm_accepted h hw]
  refine ⟨fun hc => if_pos hc, fun hc hok => ?armed, fun hc hbad => ?stops⟩
  case armed => rw [if_neg (not_not.2 hc), if_pos hok]
  case stops => rw [if_neg (not_not.2 hc), if_neg (by simp [hbad])]

end Sys2Proof.Machine
end

section
/-! Step 14 (spec/02 R57, R482; spec/14 R384): the units start afresh, and nothing that follows within the step touches what it has
set of start-up, fences, frames, signals and work counters. -/

namespace Sys2Proof.Machine

/-- No outbound read can end with the link: it is down, or none is outstanding. -/
def State.linkQuiet (s : State) : Prop := s.host.linkUp = false ∨ s.host.reads = []

/-- What the start of the units leaves alone once it has been set: start-up, the fences, frames, signals, work counters, and a link
without outstanding reads. -/
structure KeepsArmed (z u : State) : Prop where
  boot : u.boot = z.boot
  fencedCores : u.flt.cores = z.flt.cores
  fencedCtxs : u.flt.ctxs = z.flt.ctxs
  fencedDies : u.flt.dies = z.flt.dies
  flights : u.flights = z.flights
  signals : u.signals = z.signals
  wctrs : u.wctrs = z.wctrs
  quiet : z.linkQuiet → u.linkQuiet

theorem KeepsArmed.refl (z : State) : KeepsArmed z z := ⟨rfl, rfl, rfl, rfl, rfl, rfl, rfl, id⟩

theorem KeepsArmed.trans {z u v : State} (h : KeepsArmed z u) (k : KeepsArmed u v) : KeepsArmed z v :=
  ⟨k.boot.trans h.boot, k.fencedCores.trans h.fencedCores, k.fencedCtxs.trans h.fencedCtxs, k.fencedDies.trans h.fencedDies,
    k.flights.trans h.flights, k.signals.trans h.signals, k.wctrs.trans h.wctrs, fun q => k.quiet (h.quiet q)⟩

/-- An update of the other fields. -/
theorem KeepsArmed.upd {z u v : State} (h : KeepsArmed z u) (hb : v.boot = u.boot) (hf : v.flt = u.flt) (hl : v.flights = u.flights)
    (hs : v.signals = u.signals) (hw : v.wctrs = u.wctrs) (hh : v.host = u.host) : KeepsArmed z v :=
  h.trans ⟨hb, by rw [hf], by rw [hf], by rw [hf], hl, hs, hw, by rw [State.linkQuiet, State.linkQuiet, hh]; exact id⟩

theorem KeepsArmed.ite {z a b : State} {c : Prop} [Decidable c] (ha : KeepsArmed z a) (hb : KeepsArmed z b) :
    KeepsArmed z (if c then a else b) := by split <;> assumption

theorem KeepsArmed.foldl {α : Type} {z s : State} {f : State → α → State} {l : List α} (h : KeepsArmed z s)
    (hf : ∀ u x, KeepsArmed z u → KeepsArmed z (f u x)) : KeepsArmed z (l.foldl f s) := by
  induction l generalizing s with
  | nil => exact h
  | cons x l ih => exact ih (hf s x h)

/-- Reporting a fault fences nothing. -/
theorem Reports.keepsArmed {z u : State} (h : Reports z u) : KeepsArmed z u := by
  refine ⟨h.boot, ?_, ?_, ?_, ?_, ?_, ?_, ?_⟩
  · rw [h.flt]
  · rw [h.flt]
  · rw [h.flt]
  · rw [h.rest]
  · rw [h.rest]
  · rw [h.rest]
  · rw [State.linkQuiet, State.linkQuiet, h.host]; exact id

section
variable {z s : State} (h : KeepsArmed z s)
include h

theorem State.bumpHost_keepsArmed (i : Nat) : KeepsArmed z (s.bumpHost i) := h.trans (State.bumpHost_reports (.refl s) i).keepsArmed

theorem State.raiseIbi_keepsArmed (c : Nat) : KeepsArmed z (s.raiseIbi c) := h.trans (State.raiseIbi_reports (.refl s) c).keepsArmed

/-! ## Memory and the parameter sets -/

theorem State.wr_keepsArmed (a : Nat) (bs : List Byte) : KeepsArmed z (s.wr a bs) := by
  unfold State.wr
  refine .ite h (.foldl (h.upd rfl rfl rfl rfl rfl rfl) fun u w hu => ?_)
  exact hu.trans (State.raise_reports (.refl u) _).keepsArmed

theorem State.zero_keepsArmed (lo hi : Nat) : KeepsArmed z (s.zero lo hi) := h.upd rfl rfl rfl rfl rfl rfl

theorem State.psStart_keepsArmed : KeepsArmed z s.psStart := by
  unfold State.psStart
  refine .foldl (h.upd rfl rfl rfl rfl rfl rfl) fun u src hu => ?_
  exact (State.wr_keepsArmed hu _ _).upd rfl rfl rfl rfl rfl rfl

theorem State.powerDies_keepsArmed : KeepsArmed z s.powerDies := by
  unfold State.powerDies
  refine .ite (h.upd rfl rfl rfl rfl rfl rfl) (.foldl (h.upd rfl rfl rfl rfl rfl rfl) fun u e hu => ?_)
  exact State.zero_keepsArmed (State.zero_keepsArmed (State.zero_keepsArmed hu _ _) _ _) _ _

/-! ## Ports, messages and cores -/

theorem State.txArm_keepsArmed : KeepsArmed z s.txArm := by
  unfold State.txArm
  refine .foldl h fun u n hu => ?_
  exact .ite (hu.upd rfl rfl rfl rfl rfl rfl) (.ite (hu.upd rfl rfl rfl rfl rfl rfl) (hu.upd rfl rfl rfl rfl rfl rfl))

theorem State.flushMsgs_keepsArmed : KeepsArmed z s.flushMsgs := by
  unfold State.flushMsgs
  refine .foldl (h.trans ⟨rfl, rfl, rfl, rfl, rfl, rfl, rfl, id⟩) fun u m hu => ?_
  exact hu.trans (State.putMsix_reports (.refl u) _).keepsArmed

theorem State.paceWaits_keepsArmed (n : Nat) : KeepsArmed z (s.paceWaits n) := by
  unfold State.paceWaits
  exact .ite h (h.upd rfl rfl rfl rfl rfl rfl)

theorem State.probeStops_keepsArmed (n : Nat) : KeepsArmed z (s.probeStops n) := by
  unfold State.probeStops
  exact .ite (h.upd rfl rfl rfl rfl rfl rfl) h

theorem State.putCore_keepsArmed (n : Nat) (c : CoreS) : KeepsArmed z (s.putCore n c) := h.upd rfl rfl rfl rfl rfl rfl

theorem State.pick_keepsArmed (n : Nat) : KeepsArmed z (s.pick n) := by
  unfold State.pick
  dsimp only
  split
  · unfold State.coreWaits
    exact .ite (State.paceWaits_keepsArmed (State.putCore_keepsArmed h n _) n) h
  · have hstop (c : CoreS) := State.probeStops_keepsArmed (State.putCore_keepsArmed h n c) n
    exact .ite (hstop _) (State.paceWaits_keepsArmed (hstop _) n)

theorem State.wake_keepsArmed (n : Nat) : KeepsArmed z (s.wake n) := by
  unfold State.wake
  exact .ite (State.probeStops_keepsArmed (.ite (State.putCore_keepsArmed h n _) h) n) (State.pick_keepsArmed h n)

theorem State.wakeAll_keepsArmed : KeepsArmed z s.wakeAll := .foldl h fun _ e hu => State.wake_keepsArmed hu e.1

theorem State.clearLast_keepsArmed : KeepsArmed z s.clearLast := h.upd rfl rfl rfl rfl rfl rfl

theorem State.dropImageCmds_keepsArmed : KeepsArmed z s.dropImageCmds := h.upd rfl rfl rfl rfl rfl rfl

theorem State.regArm_keepsArmed : KeepsArmed z s.regArm := h.upd rfl rfl rfl rfl rfl rfl

theorem State.dmaArm_keepsArmed : KeepsArmed z s.dmaArm := h.upd rfl rfl rfl rfl rfl rfl

theorem State.classify_keepsArmed : KeepsArmed z s.classify := h.upd rfl rfl rfl rfl rfl rfl

/-- The start of the units from registers to cores, in the order of step 14. -/
theorem State.startUnits_keepsArmed : KeepsArmed z
    (s.clearLast.psStart.dropImageCmds.regArm.txArm.dmaArm.classify).flushMsgs.wakeAll := by
  have hsets := State.psStart_keepsArmed (State.clearLast_keepsArmed h)
  have hports := State.txArm_keepsArmed (State.regArm_keepsArmed (State.dropImageCmds_keepsArmed hsets))
  have hparts := State.classify_keepsArmed (State.dmaArm_keepsArmed hports)
  exact State.wakeAll_keepsArmed (State.flushMsgs_keepsArmed hparts)

/-! ## Gates, supply and fuses -/

/-- With no read outstanding nothing is fenced when the link goes down. -/
theorem State.linkDown_keepsArmed (hq : s.linkQuiet) : KeepsArmed z s.linkDown := by
  unfold State.linkDown
  cases hu : s.host.linkUp with
  | false => exact h
  | true =>
    have hreads : s.host.reads = [] := hq.resolve_left (by simp [hu])
    rw [if_neg (by simp), hreads]
    refine State.bumpHost_keepsArmed (s := State.dropInbound _) (h.trans ?_) 4
    exact ⟨rfl, rfl, rfl, rfl, rfl, rfl, rfl, fun _ => .inl rfl⟩

theorem State.applyGates_keepsArmed (hq : s.linkQuiet) : KeepsArmed z s.applyGates := by
  unfold State.applyGates
  exact .ite (State.linkDown_keepsArmed (h.upd rfl rfl rfl rfl rfl rfl) hq) (h.upd rfl rfl rfl rfl rfl rfl)

theorem State.updTarget_keepsArmed : KeepsArmed z s.updTarget := by
  unfold State.updTarget
  exact .ite h (h.upd rfl rfl rfl rfl rfl rfl)

theorem State.fuseNext_keepsArmed : KeepsArmed z s.fuseNext := by
  unfold State.fuseNext
  split <;> exact h.upd rfl rfl rfl rfl rfl rfl

theorem State.fuseWork_keepsArmed : KeepsArmed z s.fuseWork := by
  unfold State.fuseWork
  refine .ite h ?_
  split
  · split
    · exact h.upd rfl rfl rfl rfl rfl rfl
    · exact State.fuseNext_keepsArmed (h.upd rfl rfl rfl rfl rfl rfl)
  · exact State.fuseNext_keepsArmed h

end

/-! ## Step 14 -/

/-- No fence, frame, signal or work counter (R384). -/
def State.unitsFresh (s : State) : State :=
  { s with flt := { s.flt with cores := [], ctxs := [], dies := [] }, flights := [], signals := [], wctrs := [] }

/-- Step 14 ends every fence, frame, signal and work counter; the rest of the start of the units leaves that so. -/
theorem State.armUnits_keepsArmed (s : State) : KeepsArmed s.unitsFresh s.armUnits := by
  unfold State.armUnits
  exact State.startUnits_keepsArmed ((KeepsArmed.refl _).upd rfl rfl rfl rfl rfl rfl)

theorem State.setPhase_armedWait (s : State) :
    s.setPhase .armedWait = State.raiseIbi { s with boot := { s.boot with phase := .armedWait } } 4 := rfl

/-- The start-up state that step 14 leaves (R57, R482). -/
def State.armedBoot (s : State) (l : Load) : Boot :=
  { s.boot with
    load := none, pushed := false, rearm := none, wasRearm := false, locks := s.boot.locks ||| l.lockBits, ranges := l.ranges
    profile := fld (s.rget 0x20) 0 2, svn := l.hdr.svn, build := l.hdr.buildId
    loadTime := min ((s.now - s.boot.since) / 1000) m32, phase := .armedWait }

/-- Step 14 without START: what it sets, as a state that the rest of the step keeps. -/
theorem State.step14_keepsArmed {s : State} (hq : s.linkQuiet) (l : Load) :
    KeepsArmed { s.unitsFresh with boot := s.armedBoot l } (s.step14 l false) := by
  unfold State.step14
  dsimp only
  generalize hp : State.setPhase _ Phase.armedWait = p
  have hset : KeepsArmed { s with boot := s.armedBoot l } p := by
    rw [← hp, State.setPhase_armedWait]
    refine State.raiseIbi_keepsArmed ?_ 4
    exact ⟨rfl, rfl, rfl, rfl, rfl, rfl, rfl, id⟩
  have hdies := State.powerDies_keepsArmed hset
  have hunits : KeepsArmed { s.unitsFresh with boot := s.armedBoot l } p.powerDies.unitsFresh :=
    ⟨hdies.boot, rfl, rfl, rfl, rfl, rfl, rfl, hdies.quiet⟩
  have hstart := hunits.trans p.powerDies.armUnits_keepsArmed
  exact State.fuseWork_keepsArmed (State.updTarget_keepsArmed (State.applyGates_keepsArmed hstart (hstart.quiet hq)))

/-- Settles O24: every field named is one that the start of the units keeps as step 14 has set it. -/
theorem stepFourteen : Obligations.StepFourteen := by
  unfold Obligations.StepFourteen
  rintro s v l rfl hq
  have h := State.step14_keepsArmed hq l
  rw [h.boot]
  exact ⟨rfl, rfl, rfl, rfl, rfl, rfl, rfl, h.fencedCores, h.fencedCtxs, h.fencedDies, h.flights, h.signals, h.wctrs⟩

end Sys2Proof.Machine
end

section
/-! Re-arm and the commands of BOOT_CTRL and the staging region (spec/02 R62, R63, R482; spec/11 R303; spec/18 R453). -/

namespace Sys2Proof.Machine

/-! ## Zeroed memory -/

/-- A byte of memory with an interval zeroed. -/
theorem memByte_memZero (m : List Host.Cell) (lo hi a : Nat) :
    memByte (memZero m lo hi) a = if lo ≤ a ∧ a < hi then 0 else memByte m a := by
  unfold memByte memZero
  induction m with
  | nil => simp [tget]
  | cons c m ih =>
    obtain ⟨k, b⟩ := c
    by_cases ha : a = k
    · subst ha
      by_cases hin : lo ≤ a ∧ a < hi
      · rw [if_pos hin] at ih ⊢
        rw [List.filter_cons_of_neg (by simpa using hin), ih]
      · rw [if_neg hin, List.filter_cons_of_pos (by simp only [Bool.or_eq_true, decide_eq_true_eq]; omega)]
        simp [tget]
    · rw [List.filter_cons]
      split <;> simp only [tget, if_neg ha, ih]

theorem State.memByte_zero (s : State) (lo hi a : Nat) :
    memByte (s.zero lo hi).mem a = if lo ≤ a ∧ a < hi then 0 else memByte s.mem a := memByte_memZero ..

/-- Every range zeroed, one after the other: a byte in one of them reads 0, another byte what it held. -/
theorem State.memByte_zeroRanges (rs : List Range) (s : State) (a : Nat) :
    memByte (rs.foldl (fun v g => v.zero g.lo g.hi) s).mem a
      = if ∃ g ∈ rs, g.lo ≤ a ∧ a < g.hi then 0 else memByte s.mem a := by
  induction rs generalizing s with
  | nil => simp
  | cons g rs ih =>
    rw [List.foldl_cons, ih, State.memByte_zero]
    by_cases hrest : ∃ g ∈ rs, g.lo ≤ a ∧ a < g.hi <;> simp [hrest]

theorem State.memByte_rearmZero (s : State) (a : Nat) :
    memByte s.rearmZero.mem a = if ∃ g ∈ s.boot.ranges, g.lo ≤ a ∧ a < g.hi then 0
      else if 0x8_0000_0000 ≤ a ∧ a < 0x10_1200_0000 then 0 else memByte s.mem a :=
  (State.memByte_zeroRanges s.boot.ranges _ a).trans (by rw [State.memByte_zero]; rfl)

/-! ## The steps of a re-arm (R63) -/

theorem exec_rearmStepDone (t : Nat) (s : State) : exec (.rearmStepDone t) s = .next (rearmStepDone (s.advance t)) := rfl
theorem exec_rearmDrainTimeout (t : Nat) (s : State) :
    exec (.rearmDrainTimeout t) s = .next (rearmDrainTimeout (s.advance t)) := rfl

theorem rearmStepDone_none {s : State} (h : s.boot.rearm = none) : rearmStepDone s = s := by simp [rearmStepDone, h]

theorem rearmDrainTimeout_none {s : State} (h : s.boot.rearm = none) : rearmDrainTimeout s = s := by simp [rearmDrainTimeout, h]

section
variable {s : State} {r : Rearm} (hl : s.held = false) (hr : s.boot.rearm = some r)

theorem State.setStep_rearm (hr : s.boot.rearm = some r) (st : RearmStep) :
    s.setStep st = { s with boot := { s.boot with rearm := some { r with step := st } } } := by simp [State.setStep, hr]

theorem rearmDrainTimeout_early (hr : s.boot.rearm = some r) (ht : s.now < r.since + 100_000_000) : rearmDrainTimeout s = s := by
  simp [rearmDrainTimeout, hr, ht]

include hl hr

theorem rearmStepDone_drain (hs : r.step = .drain) :
    rearmStepDone s = if s.flights = [] then s.stopTx.setStep .ports else s := by
  simp [rearmStepDone, State.live, hl, hr, hs, List.isEmpty_iff]

theorem rearmStepDone_ports (hs : r.step = .ports) :
    rearmStepDone s = if s.flights.isEmpty && s.dmaRests && s.tx.all (fun e => e.2.sending.isNone) then
      { s with boot := { s.boot with rearm := some { r with step := .zero } } } else s := by
  rw [← State.setStep_rearm hr]
  simp only [rearmStepDone, State.live, hl, hr, hs]
  rfl

theorem rearmStepDone_zero (hs : r.step = .zero) : rearmStepDone s = s.rearmZero.setStep .image := by
  simp [rearmStepDone, State.live, hl, hr, hs]

theorem rearmStepDone_image (hs : r.step = .image) : rearmStepDone s = s := by
  simp [rearmStepDone, State.live, hl, hr, hs]

/-- 100 ms after the request the drain is cut off. -/
theorem rearmDrainTimeout_due (hs : r.step = .drain) (ht : r.since + 100_000_000 ≤ s.now) :
    rearmDrainTimeout s = State.setStep (State.stopTx (State.cancelStreams ((List.range 32).foldl (fun v c =>
      if v.chKind c = 2 && (v.chan c).jobs != [] then v.abortChan c 2 else v) (s.stopFrames false)))) .ports := by
  simp only [rearmDrainTimeout, hr]
  rw [if_neg (by simp [State.live, hl, hs, ht])]

end

/-- Settles O27, step by step; what the zeroing step leaves is read off one byte of memory. -/
theorem rearmSteps : Obligations.RearmSteps := by
  unfold Obligations.RearmSteps
  rintro s u t r rfl hl
  rw [exec_rearmStepDone, exec_rearmDrainTimeout]
  refine ⟨fun hnone => ?none, fun hr => ⟨fun hs => ?drain, fun hs => ?ports,
    fun hs => ⟨?zero, fun a ha => ?outside, fun a g hg hlo hhi => ?range⟩, fun hs => ?image, fun hs ht => ?early,
    fun hs ht => ?late⟩⟩
  case none => rw [rearmStepDone_none hnone, rearmDrainTimeout_none hnone]; exact ⟨rfl, rfl⟩
  case drain => rw [rearmStepDone_drain hl hr hs]
  case ports => rw [rearmStepDone_ports hl hr hs]
  case zero => rw [rearmStepDone_zero hl hr hs]
  case outside =>
    by_contra hin
    refine ha ?_
    rw [State.memByte_rearmZero, if_pos (c := 0x8_0000_0000 ≤ a ∧ _) (by omega), ite_self]
  case range => rw [State.memByte_rearmZero, if_pos ⟨g, hg, hlo, hhi⟩]
  case image => rw [rearmStepDone_image hl hr hs]
  case early => rw [rearmDrainTimeout_early hr ht]
  case late => rw [rearmDrainTimeout_due hl hr hs ht]

/-! ## BOOT_CTRL (Table 2.11) -/

theorem State.takes.up {s : State} {p : Path} {a : Nat} (h : s.takes p a) : s.held = false := by
  obtain ⟨-, hup, -⟩ := h
  exact hup

@[simp] theorem State.linkRx_boot (s : State) (p : Path) : (s.linkRx p).boot = s.boot := by unfold State.linkRx; split <;> rfl

@[simp] theorem State.linkRx_held (s : State) (p : Path) : (s.linkRx p).held = s.held := by unfold State.linkRx; split <;> rfl

/-- The row of BOOT_CTRL: REARM_MODE and REARM_SRC, of which lock bit 3 protects the source. -/
def bootCtrlRow : RegRow := ⟨0x3_0010, [], 0x34, 0, 0, .any, some (3, 0x30), 0⟩

theorem rowOf_bootCtrl : rowOf 0x3_0010 = some bootCtrlRow := rfl

theorem and_mod_64 (x : Nat) {m : Nat} (hm : m < 64) : x &&& m = (x % 64) &&& m := by
  have hlt : x &&& m < 2 ^ 6 := lt_of_le_of_lt Nat.and_le_right hm
  rw [← Nat.mod_eq_of_lt hlt, Nat.and_mod_two_pow, Nat.mod_eq_of_lt (show m < 2 ^ 6 from hm)]

/-- The fields of BOOT_CTRL as digits: bit 2 is REARM_MODE, bits 5 and 4 REARM_SRC. -/
theorem bootCtrl_fields (x : Nat) :
    x &&& 4 = 4 * (x / 4 % 2) ∧ x &&& 0x30 = 16 * (x / 16 % 4) ∧ x &&& 0x34 = 4 * (x / 4 % 2) + 16 * (x / 16 % 4) := by
  have hsmall : ∀ y < 64, y &&& 4 = 4 * (y / 4 % 2) ∧ y &&& 0x30 = 16 * (y / 16 % 4)
      ∧ y &&& 0x34 = 4 * (y / 4 % 2) + 16 * (y / 16 % 4) := by decide
  obtain ⟨hmode, hsrc, hboth⟩ := hsmall (x % 64) (Nat.mod_lt _ (by decide))
  rw [and_mod_64 x (m := 4) (by decide), and_mod_64 x (m := 0x30) (by decide), and_mod_64 x (m := 0x34) (by decide), hmode,
    hsrc, hboth]
  omega

/-- The word that a write stores in BOOT_CTRL: MODE is written, and SRC where no lock protects it. -/
def State.bootCtrlNew (s : State) (w : Word) : Word :=
  let m := if nbit s.boot.locks 3 then 4 else 0x34
  wd (((s.rget 0x3_0010).toNat - ((s.rget 0x3_0010).toNat &&& m)) + (w.toNat &&& m))

theorem State.rawVal_bootCtrl (s : State) : s.rawVal 0x3_0010 = some (s.rget 0x3_0010) := rfl

theorem State.putRaw_bootCtrl (s : State) (w : Word) : s.putRaw 0x3_0010 w = s.rput 0x3_0010 w := rfl

theorem State.writeSpecial_bootCtrl (s : State) (p : Path) (w : Word) : s.writeSpecial p 0x3_0010 w = none := rfl

/-- A write that keeps SRC breaks no lock. -/
theorem State.lockBroken_bootCtrl {s : State} {w : Word} (h : (s.rget 0x3_0010).toNat &&& 0x30 = w.toNat &&& 0x30) :
    s.lockBroken 0x3_0010 w = none := by
  simp only [State.lockBroken, rowOf_bootCtrl, State.rawVal_bootCtrl, State.rowLock, bootCtrlRow]
  split
  · simp_all
  · rfl

theorem State.writeHere_bootCtrl (s : State) (p : Path) (w : Word) :
    s.writeHere p 0x3_0010 w = (s.rput 0x3_0010 (s.bootCtrlNew w)).bootActions p w := by
  have hshut : s.windowShut p 0x3_0010 = false := by simp [State.windowShut]
  cases hb : nbit s.boot.locks 3 <;>
    simp [State.writeHere, rowOf_bootCtrl, hshut, State.writeSpecial_bootCtrl, State.writePlain, State.rawVal_bootCtrl,
      State.putRaw_bootCtrl, State.bootCtrlNew, State.rowLock, State.gateOpen, bootCtrlRow, keepsRaw, hb]

/-- With SRC kept, MODE is what changes. -/
theorem State.bootCtrlNew_toNat {s : State} {w : Word} (h : (s.rget 0x3_0010).toNat &&& 0x30 = w.toNat &&& 0x30) :
    (s.bootCtrlNew w).toNat = (s.rget 0x3_0010).toNat - ((s.rget 0x3_0010).toNat &&& 4) + (w.toNat &&& 4) := by
  have hlt := (s.rget 0x3_0010).isLt
  obtain ⟨hmode, hsrc, hboth⟩ := bootCtrl_fields (s.rget 0x3_0010).toNat
  obtain ⟨hmode', hsrc', hboth'⟩ := bootCtrl_fields w.toNat
  rw [hsrc, hsrc'] at h
  simp only [State.bootCtrlNew, wd, BitVec.toNat_ofNat]
  split
  · rw [hmode, hmode']; omega
  · rw [hmode, hmode', hboth, hboth']; omega

/-- A write of BOOT_CTRL by software that keeps SRC: the fields are stored, then the actions run. -/
theorem State.writeIn_bootCtrl {s v : State} {p : Path} {w : Word} (ht : s.takes p 0x3_0010) (hv : v = s.linkRx p)
    (h : (v.rget 0x3_0010).toNat &&& 0x30 = w.toNat &&& 0x30) :
    s.writeIn p 0x3_0010 w = ((v.rput 0x3_0010 (v.bootCtrlNew w)).bootActions p w).noteEvt v.evtStatus := by
  obtain ⟨hp, -, hup, hw⟩ := ht
  subst hv
  rw [State.writeIn_up hp hup, State.writeReg, if_neg (by simp [hw])]
  simp only [State.lockBroken_bootCtrl h, State.writeHere_bootCtrl]

theorem bit_iff (w : Word) (i : Nat) : bit w i = true ↔ w.toNat / 2 ^ i % 2 = 1 := by
  simp [bit, nbit, Nat.shiftRight_eq_div_pow]

theorem fld_eq (w : Word) (lo len : Nat) : fld w lo len = w.toNat / 2 ^ lo % 2 ^ len := by
  simp [fld, nfld, Nat.shiftRight_eq_div_pow]

/-- The word of a command that writes the fields as they are. -/
theorem bootCtrl_command {c : Nat} (hc : c ≤ 0x100) (x : Nat) :
    (wd (c + (x &&& 0x34))).toNat = c + 4 * (x / 4 % 2) + 16 * (x / 16 % 4) := by
  rw [wd, BitVec.toNat_ofNat, (bootCtrl_fields x).2.2]
  omega

/-- The word of REARM. -/
theorem bootCtrl_rearm (ab : Bool) (x : Nat) :
    (wd (2 + 4 * b2n ab + (x &&& 0x30))).toNat = 2 + 4 * b2n ab + 16 * (x / 16 % 4) := by
  have hab : b2n ab ≤ 1 := by cases ab <;> decide
  rw [wd, BitVec.toNat_ofNat, (bootCtrl_fields x).2.1]
  omega

/-! ## The commands -/

theorem exec_go (t : Nat) (p : Path) (s : State) :
    exec (.go t p) s = .next ((s.advance t).writeIn p 0x3_0010 (wd (1 + (((s.advance t).rget 0x3_0010).toNat &&& 0x34)))) := rfl
theorem exec_pushGo (t : Nat) (p : Path) (s : State) :
    exec (.pushGo t p) s
      = .next ((s.advance t).writeIn p 0x3_0010 (wd (0x100 + (((s.advance t).rget 0x3_0010).toNat &&& 0x34)))) := rfl
theorem exec_rearm (t : Nat) (p : Path) (ab : Bool) (s : State) :
    exec (.rearm t p ab) s
      = .next ((s.advance t).writeIn p 0x3_0010 (wd (2 + 4 * b2n ab + (((s.advance t).rget 0x3_0010).toNat &&& 0x30)))) := rfl
theorem exec_stageData (t : Nat) (p : Path) (w : Word) (s : State) :
    exec (.stageData t p w) s = .next ((s.advance t).writeIn p 0x3_001C w) := rfl

/-- A command that writes the fields of BOOT_CTRL as they are leaves them so; its action bit acts. -/
theorem State.writeIn_bootCommand {s v : State} {p : Path} {c : Nat} (ht : s.takes p 0x3_0010) (hv : v = s.linkRx p)
    (hc : c = 1 ∨ c = 0x100) :
    s.writeIn p 0x3_0010 (wd (c + ((s.rget 0x3_0010).toNat &&& 0x34)))
      = ((v.rput 0x3_0010 (s.rget 0x3_0010)).bootActions p (wd (c + ((s.rget 0x3_0010).toNat &&& 0x34)))).noteEvt v.evtStatus := by
  have hget : v.rget 0x3_0010 = s.rget 0x3_0010 := by rw [hv, State.linkRx_rget s p (by decide) (by decide)]
  generalize hw : wd (c + ((s.rget 0x3_0010).toNat &&& 0x34)) = w
  have hword : w.toNat = c + 4 * ((s.rget 0x3_0010).toNat / 4 % 2) + 16 * ((s.rget 0x3_0010).toNat / 16 % 4) := by
    rw [← hw, bootCtrl_command (by omega)]
  have hsrc : (v.rget 0x3_0010).toNat &&& 0x30 = w.toNat &&& 0x30 := by
    rw [hget, (bootCtrl_fields _).2.1, (bootCtrl_fields _).2.1, hword]; omega
  have hnew : v.bootCtrlNew w = s.rget 0x3_0010 := by
    apply BitVec.eq_of_toNat_eq
    rw [State.bootCtrlNew_toNat hsrc, hget, (bootCtrl_fields _).1, (bootCtrl_fields _).1, hword]
    omega
  rw [State.writeIn_bootCtrl ht hv hsrc, hnew]

theorem State.bootActions_go {s : State} {w : Word} (h0 : bit w 0 = true) (h1 : ¬ bit w 1 = true) (h8 : ¬ bit w 8 = true)
    (p : Path) : s.bootActions p w = s.bootGo := by simp [State.bootActions, h0, h1, h8]

theorem State.bootActions_push {s : State} {w : Word} (h0 : ¬ bit w 0 = true) (h1 : ¬ bit w 1 = true) (h8 : bit w 8 = true)
    (p : Path) : s.bootActions p w = s.pushGo p := by simp [State.bootActions, h0, h1, h8]

theorem State.bootActions_rearm {s : State} {w : Word} (h0 : ¬ bit w 0 = true) (h1 : bit w 1 = true) (h8 : ¬ bit w 8 = true)
    (p : Path) : s.bootActions p w = s.rearmRequest (bit (s.rget 0x3_0010) 2) (fld (s.rget 0x3_0010) 4 2) := by
  simp [State.bootActions, h0, h1, h8]

theorem State.bootGo_up {s : State} (h : s.held = false) :
    s.bootGo = if s.boot.phase = .armedWait then s.runNow else s := by simp [State.bootGo, State.live, h]

section
variable {u v : State} {p : Path} (ht : u.takes p 0x3_0010) (hv : v = u.linkRx p)
include ht hv

theorem State.go_takes :
    u.writeIn p 0x3_0010 (wd (1 + ((u.rget 0x3_0010).toNat &&& 0x34)))
      = State.noteEvt (let w := v.rput 0x3_0010 (u.rget 0x3_0010)
        if u.boot.phase = .armedWait then w.runNow else w) v.evtStatus := by
  have hword := bootCtrl_command (c := 1) (by decide) (u.rget 0x3_0010).toNat
  have hup : (v.rput 0x3_0010 (u.rget 0x3_0010)).held = false := by simpa [hv] using ht.up
  rw [State.writeIn_bootCommand ht hv (.inl rfl), State.bootActions_go (by rw [bit_iff, hword]; omega)
    (by rw [bit_iff, hword]; omega) (by rw [bit_iff, hword]; omega), State.bootGo_up hup, State.rput_boot, hv, State.linkRx_boot]

theorem State.pushGo_takes :
    u.writeIn p 0x3_0010 (wd (0x100 + ((u.rget 0x3_0010).toNat &&& 0x34)))
      = ((v.rput 0x3_0010 (u.rget 0x3_0010)).pushGo p).noteEvt v.evtStatus := by
  have hword := bootCtrl_command (c := 0x100) (by decide) (u.rget 0x3_0010).toNat
  rw [State.writeIn_bootCommand ht hv (.inr rfl), State.bootActions_push (by rw [bit_iff, hword]; omega)
    (by rw [bit_iff, hword]; omega) (by rw [bit_iff, hword]; omega)]

/-- REARM stores its mode, and requests the re-arm with that mode and the source that stands. -/
theorem State.rearm_takes (ab : Bool) :
    ∃ w : Word, w.toNat = (u.rget 0x3_0010).toNat - ((u.rget 0x3_0010).toNat &&& 4) + 4 * b2n ab
      ∧ u.writeIn p 0x3_0010 (wd (2 + 4 * b2n ab + ((u.rget 0x3_0010).toNat &&& 0x30)))
        = ((v.rput 0x3_0010 w).rearmRequest ab (fld (u.rget 0x3_0010) 4 2)).noteEvt v.evtStatus := by
  have hget : v.rget 0x3_0010 = u.rget 0x3_0010 := by rw [hv, State.linkRx_rget u p (by decide) (by decide)]
  have hab : b2n ab ≤ 1 := by cases ab <;> decide
  have hword := bootCtrl_rearm ab (u.rget 0x3_0010).toNat
  generalize wd (2 + 4 * b2n ab + ((u.rget 0x3_0010).toNat &&& 0x30)) = w at hword ⊢
  have hsrc : (v.rget 0x3_0010).toNat &&& 0x30 = w.toNat &&& 0x30 := by
    rw [hget, (bootCtrl_fields _).2.1, (bootCtrl_fields _).2.1, hword]; omega
  have hnew : (v.bootCtrlNew w).toNat = (u.rget 0x3_0010).toNat - ((u.rget 0x3_0010).toNat &&& 4) + 4 * b2n ab := by
    rw [State.bootCtrlNew_toNat hsrc, hget, (bootCtrl_fields w.toNat).1, hword]; omega
  have hdigits := hnew
  rw [(bootCtrl_fields _).1] at hdigits
  have hmode : bit (v.bootCtrlNew w) 2 = ab := by
    have hdigit : (v.bootCtrlNew w).toNat / 2 ^ 2 % 2 = b2n ab := by rw [hdigits]; omega
    rw [Bool.eq_iff_iff, bit_iff, hdigit]
    cases ab <;> decide
  have hkeep : fld (v.bootCtrlNew w) 4 2 = fld (u.rget 0x3_0010) 4 2 := by rw [fld_eq, fld_eq, hdigits]; omega
  refine ⟨v.bootCtrlNew w, hnew, ?_⟩
  rw [State.writeIn_bootCtrl ht hv hsrc, State.bootActions_rearm (by rw [bit_iff, hword]; omega)
    (by rw [bit_iff, hword]; omega) (by rw [bit_iff, hword]; omega), State.rget_rput, if_pos rfl, hmode, hkeep]

end

/-! ## STAGE_DATA (R62) -/

theorem rowOf_stageData : rowOf 0x3_001C = some (ro 0x3_001C) := rfl

theorem State.writeSpecial_stageData (s : State) (p : Path) (w : Word) : s.writeSpecial p 0x3_001C w = some (s.stageWord w) := rfl

theorem State.writeHere_stageData (s : State) (p : Path) (w : Word) : s.writeHere p 0x3_001C w = s.stageWord w := by
  simp [State.writeHere, rowOf_stageData, State.windowShut, State.gateOpen, State.writeSpecial_stageData, ro]

theorem State.writeIn_stageData {s v : State} {p : Path} (ht : s.takes p 0x3_001C) (hv : v = s.linkRx p) (w : Word) :
    s.writeIn p 0x3_001C w = (v.stageWord w).noteEvt v.evtStatus := by
  obtain ⟨hp, -, hup, hw⟩ := ht
  rw [State.writeIn_up hp hup, ← hv, State.writeReg_unlocked (by simpa [hv] using hw) rowOf_stageData rfl,
    State.writeHere_stageData]

@[simp] theorem State.linkRx_stagingOpen (s : State) (p : Path) : (s.linkRx p).stagingOpen = s.stagingOpen := by
  unfold State.linkRx; split <;> rfl

/-- Settles O28: the actions of BOOT_CTRL run on the state whose fields the write has stored; STAGE_DATA turns on whether an image is
awaited in the staging region. -/
theorem bootCommands : Obligations.BootCommands := by
  unfold Obligations.BootCommands
  rintro s u v t p ab x rfl hv
  rw [exec_go, exec_pushGo, exec_rearm, exec_stageData]
  refine ⟨fun ht => ⟨?go, ?push, ?rearm⟩, fun ht hopen => ?stores, fun ht hshut => ?shut⟩
  case go => rw [State.go_takes ht hv]
  case push => rw [State.pushGo_takes ht hv]
  case rearm =>
    obtain ⟨w, hw, hwrite⟩ := State.rearm_takes ht hv ab
    exact ⟨w, hw, by rw [hwrite]⟩
  case stores =>
    have haddr : v.rget 0x3_0018 = (s.advance t).rget 0x3_0018 := by rw [hv, State.linkRx_rget _ p (by decide) (by decide)]
    have hlive : v.live = true := State.live_of_not_held (by simpa [hv] using ht.up)
    have hawaited : v.pushAwaited = true := by
      rw [State.pushAwaited, hlive, hv, State.linkRx_stagingOpen, hopen]
      rfl
    rw [State.writeIn_stageData ht hv, State.stageWord, if_neg (by simp [hawaited]), haddr]
  case shut =>
    have hawaited : v.pushAwaited = false := by simp [State.pushAwaited, hv, hshut]
    rw [State.writeIn_stageData ht hv, State.stageWord, if_pos (by simp [hawaited]), State.noteEvt_self]

end Sys2Proof.Machine
end

section
/-! Reads that pop a queue or start a peak anew (spec/03_sensor_ingress.md R95, R97, R102 and the tables they stand in): what the
read answers is the computed value of its register, and what it leaves is `readClears`. -/

namespace Sys2Proof.Machine

/-! ## What such a read does -/

theorem State.peek_computed {s : State} {l : Latches} {a : Nat} {w : Word} (h : s.computed l a = some w) : s.peek l a = w := by
  simp [State.peek, h]

/-- Where the registers lie whose reads pop a queue or start a peak or a count anew: each is half of no pair. -/
def popsAt (a : Nat) : Prop :=
  (0x1_0000 ≤ a ∧ a < 0x2_0000) ∨ (0x2_0240 ≤ a ∧ a < 0x2_0264) ∨ (0x8_0000 ≤ a ∧ a < 0x9_0000 ∧ a % 0x1000 = 0x14)
    ∨ (0xA_0000 ≤ a ∧ a < 0xA_1000) ∨ (0xE_0000 ≤ a ∧ a < 0xE_4000 ∧ a % 0x1000 = 0x14) ∨ a = 0x20_0020

theorem pairLow_popsAt {a : Nat} (h : popsAt a) : pairLow a = false := by
  unfold popsAt at h
  simp only [pairLow, Bool.or_eq_false_iff, Bool.and_eq_false_iff, decide_eq_false_iff_not, beq_eq_false_iff_ne]
  omega

theorem State.certain_popsAt {a : Nat} (h : popsAt a) (s : State) : s.Certain a := by
  unfold popsAt at h
  exact ⟨by omega, by omega, by omega⟩

/-- With nothing latched, a read answers the computed value of such a register and does what the read clears. -/
theorem State.readOut_popsAt {s z : State} {p : Path} {a : Nat} {w : Word} (hs : s.shows p a)
    (hl : tfind (s.lat p).high a = none) (ha : popsAt a) (hw : s.computed (s.lat p) a = some w) (hz : s.readClears a = z) :
    s.readOut p a = (z.linkTx p).out (.readWord (pathNum p) a w) := by
  obtain ⟨hp, -, hup, hread, hcore⟩ := hs
  have hfrac : a ≠ 0x5_0010 := by unfold popsAt at ha; omega
  rw [State.readOut_up hup, State.readReg_reached hread hcore, State.readHere_live (s.certain_popsAt ha) hp hl hfrac,
    State.peek_computed hw, pairLow_popsAt ha, hz]
  rfl

/-- R447: a read of CHRONO_FRAC latches the calendar of its instant for the path. -/
theorem State.readHere_chronoFrac {s : State} {p : Path} (hl : tfind (s.lat p).high 0x5_0010 = none) :
    s.readHere p 0x5_0010 = (wd s.chr.frac,
      s.putLat p { s.lat p with cal := some (s.chr.sec, calDate s.chr.sec, calTime s.chr.sec) }) := by
  have hw : s.computed (s.lat p) 0x5_0010 = some (wd s.chr.frac) := rfl
  have hclears : s.readClears 0x5_0010 = s := rfl
  simp [State.readHere, hl, State.peek_computed hw, hclears]

/-! ## The registers -/

section
variable (s : State) (l : Latches) {n : Nat}

theorem State.computed_scRdata (hn : n < 16) : s.computed l (0xA_0008 + 0x100 * n) = some (s.scRdata n).1 := by
  have hoff : (0xA_0008 + 0x100 * n) % 0x100 = 0x08 := by omega
  have hidx : (0xA_0008 + 0x100 * n - 0xA_0000) / 0x100 = n := by omega
  simp (disch := omega) only [State.computed, State.readSensctl, if_neg, if_pos, hoff, hidx]

theorem State.computed_scIbi (hn : n < 16) : s.computed l (0xA_0014 + 0x100 * n) = some (s.scIbi n).1 := by
  have hoff : (0xA_0014 + 0x100 * n) % 0x100 = 0x14 := by omega
  have hidx : (0xA_0014 + 0x100 * n - 0xA_0000) / 0x100 = n := by omega
  simp (disch := omega) only [State.computed, State.readSensctl, if_neg, if_pos, hoff, hidx]

theorem State.computed_bufPeak (hn : n < 16) : s.computed l (0x8_0014 + 0x1000 * n) = some (wd (s.ing' n).peak) := by
  have hoff : (0x8_0014 + 0x1000 * n) % 0x1000 = 0x014 := by omega
  have hidx : (0x8_0014 + 0x1000 * n - 0x8_0000) / 0x1000 = n := by omega
  simp (disch := omega) only [State.computed, State.readIngress, if_neg, if_pos, hoff, hidx]

theorem State.computed_txqPeak (hn : n < 4) : s.computed l (0xE_0014 + 0x1000 * n) = some (wd (s.port n).peak) := by
  have hoff : (0xE_0014 + 0x1000 * n) % 0x1000 = 0x014 := by omega
  have hidx : (0xE_0014 + 0x1000 * n - 0xE_0000) / 0x1000 = n := by omega
  simp (disch := omega) only [State.computed, State.readTransmit, if_neg, if_pos, hoff, hidx]

theorem State.computed_monMin (hn : n < 9) : s.computed l (0x2_0240 + 4 * n) = some (s.monMinRead n).1 := by
  have hidx : (0x2_0240 + 4 * n - 0x2_0240) / 4 = n := by omega
  simp (disch := omega) only [State.computed, State.readPower, Bool.and_eq_true, decide_eq_true_eq, if_neg, if_pos, hidx]

theorem State.readClears_scRdata (hn : n < 16) : s.readClears (0xA_0008 + 0x100 * n) = (s.scRdata n).2 := by
  have hidx : (0xA_0008 + 0x100 * n - 0xA_0000) / 0x100 = n := by omega
  simp (disch := omega) only [State.readClears, Bool.and_eq_true, decide_eq_true_eq, if_neg, if_pos, hidx]

theorem State.readClears_scIbi (hn : n < 16) : s.readClears (0xA_0014 + 0x100 * n) = (s.scIbi n).2 := by
  have hidx : (0xA_0014 + 0x100 * n - 0xA_0000) / 0x100 = n := by omega
  simp (disch := omega) only [State.readClears, Bool.and_eq_true, decide_eq_true_eq, if_neg, if_pos, hidx]

theorem State.readClears_bufPeak (hn : n < 16) :
    s.readClears (0x8_0014 + 0x1000 * n) = s.putIng n { s.ing' n with peak := (s.ing' n).used } := by
  have hidx : (0x8_0014 + 0x1000 * n - 0x8_0000) / 0x1000 = n := by omega
  simp (disch := omega) only [State.readClears, Bool.and_eq_true, decide_eq_true_eq, if_neg, if_pos, hidx]

theorem State.readClears_txqPeak (hn : n < 4) :
    s.readClears (0xE_0014 + 0x1000 * n) = s.putPort n { s.port n with peak := (s.port n).bytes } := by
  have hidx : (0xE_0014 + 0x1000 * n - 0xE_0000) / 0x1000 = n := by omega
  simp (disch := omega) only [State.readClears, Bool.and_eq_true, decide_eq_true_eq, if_neg, if_pos, hidx]

theorem State.readClears_monMin (hn : n < 9) : s.readClears (0x2_0240 + 4 * n) = (s.monMinRead n).2 := by
  have hidx : (0x2_0240 + 4 * n - 0x2_0240) / 4 = n := by omega
  simp (disch := omega) only [State.readClears, Bool.and_eq_true, decide_eq_true_eq, if_neg, if_pos, hidx]

theorem State.computed_pfInfo : s.computed l 0x20_0020 = some s.pfInfoRead.1 := rfl

theorem State.readClears_pfInfo : s.readClears 0x20_0020 = s.pfInfoRead.2 := rfl

end

/-! ## The queues -/

section
variable {s : State} {n : Nat}

theorem State.scRdata_nil (h : (s.sp n).rdata = []) : s.scRdata n = (0, s) := by simp [State.scRdata, h]
theorem State.scRdata_cons {w : Word} {r : List Word} (h : (s.sp n).rdata = w :: r) :
    s.scRdata n = (w, s.putSp n { s.sp n with rdata := r }) := by simp [State.scRdata, h]
theorem State.scIbi_nil (h : (s.sp n).ibis = []) : s.scIbi n = (0, s) := by simp [State.scIbi, h]
theorem State.scIbi_cons {e : IbiEntry} {r : List IbiEntry} (h : (s.sp n).ibis = e :: r) :
    s.scIbi n = (wd (e.addr + 128 + e.payload.length * 256 + leAt e.payload 0 2 * 65536),
      s.putSp n { s.sp n with ibis := r, ibiLast := leAt e.payload 2 2 }) := by simp [State.scIbi, h]
theorem State.pfInfoRead_nil (h : s.mems.pf = []) : s.pfInfoRead = (0, s) := by simp [State.pfInfoRead, h]
theorem State.pfInfoRead_cons {e : PfEntry} {r : List PfEntry} (h : s.mems.pf = e :: r) :
    s.pfInfoRead = (wd (e.requester % 256 + e.slot % 16 * 2 ^ 8 + e.epoch % 256 * 2 ^ 12 + b2n e.write * 2 ^ 20
      + e.kind % 4 * 2 ^ 21 + 2 ^ 31), { s with mems := { s.mems with pf := r, pfAddr := e.addr } }) := by
  simp [State.pfInfoRead, h]

end

/-! ## The commands -/

theorem exec_scRdataRead (t : Nat) (p : Path) (n : Nat) (s : State) :
    exec (.scRdataRead t p n) s = .next ((s.advance t).readOut p (0xA_0008 + 0x100 * n)) := rfl
theorem exec_scIbiRead (t : Nat) (p : Path) (n : Nat) (s : State) :
    exec (.scIbiRead t p n) s = .next ((s.advance t).readOut p (0xA_0014 + 0x100 * n)) := rfl
theorem exec_bufPeakRead (t : Nat) (p : Path) (n : Nat) (s : State) :
    exec (.bufPeakRead t p n) s = .next ((s.advance t).readOut p (0x8_0014 + 0x1000 * n)) := rfl
theorem exec_txqPeakRead (t : Nat) (p : Path) (n : Nat) (s : State) :
    exec (.txqPeakRead t p n) s = .next ((s.advance t).readOut p (0xE_0014 + 0x1000 * n)) := rfl
theorem exec_monCountRead (t : Nat) (p : Path) (s : State) :
    exec (.monCountRead t p) s = .next ((s.advance t).readOut p 0x1_0014) := rfl
theorem exec_monMinRead (t : Nat) (p : Path) (n : Nat) (s : State) :
    exec (.monMinRead t p n) s = .next ((s.advance t).readOut p (0x2_0240 + 4 * n)) := rfl
theorem exec_pfInfoRead (t : Nat) (p : Path) (s : State) :
    exec (.pfInfoRead t p) s = .next ((s.advance t).readOut p 0x20_0020) := rfl
theorem exec_chronoFracRead (t : Nat) (p : Path) (s : State) :
    exec (.chronoFracRead t p) s = .next ((s.advance t).readOut p 0x5_0010) := rfl

/-- Settles O33: what each register answers is its computed value, and what its read leaves is read off the queue it pops. -/
theorem poppingReads : Obligations.PoppingReads := by
  unfold Obligations.PoppingReads
  rintro s u t a n p ans rfl hs hl hans
  simp only [exec_scRdataRead, exec_scIbiRead, exec_bufPeakRead, exec_txqPeakRead, exec_monCountRead, exec_monMinRead,
    exec_pfInfoRead, exec_chronoFracRead, hans]
  refine ⟨?rdata, ?ibiEmpty, ?ibi, ?buf, ?txq, ?count, ?low, ?faultEmpty, ?fault, ?frac⟩
  case rdata =>
    rintro hn rfl
    rw [State.readOut_popsAt hs hl (by unfold popsAt; omega) (State.computed_scRdata _ _ hn) (State.readClears_scRdata _ hn)]
    cases hq : ((s.advance t).sp n).rdata with
    | nil => rw [State.scRdata_nil hq]
    | cons w r => rw [State.scRdata_cons hq]
  case ibiEmpty =>
    rintro hn rfl hq
    rw [State.readOut_popsAt hs hl (by unfold popsAt; omega) (State.computed_scIbi _ _ hn) (State.readClears_scIbi _ hn),
      State.scIbi_nil hq]
  case ibi =>
    rintro e r hn rfl hq
    rw [State.readOut_popsAt hs hl (by unfold popsAt; omega) (State.computed_scIbi _ _ hn) (State.readClears_scIbi _ hn),
      State.scIbi_cons hq]
  case buf =>
    rintro hn rfl
    rw [State.readOut_popsAt hs hl (by unfold popsAt; omega) (State.computed_bufPeak _ _ hn) (State.readClears_bufPeak _ hn)]
  case txq =>
    rintro hn rfl
    rw [State.readOut_popsAt hs hl (by unfold popsAt; omega) (State.computed_txqPeak _ _ hn) (State.readClears_txqPeak _ hn)]
  case count =>
    rintro rfl
    rw [State.readOut_popsAt hs hl (by unfold popsAt; omega) rfl rfl]
    rfl
  case low =>
    rintro hn rfl
    rw [State.readOut_popsAt hs hl (by unfold popsAt; omega) (State.computed_monMin _ _ hn) (State.readClears_monMin _ hn)]
    rfl
  case faultEmpty =>
    rintro rfl hq
    rw [State.readOut_popsAt hs hl (by unfold popsAt; omega) (State.computed_pfInfo _ _) (State.readClears_pfInfo _),
      State.pfInfoRead_nil hq]
  case fault =>
    rintro e r rfl hq
    rw [State.readOut_popsAt hs hl (by unfold popsAt; omega) (State.computed_pfInfo _ _) (State.readClears_pfInfo _),
      State.pfInfoRead_cons hq]
  case frac =>
    rintro rfl
    obtain ⟨-, -, hup, hread, hcore⟩ := hs
    rw [State.readOut_up hup, State.readReg_reached hread hcore, State.readHere_chronoFrac hl]

end Sys2Proof.Machine
end

section
/-! Packets of a receive port, frame starts, ends and slots (spec/03_sensor_ingress.md R71, R72, R77, R80, R85, R86, R88): what the
header of a packet decides, then each command. -/

namespace Sys2Proof.Machine

/-! ## The commands -/

theorem exec_shortPacketIgnored (t port vc dt ecc : Nat) (s : State) :
    exec (.shortPacketIgnored t port vc dt ecc) s = .next (shortPacket port vc ecc (s.advance t)) := rfl
theorem exec_longPacket (t port vc dt wc ecc : Nat) (d : List Byte) (ok : Bool) (s : State) :
    exec (.longPacket t port vc dt wc ecc d ok) s = .next (longPacket port vc dt wc ecc d ok (s.advance t)) := rfl
theorem exec_frameStart (t port vc fn ecc : Nat) (s : State) :
    exec (.frameStart t port vc fn ecc) s = .next (frameStart port vc fn ecc (s.advance t)) := rfl
theorem exec_frameEnd (t port vc fn ecc : Nat) (s : State) :
    exec (.frameEnd t port vc fn ecc) s = .next (frameEnd port vc ecc (s.advance t)) := rfl
theorem exec_frameCloseTimeout (t src : Nat) (s : State) :
    exec (.frameCloseTimeout t src) s = .next (frameCloseTimeout src (s.advance t)) := rfl
theorem exec_frameSlotExpire (t src : Nat) (s : State) :
    exec (.frameSlotExpire t src) s = .next (frameSlotExpire src (s.advance t)) := rfl
theorem exec_hsBurstEnd (t port : Nat) (s : State) : exec (.hsBurstEnd t port) s = .next (hsBurstEnd port (s.advance t)) := rfl
theorem exec_phyErr (t port : Nat) (s : State) : exec (.phyErr t port) s = .next (phyErr port (s.advance t)) := rfl
theorem exec_deskew (t port : Nat) (s : State) : exec (.deskew t port) s = .next (deskew port (s.advance t)) := rfl

/-! ## A port's own state -/

@[simp] theorem State.ing'_putIng (s : State) (n m : Nat) (p : IngPort) :
    (s.putIng n p).ing' m = if m = n then p else s.ing' m := by
  simp [State.ing', State.putIng]

@[simp] theorem State.putIng_srcOn (s : State) (n port vc : Nat) (p : IngPort) : (s.putIng n p).srcOn port vc = s.srcOn port vc := rfl
@[simp] theorem State.putIng_src (s : State) (n i : Nat) (p : IngPort) : (s.putIng n p).src i = s.src i := rfl
@[simp] theorem State.putIng_slots (s : State) (n i : Nat) (p : IngPort) : (s.putIng n p).slots i = s.slots i := rfl
@[simp] theorem State.putIng_openOf (s : State) (n i : Nat) (p : IngPort) : (s.putIng n p).openOf i = s.openOf i := rfl
@[simp] theorem State.putIng_accepting (s : State) (n : Nat) (p : IngPort) : (s.putIng n p).accepting = s.accepting := rfl
@[simp] theorem State.putIng_now (s : State) (n : Nat) (p : IngPort) : (s.putIng n p).now = s.now := rfl

theorem State.receives_port {s : State} {port vc : Nat} (h : s.receives port vc = true) : port < 16 := by
  simp only [State.receives, Bool.and_eq_true, decide_eq_true_eq] at h
  omega

/-! ## Headers (R71) -/

theorem State.header_deaf {s : State} {port vc : Nat} (h : s.receives port vc = false) (ecc : Nat) (start : Bool) :
    s.header port vc ecc start = (s, none) := by
  simp [State.header, h]

section
variable {s h : State} {port vc : Nat} (hr : s.receives port vc = true) (hd : (s.ing' port).discard = false)
  (hh : h = s.putIng port { s.ing' port with lastHs := some s.now })
include hr hd hh

theorem State.header_uncorrectable (start : Bool) : s.header port vc 2 start = (h.eccUncorr port, none) := by
  simp [State.header, hr, hd, hh]

theorem State.header_clean (start : Bool) : s.header port vc 0 start = (h, some (s.srcOn port vc)) := by
  simp [State.header, hr, hd, hh]

theorem State.header_corrected (start : Bool) :
    s.header port vc 1 start = (h.eccCorr port (headerOf start (s.srcOn port vc)), some (s.srcOn port vc)) := by
  simp [State.header, hr, hd, hh]

/-! ## Long packets (R77, R80) -/

theorem longPacket_unmatched {dt wc : Nat} {d : List Byte} {ok : Bool} {z : State} (hsrc : s.srcOn port vc = none)
    (hnull : dt ≠ 0x10) (hblank : dt ≠ 0x11)
    (hz : z = h.putIng port { h.ing' port with bytes := ((h.ing' port).bytes + wc) % 2 ^ 64 }) :
    longPacket port vc dt wc 0 d ok s = z.bumpPort port 7 := by
  simp [longPacket, State.header_clean hr hd hh, hsrc, hnull, hblank, hz]

theorem longPacket_line {wc src x : Nat} {d : List Byte} {ok : Bool} {z : State} {f g : Flight}
    (hsrc : s.srcOn port vc = some (src, x)) (hnull : (s.src src).dt ≠ 0x10) (hblank : (s.src src).dt ≠ 0x11)
    (hz : z = h.putIng port { h.ing' port with bytes := ((h.ing' port).bytes + wc) % 2 ^ 64 })
    (hdrop : (s.slots src).dropping = none) (hopen : s.openOf src = some f)
    (hg : g = (if ok = true then f else { f with crcErrs := f.crcErrs + 1, flags := f.flags ||| fCrcErr })) :
    longPacket port vc (s.src src).dt wc 0 d ok s
      = State.takeLine (State.putFlight (if ok = true then z else z.bumpPort port 1) g) port g x (slice d 0 wc) := by
  have hentry : z.src src = s.src src := by simp only [hz, hh, State.putIng_src]
  have hslots : (z.slots src).dropping = none := by simp only [hz, hh, State.putIng_slots, hdrop]
  have hflight : z.openOf src = some f := by simp only [hz, hh, State.putIng_openOf, hopen]
  simp only [longPacket, State.header_clean hr hd hh, hsrc, hnull, hblank, decide_false, Bool.or_self, Bool.false_eq_true,
    if_false, ← hz, hentry, if_true, hslots, hflight, ← hg]

end

/-- Settles O41: what the header of a packet decides, packet by packet. -/
theorem portPackets : Obligations.PortPackets := by
  unfold Obligations.PortPackets
  rintro s u h t port vc rfl hheld hh
  have hlive : (s.advance t).live = true := State.live_of_not_held hheld
  simp only [exec_shortPacketIgnored, exec_longPacket, exec_frameStart, exec_frameEnd, exec_hsBurstEnd, exec_deskew, exec_phyErr]
  refine ⟨fun hr hd => ⟨?uncorrectable, ?clean, ?corrected, ?unmatched, ?line⟩, ?deaf, ?burst, ?deskew, ?phy⟩
  case uncorrectable =>
    intro dt fn wc d ok
    simp [shortPacket, longPacket, frameStart, frameEnd, State.header_uncorrectable hr hd hh]
  case clean =>
    intro dt
    rw [shortPacket, State.header_clean hr hd hh]
  case corrected =>
    rintro dt m rfl
    rw [shortPacket, State.header_corrected hr hd hh]
    cases (s.advance t).srcOn port vc <;> rfl
  case unmatched =>
    intro dt wc d ok z hsrc hnull hblank hz
    rw [longPacket_unmatched hr hd hh hsrc hnull hblank hz]
  case line =>
    intro wc d ok z src x f g hsrc hnull hblank hz hdrop hopen hg
    rw [longPacket_line hr hd hh hsrc hnull hblank hz hdrop hopen hg]
  case deaf =>
    intro hr dt fn wc e d ok
    simp [shortPacket, longPacket, frameStart, frameEnd, State.header_deaf hr]
  case burst =>
    intro hport
    simp [hsBurstEnd, hlive, hport]
  case deskew =>
    intro hport hphy
    simp [deskew, hlive, hport, hphy]
  case phy =>
    intro hport hon hlead
    simp [phyErr, hlive, hport, hon, hlead]

/-! ## What counting on a port leaves alone -/

@[simp] theorem State.raiseIbi_rget (s : State) (c a : Nat) : (s.raiseIbi c).rget a = s.rget a := by
  unfold State.raiseIbi
  split
  · rfl
  · split
    · rfl
    · split <;> rfl

@[simp] theorem State.noteEvt_rget (s : State) (b a : Nat) : (s.noteEvt b).rget a = s.rget a := by
  unfold State.noteEvt
  dsimp only
  split
  · exact State.raiseIbi_rget s 2 a
  · rfl

theorem State.setEvt_rget {a : Nat} (s : State) (b : Nat) (h : a ≠ 0x6_0020) : (s.setEvt b).rget a = s.rget a := by
  simp [State.setEvt, State.rset, h]

/-- A counter touches itself, its SAT register and EVT_STATUS. -/
theorem State.bumpAt_rget {a cnt sat : Nat} (s : State) (satBit thr sel len idx : Nat) (hc : a ≠ cnt) (hs : a ≠ sat)
    (he : a ≠ 0x6_0020) : (s.bumpAt cnt sat satBit thr sel len idx).rget a = s.rget a := by
  simp only [State.bumpAt, State.rset]
  split <;> (try rw [State.setEvt_rget _ _ he]) <;> split <;> simp [hc, hs]

theorem State.bumpPort_rget {a port i : Nat} (s : State) (hp : port < 16) (hi : i < 15) (ha : 0x9_0000 ≤ a) :
    (s.bumpPort port i).rget a = s.rget a :=
  State.bumpAt_rget s _ _ _ _ _ (by omega) (by omega) (by omega)

theorem State.bumpPort_src {port i : Nat} (s : State) (hp : port < 16) (hi : i < 15) (src : Nat) :
    (s.bumpPort port i).src src = s.src src := by
  have hget : ∀ w, (s.bumpPort port i).rget (srcAddr src w) = s.rget (srcAddr src w) := fun w =>
    State.bumpPort_rget s hp hi (by unfold srcAddr; omega)
  simp only [State.src, hget]

theorem Reports.ing {z u : State} (h : Reports z u) : u.ing = z.ing := by rw [h.rest]
theorem Reports.now {z u : State} (h : Reports z u) : u.now = z.now := by rw [h.rest]
theorem Reports.accepting {z u : State} (h : Reports z u) : u.accepting = z.accepting := by
  rw [State.accepting, State.accepting, State.running, State.running, h.boot, h.pwr]
theorem Reports.slots {z u : State} (h : Reports z u) (src : Nat) : u.slots src = z.slots src := by
  rw [State.slots, State.slots, h.ing]

/-! ## Frame Starts (R85, R86) -/

section
variable {s : State} {src : Nat} (fn corr : Nat)

/-- A Frame Start that is discarded: counted, and what follows it is dropped silently. -/
theorem State.start0_refused_idle (ha : s.accepting = false) (ho : s.openOf src = none) :
    s.start0 src fn corr
      = (s.bumpPort (s.src src).port 11).putSlots src { s.slots src with dropping := some .silent } := by
  simp [State.start0, ha, ho]

theorem State.start0_refused_open {f : Flight} (ha : s.accepting = false) (ho : s.openOf src = some f)
    (hold : (s.src src).period = 0 ∨ (s.slots src).opened ≠ some (s.slotNow src).toNat) :
    s.start0 src fn corr = ((s.closeFrame f false).bumpPort (s.src src).port 11).putSlots src
      { (s.closeFrame f false).slots src with dropping := some .silent } := by
  have hclose : (decide ((s.src src).period = 0) || (s.slots src).opened != some (s.slotNow src).toNat) = true := by
    simpa using hold
  simp only [State.start0, ha, hclose, ho, Bool.not_false, if_true]

theorem State.start0_free (ha : s.accepting = true) (hp : (s.src src).period = 0) :
    s.start0 src fn corr = (s.acceptStart src ((s.slots src).nextFree % 2 ^ 32) s.now fn corr).putSlots src
      { s.slots src with nextFree := (s.slots src).nextFree + 1, dropping := none } := by
  simp [State.start0, ha, hp]

section
variable {k : Nat} (ha : s.accepting = true) (hp : (s.src src).period ≠ 0) (hk : s.slotNow src = (k : Int))
include ha hp hk

theorem State.start0_further (ho : (s.slots src).opened = some k) (hd : (s.slots src).dropping = some .extra) :
    s.start0 src fn corr = s.bumpPort (s.src src).port 7 := by
  simp [State.start0, ha, hp, hk, ho, hd]

theorem State.start0_second (ho : (s.slots src).opened = some k) (hd : (s.slots src).dropping ≠ some .extra) :
    s.start0 src fn corr
      = (s.bumpPort (s.src src).port 13).putSlots src { s.slots src with dropping := some .extra } := by
  simp [State.start0, ha, hp, hk, ho, hd]

theorem State.start0_slot {z : State} (ho : (s.slots src).opened ≠ some k) (hn : (s.slots src).nextSlot ≤ k)
    (hz : z = s.expireTo src k) :
    s.start0 src fn corr = (z.acceptStart src (k % 2 ^ 32) (z.expectOf src k) fn corr).putSlots src
      { z.slots src with nextSlot := k + 1, opened := some k, dropping := none } := by
  have hnew : ¬ k < (s.slots src).nextSlot := by omega
  simp [State.start0, ha, hp, hk, ho, hnew, hz]

end
end

section
variable {s h : State} {port vc src fn : Nat} (hr : s.receives port vc = true) (hd : (s.ing' port).discard = false)
  (hh : h = s.putIng port { s.ing' port with lastHs := some s.now }) (hsrc : s.srcOn port vc = some (src, 0))
include hr hd hh hsrc

theorem frameStart_clean : frameStart port vc fn 0 s = h.start0 src fn 0 := by
  rw [frameStart, State.header_clean hr hd hh, hsrc]
  rfl

/-- A corrected header of a Frame Start counts in no frame that is open yet. -/
theorem frameStart_corrected : frameStart port vc fn 1 s = (h.bumpPort port 2).start0 src fn 1 := by
  rw [frameStart, State.header_corrected hr hd hh, hsrc]
  rfl

/-! ## Frame Ends (R88) -/

theorem frameEnd_last {f : Flight} (hdrop : (s.slots src).dropping = none) (hopen : s.openOf src = some f)
    (hex : (s.src src).exposures = 1) (hends : f.ends = []) :
    frameEnd port vc 0 s = State.closeFrame (h.putFlight { f with ends := [0] }) { f with ends := [0] } false := by
  have hentry : h.src src = s.src src := by rw [hh, State.putIng_src]
  have hslots : (h.slots src).dropping = none := by rw [hh, State.putIng_slots, hdrop]
  have hflight : h.openOf src = some f := by rw [hh, State.putIng_openOf, hopen]
  simp [frameEnd, State.header_clean hr hd hh, hsrc, hentry, hslots, hflight, hex, hends]

end

/-- Settles O42: a clean header hands the packet to `start0`, whose branches are the cases of R85. -/
theorem frames : Obligations.Frames := by
  unfold Obligations.Frames
  rintro s u h t port vc fn src rfl hheld hh
  simp only [exec_frameStart, exec_frameEnd, exec_frameCloseTimeout, exec_frameSlotExpire]
  have hentry : h.src src = (s.advance t).src src := by rw [hh, State.putIng_src]
  have hslots : h.slots src = (s.advance t).slots src := by rw [hh, State.putIng_slots]
  have hopenOf : h.openOf src = (s.advance t).openOf src := by rw [hh, State.putIng_openOf]
  have hacc : h.accepting = (s.advance t).accepting := by rw [hh, State.putIng_accepting]
  have hnow : h.now = (s.advance t).now := by rw [hh, State.putIng_now]
  refine ⟨fun hr hd hsrc => ⟨?idle, ?stale, ?free, ?slot, ?last⟩, ?timeout, ?expire⟩
  case idle =>
    intro ha ho
    rw [frameStart_clean hr hd hh hsrc, State.start0_refused_idle _ _ (hacc.trans ha) (hopenOf.trans ho), hentry, hslots]
  case stale =>
    intro f ha ho hold
    rw [frameStart_clean hr hd hh hsrc, State.start0_refused_open _ _ (hacc.trans ha) (hopenOf.trans ho)
      (by rwa [hentry, hslots]), hentry]
  case free =>
    intro ha hp
    have hcount : Reports h (h.bumpPort port 2) := State.bumpPort_reports (.refl h) port 2
    have hsame : (h.bumpPort port 2).src src = (s.advance t).src src := by
      rw [State.bumpPort_src h (State.receives_port hr) (by decide), hentry]
    constructor
    · rw [frameStart_clean hr hd hh hsrc, State.start0_free _ _ (hacc.trans ha) (by rw [hentry, hp]), hslots, hnow]
    · rw [frameStart_corrected hr hd hh hsrc, State.start0_free _ _ (by rw [hcount.accepting, hacc, ha]) (by rw [hsame, hp]),
        hcount.slots, hslots, hcount.now, hnow]
  case slot =>
    intro k ha hp hk
    have hp' : (h.src src).period ≠ 0 := by rwa [hentry]
    refine ⟨fun ho hx => ?_, fun ho hx => ?_, fun z ho hn hz => ?_⟩
    · rw [frameStart_clean hr hd hh hsrc, State.start0_further _ _ (hacc.trans ha) hp' hk (by rw [hslots, ho]) (by rw [hslots, hx]),
        hentry]
    · rw [frameStart_clean hr hd hh hsrc, State.start0_second _ _ (hacc.trans ha) hp' hk (by rw [hslots, ho]) (by rwa [hslots]),
        hentry, hslots]
    · rw [frameStart_clean hr hd hh hsrc, State.start0_slot _ _ (hacc.trans ha) hp' hk (by rwa [hslots]) (by rwa [hslots]) hz]
  case last =>
    intro f hdrop hopen hex hends
    rw [frameEnd_last hr hd hh hsrc hdrop hopen hex hends]
  case timeout =>
    intro f ho
    simp [frameCloseTimeout, ho]
  case expire =>
    intro hen hkind hp ha k hk
    have hsensor : ((s.advance t).src src).kind = 0 ∨ ((s.advance t).src src).kind = 1 := by omega
    have hcounts : (decide (((s.advance t).src src).kind = 0) || decide (((s.advance t).src src).kind = 1)) = true := by
      simpa using hsensor
    simp [frameSlotExpire, hen, hcounts, hp, ha, hk]

end Sys2Proof.Machine
end

section
/-! Sensor control over I3C (spec/03_sensor_ingress.md R94 to R97), FSYNC pulses and genlock (R99, R100). -/

namespace Sys2Proof.Machine

/-! ## The commands -/

theorem exec_sensorCommandIssue (t n : Nat) (s : State) :
    exec (.sensorCommandIssue t n) s = .next (sensorIssue n (s.advance t)) := rfl
theorem exec_sensorCommandDone (t n : Nat) (d : List Word) (nack : Bool) (s : State) :
    exec (.sensorCommandDone t n d nack) s = .next (sensorDone n d nack (s.advance t)) := rfl
theorem exec_ibi (t n a : Nat) (pl : List Byte) (s : State) : exec (.ibi t n a pl) s = .next (sensorIbi n a pl (s.advance t)) := rfl
theorem exec_hotJoin (t n : Nat) (s : State) : exec (.hotJoin t n) s = .next (hotJoin n (s.advance t)) := rfl
theorem exec_fsyncPulse (t j : Nat) (s : State) : exec (.fsyncPulse t j) s = .next (fsyncPulse j (s.advance t)) := rfl
theorem exec_genlockEdge (t w : Nat) (s : State) : exec (.genlockEdge t w) s = .next (genlockEdge w (s.advance t)) := rfl
theorem exec_genlockLost (t : Nat) (s : State) : exec (.genlockLost t) s = .next (genlockLost (s.advance t)) := rfl

/-! ## Commands on the bus (R95, R96) -/

section
variable {s : State} {n : Nat} {w : Word}

/-- A write command of the image that is whole at the head of the queue. -/
theorem sensorIssue_write {r : List (Word × Option (Nat × Nat))} (hlive : s.live = true) (hon : fld (s.ctlCfg n) 0 2 ≠ 0)
    (hidle : (s.sp n).busy = none) (hq : (s.sp n).queue = (w, none) :: r) (hw : bit w 7 = false) (hwhole : cmdWords w ≤ r.length) :
    sensorIssue n s = State.out (s.putSp n ({ s.sp n with
        queue := r.drop (cmdWords w)
        busy := some (w :: (r.take (cmdWords w)).map (·.1))
        busySet := none } : SctlPort).pump) (.sensorBus n (w :: (r.take (cmdWords w)).map (·.1))) := by
  simp [sensorIssue, hlive, hon, hidle, hq, hw, hwhole]

variable {r : List Word} (hbusy : (s.sp n).busy = some (w :: r)) (hset : (s.sp n).busySet = none) (d : List Word)
include hbusy hset

theorem sensorDone_nack :
    sensorDone n d true s = if s.setsOnly = true then s.putSp n { s.sp n with busy := none, busySet := none, kept := false }
      else s.putSp n ({ s.sp n with busy := none, busySet := none, kept := false, queue := [], nack := true } : SctlPort).pump := by
  simp [sensorDone, hbusy, hset]

theorem sensorDone_read (hw : bit w 7 = true) :
    sensorDone n d false s = s.putSp n (({ s.sp n with
      busy := none
      busySet := none
      kept := bit w 25
      rdata := (s.sp n).rdata ++ (d.take (cmdWords w) ++ List.replicate (cmdWords w - d.length) 0) } : SctlPort).assign (w :: r)) := by
  simp [sensorDone, hbusy, hset, hw]

end

/-! ## In-Band Interrupts (R94, R97) -/

section
variable {s : State} {n : Nat} (hlive : s.live = true) (hi3c : fld (s.ctlCfg n) 0 2 = 1) (a : Nat) (pl : List Byte)
include hlive hi3c

theorem hotJoin_refused : hotJoin n s = s.out (.sensorAck n false) := by
  simp [hotJoin, hlive, hi3c]

theorem sensorIbi_refused (h : bit (s.ctlCfg n) 2 = false ∨ ((s.sp n).anyAssigned = false ∧ (s.sp n).assigned.contains a = false)) :
    sensorIbi n a pl s = s.out (.sensorAck n false) := by
  have hno : (!bit (s.ctlCfg n) 2 || !((s.sp n).anyAssigned || (s.sp n).assigned.contains a)) = true := by
    rcases h with hoff | ⟨hany, ha⟩
    · rw [hoff]; rfl
    · rw [hany, ha]; simp
  simp only [sensorIbi, hlive, hi3c, hno, Bool.not_true, bne_self_eq_false, Bool.or_self, Bool.false_eq_true, if_false, if_true]

variable (hen : bit (s.ctlCfg n) 2 = true) (ha : (s.sp n).assigned.contains a = true)
include hen ha

theorem sensorIbi_queued (hroom : (s.sp n).ibis.length < 16) :
    sensorIbi n a pl s = State.out (s.putSp n { s.sp n with
      ibis := (s.sp n).ibis ++ [{ addr := a % 128, payload := pl.take 4 }] }) (.sensorAck n true) := by
  have hnot : ¬ 16 ≤ (s.sp n).ibis.length := by omega
  simp only [sensorIbi, hlive, hi3c, hen, ha, hnot, Bool.not_true, bne_self_eq_false, Bool.or_self, Bool.or_true, Bool.false_eq_true,
    if_false]

theorem sensorIbi_lost (hfull : 16 ≤ (s.sp n).ibis.length) :
    sensorIbi n a pl s
      = State.out (s.putSp n { s.sp n with ibiLost := satAdd32 (s.sp n).ibiLost 1 }) (.sensorAck n true) := by
  simp only [sensorIbi, hlive, hi3c, hen, ha, hfull, Bool.not_true, bne_self_eq_false, Bool.or_self, Bool.or_true, Bool.false_eq_true,
    if_false, if_true]

end

/-- Settles O43, one law for each way in which a command begins or ends and an interrupt is answered. -/
theorem sensorBus : Obligations.SensorBus := by
  unfold Obligations.SensorBus
  rintro s u t n rfl hheld
  have hlive : (s.advance t).live = true := State.live_of_not_held hheld
  simp only [exec_sensorCommandIssue, exec_sensorCommandDone, exec_ibi, exec_hotJoin]
  refine ⟨?issue, ?done, ?interrupt⟩
  case issue =>
    intro w r hon hidle hq hw hwhole
    rw [sensorIssue_write hlive hon hidle hq hw hwhole]
  case done =>
    intro d w r hbusy hset
    refine ⟨?_, fun hw => ?_⟩
    · rw [sensorDone_nack hbusy hset]
    · rw [sensorDone_read hbusy hset d hw]
  case interrupt =>
    intro a pl hi3c
    refine ⟨fun h => ?_, fun hen ha hroom => ?_, fun hen ha hfull => ?_, ?_⟩
    · rw [sensorIbi_refused hlive hi3c a pl h]
    · rw [sensorIbi_queued hlive hi3c a pl hen ha hroom]
    · rw [sensorIbi_lost hlive hi3c a pl hen ha hfull]
    · rw [hotJoin_refused hlive hi3c]

/-! ## FSYNC pulses (R99) -/

theorem FsOut.nextPulse_free {o : FsOut} {t0 : Nat} (ht : o.t0 = some t0) (hf : fld o.ctrl 0 2 = 1) :
    o.nextPulse = some (t0 + o.phase + o.nextFree * o.period) := by
  simp [FsOut.nextPulse, ht, hf]

theorem FsOut.idle_on {o : FsOut} (h : fld o.ctrl 0 2 ≠ 0) : o.idle = !fsActive o.ctrl := by
  simp [FsOut.idle, h]

theorem State.fsEmit_sent {s : State} {j t v : Nat} {ctrl : Word} (h : t + fsWidth ctrl < v) :
    s.fsEmit j ctrl t (some v) = s.outs [.fsync j (fsActive ctrl), .fsync j (s.fs j).idle] := by
  have hlate : ¬ v ≤ t + fsWidth ctrl := by omega
  simp [State.fsEmit, hlate]

theorem State.fsEmit_skipped {s : State} {j t v : Nat} {ctrl : Word} (h : v ≤ t + fsWidth ctrl) :
    s.fsEmit j ctrl t (some v) = s.rput (0xA_200C + 0x10 * j) (satInc (s.rget (0xA_200C + 0x10 * j))) := by
  simp [State.fsEmit, h]

section
variable {s : State} {j t0 at0 : Nat} {o : FsOut} (hlive : s.live = true) (ho : o = s.fs j) (ht : o.t0 = some t0) (hold : o.old = [])
  (hf : fld o.ctrl 0 2 = 1) (hat : at0 = t0 + o.phase + o.nextFree * o.period)
include hlive ho ht hold hf hat

theorem fsyncPulse_early (h : s.now < at0) : fsyncPulse j s = s := by
  simp [fsyncPulse, hlive, ← ho, hold, FsOut.nextPulse_free ht hf, ← hat, h]

/-- In FREE_RUN the pulse after the one that is due starts a period later. -/
theorem fsyncPulse_due (h : at0 ≤ s.now) :
    fsyncPulse j s = (s.fsEmit j o.ctrl at0 (some (at0 + o.period))).putFs j { o with nextFree := o.nextFree + 1 } := by
  have hdue : ¬ s.now < at0 := by omega
  have hnext : FsOut.nextPulse { o with nextFree := o.nextFree + 1, old := [] } = some (at0 + o.period) := by
    rw [hat, Nat.add_assoc _ _ o.period, ← Nat.succ_mul]
    exact FsOut.nextPulse_free ht hf
  simp [fsyncPulse, hlive, ← ho, hold, FsOut.nextPulse_free ht hf, ← hat, hdue, hf, hnext]

end

/-! ## Genlock (R100) -/

/-- Genlock with the lock held since an edge, `d` ns after the one before. -/
def Trig.lockOn (g : Trig) (now ns d : Nat) : Trig :=
  { g with lastEdge := some now, edgeNs := ns, period := d, periods := d, locked := true, everLocked := true }


section
variable {s : State} {w : Nat}

theorem genlockEdge_short (h : w < 100) : genlockEdge w s = s := by
  simp [genlockEdge, h]

variable (hw : 100 ≤ w) (hrun : s.timebaseRuns = true)
include hw hrun

theorem genlockEdge_first (hl : s.trig.lastEdge = none) :
    genlockEdge w s = { s with trig := { s.trig with lastEdge := some s.now, edgeNs := s.ns } } := by
  have hwide : ¬ w < 100 := by omega
  simp [genlockEdge, hrun, hwide, hl]

variable {e d : Nat} (hl : s.trig.lastEdge = some e) (hh : s.trig.holdEdge = none) (hd : d = s.now - e) (hlo : 1_000_000 ≤ d)
  (hhi : d ≤ 1_000_000_000)
include hl hh hd hlo hhi

/-- The first period after the measurement began: nothing to compare it with. -/
theorem genlockEdge_measured (hp : s.trig.periods = 0) (hn : s.trig.everLocked = false) :
    genlockEdge w s = { s with trig := { s.trig with lastEdge := some s.now, edgeNs := s.ns, period := d, periods := d } } := by
  have hwide : ¬ w < 100 := by omega
  have hlong : ¬ d < 1_000_000 := by omega
  have hshort : ¬ 1_000_000_000 < d := by omega
  simp [genlockEdge, hrun, hwide, hl, hh, ← hd, hlong, hshort, hp, hn]

/-- A second period within 1 µs of the one before: the lock, whose pulses are scheduled at once. -/
theorem genlockEdge_locks (hp : s.trig.periods ≠ 0) (hup : d ≤ s.trig.periods + 1000) (hdn : s.trig.periods ≤ d + 1000) :
    genlockEdge w s = if s.trig.locked = false ∧ s.trig.everLocked = true
      then State.setEvt { s with trig := (s.trig.lockOn s.now s.ns d).addEdge s.now } 3
      else { s with trig := (s.trig.lockOn s.now s.ns d).addEdge s.now } := by
  have hwide : ¬ w < 100 := by omega
  have hlong : ¬ d < 1_000_000 := by omega
  have hshort : ¬ 1_000_000_000 < d := by omega
  have hne : (s.trig.periods != 0) = true := by simpa using hp
  simp [genlockEdge, hrun, hwide, hl, hh, ← hd, hlong, hshort, hne, hup, hdn, Trig.lockOn]

end

theorem Reports.trig {z u : State} (h : Reports z u) : u.trig = z.trig := by rw [h.rest]
@[simp] theorem State.setEvt_trig (s : State) (b : Nat) : (s.setEvt b).trig = s.trig := (State.setEvt_reports (.refl s) b).trig

theorem genlockLost_never {s : State} (h : s.trig.lastEdge = none) : genlockLost s = s := by
  simp [genlockLost, h]

theorem genlockLost_due {s : State} {e : Nat} (hl : s.trig.lastEdge = some e) (hp : s.trig.period ≠ 0) (hh : s.trig.holdEdge = none)
    (h : 4 * e + 5 * s.trig.period ≤ 4 * s.now) :
    genlockLost s = State.setEvt { s with trig := Trig.holdTick (Trig.holdTick { s.trig with
      lost := true
      locked := false
      holdEdge := some e }) } 3 := by
  have hdue : ¬ 4 * s.now < 4 * e + 5 * s.trig.period := by omega
  simp [genlockLost, hl, hp, hh, hdue]

/-- Settles O44: a pulse that is due is sent or skipped by the start of the next; an edge counts by its width and its distance from
the last. -/
theorem triggers : Obligations.Triggers := by
  unfold Obligations.Triggers
  rintro s u t j e d t0 at0 a w o rfl hheld hw
  have hlive : (s.advance t).live = true := State.live_of_not_held hheld
  simp only [exec_fsyncPulse, exec_genlockEdge, exec_genlockLost]
  refine ⟨?pulse, ?first, ?measured, ?locks, ?short, ?never, ?lost⟩
  case pulse =>
    rintro ho ht hold hf hat rfl
    refine ⟨fun h => ?_, fun h hgap => ?_, fun h hgap => ?_⟩
    · rw [fsyncPulse_early hlive ho ht hold hf hat h]
    · rw [fsyncPulse_due hlive ho ht hold hf hat h, State.fsEmit_sent (by omega), ← ho, FsOut.idle_on (by omega)]
      rfl
    · rw [fsyncPulse_due hlive ho ht hold hf hat h, State.fsEmit_skipped (by omega)]
  case first =>
    intro hrun hl
    rw [genlockEdge_first hw hrun hl]
  case measured =>
    intro hrun hl hh hd hlo hhi hp hn
    rw [genlockEdge_measured hw hrun hl hh hd hlo hhi hp hn]
  case locks =>
    intro hrun hl hh hd hlo hhi hp hup hdn
    refine ⟨_, rfl, ?_⟩
    rw [genlockEdge_locks hw hrun hl hh hd hlo hhi hp hup hdn]
    split
    · rw [State.setEvt_trig]
      exact ⟨rfl, rfl⟩
    · exact ⟨rfl, rfl⟩
  case short =>
    intro x hx
    rw [genlockEdge_short hx]
  case never =>
    intro hl
    rw [genlockLost_never hl]
  case lost =>
    intro hl hp hh h
    rw [genlockLost_due hl hp hh h]

end Sys2Proof.Machine
end

section
/-! What the records of an image configure (spec/03_sensor_ingress.md R95, spec/15_clocks.md R397, R401, R403): where such a write
goes, then what each register does with it. -/

namespace Sys2Proof.Machine

/-! ## The commands -/

theorem exec_scCmd (t : Nat) (p : Path) (n : Nat) (x : Word) (s : State) :
    exec (.scCmd t p n x) s = .next ((s.advance t).writeIn p (0xA_0004 + 0x100 * n) x) := rfl
theorem exec_scFlush (t : Nat) (p : Path) (n : Nat) (s : State) :
    exec (.scFlush t p n) s = .next ((s.advance t).writeIn p (0xA_0010 + 0x100 * n) 1) := rfl
theorem exec_pllCfgWrite (t : Nat) (p : Path) (n : Nat) (x : Word) (s : State) :
    exec (.pllCfgWrite t p n x) s = .next ((s.advance t).writeIn p (0x1_0100 + 0x20 * n) x) := rfl
theorem exec_sscCfgWrite (t : Nat) (p : Path) (n : Nat) (x : Word) (s : State) :
    exec (.sscCfgWrite t p n x) s = .next ((s.advance t).writeIn p (0x1_0104 + 0x20 * n) x) := rfl
theorem exec_mclkCfgWrite (t : Nat) (p : Path) (n : Nat) (x : Word) (s : State) :
    exec (.mclkCfgWrite t p n x) s = .next ((s.advance t).writeIn p (0x1_0300 + 4 * n) x) := rfl

/-! ## Where the registers lie -/

/-- Where the registers of PLLs 3 to 6, of spread, of master clocks and of sensor control lie. -/
def configAt (a : Nat) : Prop :=
  (0x1_0144 ≤ a ∧ a < 0x1_01E0) ∨ (0x1_0300 ≤ a ∧ a < 0x1_0340) ∨ (0xA_0000 ≤ a ∧ a < 0xA_1000)

theorem badTarget_configAt {a : Nat} {r : RegRow} (ha : configAt a) (hr : rowOf a = some r) : badTarget a = false := by
  unfold configAt at ha
  simp [badTarget, hr]
  omega

theorem clearGroup_configAt {a : Nat} (ha : configAt a) : clearGroup a = none := by
  unfold configAt at ha
  unfold clearGroup
  simp only [Bool.and_eq_true, decide_eq_true_eq]
  repeat rw [if_neg (by omega)]

theorem rowOf_scCmd : ∀ n < 16, rowOf (0xA_0004 + 0x100 * n) = some (rwr 0xA_0004 [(0x100, 16)] 0 .img) := by decide
theorem rowOf_scFlush : ∀ n < 16, rowOf (0xA_0010 + 0x100 * n) = some (rwr 0xA_0010 [(0x100, 16)] 0 .img) := by decide
theorem rowOf_mclkCfg : ∀ n < 16, rowOf (0x1_0300 + 4 * n) = some (rwr 0x1_0300 [(4, 16)] 0x0FFF_FFFF .img) := by decide
theorem rowOf_pllCfg : ∀ n < 7, 3 ≤ n → rowOf (0x1_0100 + 0x20 * n) = some (rwr 0x1_0160 [(0x20, 4)] 0x1_0FFF .img) := by decide
theorem rowOf_sscCfg {n : Nat} (hn : n = 2 ∨ n = 5) :
    rowOf (0x1_0104 + 0x20 * n) = some (rwr (0x1_0104 + 0x20 * n) [] 0xFFF .img) := by
  rcases hn with rfl | rfl <;> rfl

theorem State.pllCfg_stored {s : State} {n : Nat} (hlo : 3 ≤ n) (hhi : n ≤ 6) : s.pllCfg n = s.rget (0x1_0100 + 0x20 * n) := by
  simp only [State.pllCfg, Bool.or_eq_true, decide_eq_true_eq]
  rw [if_neg (by omega), if_neg (by omega)]

/-! ## A write of an image -/

/-- A state that shows the same event status has raised nothing. -/
theorem State.noteEvt_same {s : State} {b : Nat} (h : s.evtStatus = b) : s.noteEvt b = s := by
  rw [← h, State.noteEvt_self]

/-- The event status hangs on six registers and on the stall bits and the link. -/
theorem State.evtStatus_rput {s : State} {a : Nat} (ha : 0x1_0000 ≤ a ∧ a < 0x2_0000) (w : Word) :
    (s.rput a w).evtStatus = s.evtStatus := by
  simp (disch := omega) only [State.evtStatus, State.degraded, State.rget_rput, if_neg, State.rput_eph, State.rput_host]

/-- What an image's write to such a register does: an image passes the gate of its row, which has no lock. -/
theorem State.writeIn_image {s z : State} {l : Load} {a : Nat} {r : RegRow} {w : Word} (hheld : s.held = false)
    (hload : s.boot.load = some l) (ha : configAt a) (hr : rowOf a = some r) (hlock : r.lock = none) (hgate : r.gate = .img)
    (hz : (s.saveReg a).writeSpecial .image a w = some z) (hevt : z.evtStatus = (s.saveReg a).evtStatus) :
    s.writeIn .image a w = z := by
  have hup : s.pathUp .image = true := by simp [State.pathUp, State.live, hheld, hload]
  have hfuse : a ≠ 0x4_0108 := by unfold configAt at ha; omega
  have hcore : ¬ 0x100_0000 ≤ a := by unfold configAt at ha; omega
  have hreach : (s.saveReg a).writable .image a = true := by simp [State.writable, State.dieGone, State.coreOut, hr, hcore]
  have hhere : (s.saveReg a).writeHere .image a w = z := by
    simp [State.writeHere, hr, State.gateOpen, hgate, State.windowShut, hz]
  have hwrite : (s.saveReg a).writeReg .image a w = z := by
    rw [State.writeReg_unlocked hreach hr hlock, hhere, State.noteEvt_same hevt]
  simp [State.writeIn, hup, hload, badTarget_configAt ha hr, State.lockBroken_of_unlocked s hr hlock, State.imageWrite, hfuse, hwrite]

/-! ## The value remembered for a failed load (02 R59) -/

theorem State.saveReg_unstored {s : State} {a : Nat} (h : s.rawVal a = none) : s.saveReg a = s := by
  unfold State.saveReg
  rw [h]
  split <;> simp_all

@[simp] theorem State.saveReg_clk (s : State) (a : Nat) : (s.saveReg a).clk = s.clk := by
  unfold State.saveReg
  split
  · split <;> rfl
  · rfl

@[simp] theorem State.saveReg_rget (s : State) (a b : Nat) : (s.saveReg a).rget b = s.rget b := by
  unfold State.saveReg
  split
  · split <;> rfl
  · rfl

/-- SENSCTL holds no fields of a row that stores none. -/
theorem State.rawVal_sensctl {a : Nat} {r : RegRow} (s : State) (ha : 0xA_0000 ≤ a ∧ a < 0xA_1000) (hr : rowOf a = some r)
    (hrw : r.rw = 0) (hw1c : r.w1c = 0) : s.rawVal a = none := by
  have hheld : s.w1cHeld a = none := by
    unfold State.w1cHeld
    split
    case h_9 => simp [isFenceHist]; omega
    all_goals omega
  have hkeeps : keepsRaw a = false := by
    simp only [keepsRaw, Bool.or_eq_false_iff, Bool.and_eq_false_iff, decide_eq_false_iff_not, beq_eq_false_iff_ne]
    omega
  unfold State.rawVal
  rw [hheld, if_neg (by simp), if_neg (by omega)]
  split
  case h_7 => simp [hr, hrw, hw1c, hkeeps]
  all_goals omega

/-! ## What the registers do with a write -/

section
variable {s : State} {n : Nat}

theorem State.writeSpecial_scCmd (s : State) (hn : n < 16) (x : Word) :
    s.writeSpecial .image (0xA_0004 + 0x100 * n) x = some (scCmdWrite n x s) := by
  have hclear := clearGroup_configAt (a := 0xA_0004 + 0x100 * n) (by unfold configAt; omega)
  have hidx : (0xA_0004 + 0x100 * n - 0xA_0000) / 0x100 = n := by omega
  simp (disch := omega) only [State.writeSpecial, isPllCfg, hclear, Bool.and_eq_true, Bool.or_eq_true, decide_eq_true_eq,
    beq_iff_eq, if_neg, if_pos, hidx]

theorem State.writeSpecial_scFlush (s : State) (hn : n < 16) :
    s.writeSpecial .image (0xA_0010 + 0x100 * n) 1 = some (scFlush n s) := by
  have hclear := clearGroup_configAt (a := 0xA_0010 + 0x100 * n) (by unfold configAt; omega)
  have hidx : (0xA_0010 + 0x100 * n - 0xA_0000) / 0x100 = n := by omega
  simp (disch := omega) only [State.writeSpecial, isPllCfg, hclear, Bool.and_eq_true, Bool.or_eq_true, decide_eq_true_eq,
    beq_iff_eq, if_neg, if_pos, hidx]
  rfl

theorem State.writeSpecial_pllCfg (s : State) (hlo : 3 ≤ n) (hhi : n ≤ 6) (x : Word) :
    s.writeSpecial .image (0x1_0100 + 0x20 * n) x = some (s.pllCfgWrite n x) := by
  have hclear := clearGroup_configAt (a := 0x1_0100 + 0x20 * n) (by unfold configAt; omega)
  have hidx : (0x1_0100 + 0x20 * n - 0x1_0100) / 0x20 = n := by omega
  unfold State.writeSpecial isPllCfg
  simp only [hclear, Bool.or_eq_true, beq_iff_eq]
  rw [if_neg (by omega), if_pos (by omega), hidx]

theorem State.writeSpecial_sscCfg (s : State) (hn : n = 2 ∨ n = 5) (x : Word) :
    s.writeSpecial .image (0x1_0104 + 0x20 * n) x = some (s.sscWrite n x) := by
  rcases hn with rfl | rfl <;> rfl

theorem State.writeSpecial_mclkCfg (s : State) (hn : n < 16) (x : Word) :
    s.writeSpecial .image (0x1_0300 + 4 * n) x = some (s.mclkWrite n x) := by
  have hclear := clearGroup_configAt (a := 0x1_0300 + 4 * n) (by unfold configAt; omega)
  have hidx : (0x1_0300 + 4 * n - 0x1_0300) / 4 = n := by omega
  simp (disch := omega) only [State.writeSpecial, isPllCfg, hclear, Bool.and_eq_true, Bool.or_eq_true, decide_eq_true_eq,
    beq_iff_eq, if_neg, if_pos, hidx]

theorem scCmdWrite_evtStatus (n : Nat) (x : Word) (s : State) : (scCmdWrite n x s).evtStatus = s.evtStatus := by
  unfold scCmdWrite
  dsimp only
  split <;> rfl

theorem State.pllCfgWrite_evtStatus (s : State) (hlo : 3 ≤ n) (hhi : n ≤ 6) (x : Word) :
    (s.pllCfgWrite n x).evtStatus = s.evtStatus := by
  have hput := s.evtStatus_rput (a := 0x1_0100 + 0x20 * n) (by omega)
  unfold State.pllCfgWrite
  dsimp only
  split
  · rfl
  · split
    · rfl
    · split
      · exact hput _
      · exact hput _

theorem State.sscWrite_evtStatus (s : State) (hn : n = 2 ∨ n = 5) (x : Word) : (s.sscWrite n x).evtStatus = s.evtStatus := by
  unfold State.sscWrite
  split
  · exact s.evtStatus_rput (by omega) _
  · rfl

theorem State.mclkWrite_evtStatus (s : State) (hn : n < 16) (x : Word) : (s.mclkWrite n x).evtStatus = s.evtStatus := by
  unfold State.mclkWrite
  split
  · exact s.evtStatus_rput (by omega) _
  · rfl

/-! ## PLL_CFG, case by case (15 R397) -/

variable {x : Word} {lo hi : Nat} (hrange : pllRange n = (lo, hi))
include hrange

theorem State.pllCfgWrite_ignored (h : fld x 0 12 < lo ∨ hi < fld x 0 12) : s.pllCfgWrite n x = s := by
  simp [State.pllCfgWrite, hrange, h]

theorem State.pllCfgWrite_waits {q : Nat} (hlo : lo ≤ fld x 0 12) (hhi : fld x 0 12 ≤ hi) (h : s.clk.switching = some q) :
    s.pllCfgWrite n x = { s with clk := { s.clk with heldCfg := s.clk.heldCfg ++ [(n, x)] } } := by
  have hin : ¬ (fld x 0 12 < lo ∨ hi < fld x 0 12) := by omega
  simp [State.pllCfgWrite, hrange, hin, h]

/-- A change unlocks the PLL, which relocks on request. -/
theorem State.pllCfgWrite_changes {new : Word} (hlo : lo ≤ fld x 0 12) (hhi : fld x 0 12 ≤ hi) (h : s.clk.switching = none)
    (hnew : new = wd (x.toNat &&& 0x1_0FFF)) (hchange : s.pllCfg n ≠ new) :
    s.pllCfgWrite n x = { s.rput (0x1_0100 + 0x20 * n) new with clk := { s.clk with
      locked := nclr s.clk.locked n
      held := nclr s.clk.held n
      lost := nclr s.clk.lost n } } := by
  have hin : ¬ (fld x 0 12 < lo ∨ hi < fld x 0 12) := by omega
  simp [State.pllCfgWrite, hrange, hin, h, ← hnew, Ne.symm hchange]

end

/-! ## The writes of an image -/

section
variable {s : State} {l : Load} {n : Nat} (hheld : s.held = false) (hload : s.boot.load = some l) (x : Word)
include hheld hload

theorem State.writeIn_scCmd (hn : n < 16) : s.writeIn .image (0xA_0004 + 0x100 * n) x = scCmdWrite n x s := by
  have hr := rowOf_scCmd n hn
  have hsave : s.saveReg (0xA_0004 + 0x100 * n) = s := State.saveReg_unstored (s.rawVal_sensctl (by omega) hr rfl rfl)
  exact State.writeIn_image hheld hload (by unfold configAt; omega) hr rfl rfl (by rw [hsave, State.writeSpecial_scCmd s hn])
    (by rw [hsave, scCmdWrite_evtStatus])

theorem State.writeIn_scFlush (hn : n < 16) : s.writeIn .image (0xA_0010 + 0x100 * n) 1 = scFlush n s := by
  have hr := rowOf_scFlush n hn
  have hsave : s.saveReg (0xA_0010 + 0x100 * n) = s := State.saveReg_unstored (s.rawVal_sensctl (by omega) hr rfl rfl)
  exact State.writeIn_image hheld hload (by unfold configAt; omega) hr rfl rfl (by rw [hsave, State.writeSpecial_scFlush s hn])
    (by rw [hsave]; rfl)

theorem State.writeIn_pllCfg (hlo : 3 ≤ n) (hhi : n ≤ 6) :
    s.writeIn .image (0x1_0100 + 0x20 * n) x = (s.saveReg (0x1_0100 + 0x20 * n)).pllCfgWrite n x :=
  State.writeIn_image hheld hload (by unfold configAt; omega) (rowOf_pllCfg n (by omega) hlo) rfl rfl
    (State.writeSpecial_pllCfg _ hlo hhi x) (State.pllCfgWrite_evtStatus _ hlo hhi x)

theorem State.writeIn_sscCfg (hn : n = 2 ∨ n = 5) :
    s.writeIn .image (0x1_0104 + 0x20 * n) x = (s.saveReg (0x1_0104 + 0x20 * n)).sscWrite n x :=
  State.writeIn_image hheld hload (by unfold configAt; omega) (rowOf_sscCfg hn) rfl rfl
    (State.writeSpecial_sscCfg _ hn x) (State.sscWrite_evtStatus _ hn x)

theorem State.writeIn_mclkCfg (hn : n < 16) :
    s.writeIn .image (0x1_0300 + 4 * n) x = (s.saveReg (0x1_0300 + 4 * n)).mclkWrite n x :=
  State.writeIn_image hheld hload (by unfold configAt; omega) (rowOf_mclkCfg n hn) rfl rfl
    (State.writeSpecial_mclkCfg _ hn x) (State.mclkWrite_evtStatus _ hn x)

end

/-- Settles O38: a record's write goes to its register on the state that remembers the old value, and each register decides by the
fields of the word. -/
theorem imageConfigs : Obligations.ImageConfigs := by
  unfold Obligations.ImageConfigs
  rintro s u v t n a x new l lo hi rfl hheld hload hv
  have hword : ∀ m, new.toNat = x.toNat &&& m → new = wd (x.toNat &&& m) := fun m hm => by
    rw [← hm, wd, BitVec.ofNat_toNat, BitVec.setWidth_eq]
  have hclk : v.clk = (s.advance t).clk := by rw [hv, State.saveReg_clk]
  rw [exec_scCmd, exec_scFlush, exec_pllCfgWrite, exec_sscCfgWrite, exec_mclkCfgWrite]
  refine ⟨?cmd, ?flush, ?pll, ?ssc, ?mclk⟩
  case cmd =>
    intro hn
    rw [State.writeIn_scCmd hheld hload x hn]
    simp [scCmdWrite, or_assoc]
  case flush =>
    intro hn
    rw [State.writeIn_scFlush hheld hload hn, scFlush]
  case pll =>
    rintro hlo hhi rfl hrange
    rw [State.writeIn_pllCfg hheld hload x hlo hhi, ← hv]
    have hcfg : v.pllCfg n = (s.advance t).rget (0x1_0100 + 0x20 * n) := by
      rw [State.pllCfg_stored hlo hhi, hv, State.saveReg_rget]
    refine ⟨fun hout => ?_, fun h1 h2 hswitch hnew hchange => ?_, fun q h1 h2 hswitch => ?_⟩
    · rw [State.pllCfgWrite_ignored hrange hout]
    · rw [State.pllCfgWrite_changes hrange h1 h2 (by rw [hclk, hswitch]) (hword _ hnew) (by rwa [hcfg]), hclk]
    · rw [State.pllCfgWrite_waits hrange h1 h2 (by rw [hclk, hswitch]), hclk]
  case ssc =>
    rintro hn rfl
    rw [State.writeIn_sscCfg hheld hload x hn, ← hv]
    refine ⟨fun hok hnew => ?_, fun hbad => ?_⟩
    · rw [State.sscWrite, if_pos hok, hword _ hnew]
    · rw [State.sscWrite, if_neg (by simp [hbad])]
  case mclk =>
    rintro hn rfl
    rw [State.writeIn_mclkCfg hheld hload x hn, ← hv]
    refine ⟨fun hdiv hok hnew => ?_, fun hbad => ?_⟩
    · rw [State.mclkWrite, if_pos (by simp [hdiv, hok]), hword _ hnew]
    · rw [State.mclkWrite, if_neg (by simpa using fun hdiv => hbad.resolve_left (by omega))]

end Sys2Proof.Machine
end

section
/-! Parameter sets (spec/04_front_stage_and_taps.md R122, R123): a write of PS_CTRL goes to `psCtrl` on the state that has received
it over its path, and what COMMIT, NEXT and DISCARD do is read off there. -/

namespace Sys2Proof.Machine

/-! ## The commands -/

theorem exec_commit (t : Nat) (p : Path) (src : Nat) (d : Bool) (s : State) :
    exec (.commit t p src d) s = .next ((s.advance t).writeIn p (psAt src + 4) (wd (1 + 4 * b2n d))) := rfl
theorem exec_next (t : Nat) (p : Path) (src : Nat) (d : Bool) (s : State) :
    exec (.next t p src d) s = .next ((s.advance t).writeIn p (psAt src + 4) (wd (3 + 4 * b2n d))) := rfl
theorem exec_discard (t : Nat) (p : Path) (src : Nat) (s : State) :
    exec (.discard t p src) s = .next ((s.advance t).writeIn p (psAt src + 4) 4) := rfl

/-! ## PS_CTRL on its path -/

/-- The windows of parameter sets are open to every path, and no lock protects them. -/
theorem rowOf_psAt {src off : Nat} {r : RegRow} (hsrc : src < 4096) (hoff : off < 0x800) (hr : rowOf (psAt src + off) = some r) :
    r.gate = .any ∧ r.lock = none := by
  have hrows : rowsAt (psAt src + off) = rowsEph := by
    unfold rowsAt psAt
    repeat rw [if_neg (by omega)]
    exact if_pos (by omega)
  have hopen : ∀ r ∈ rowsEph, 0x50_0000 ≤ r.last → r.gate = .any ∧ r.lock = none := by decide
  rw [rowOf, hrows] at hr
  have hlast := RegRow.covers_le_last (List.find?_some (p := (RegRow.covers · (psAt src + off))) hr)
  exact hopen r (List.mem_of_find?_eq_some hr) (by unfold psAt at hlast; omega)

theorem clearGroup_psAt {src off : Nat} (hsrc : src < 4096) (hoff : off < 0x800) : clearGroup (psAt src + off) = none := by
  unfold clearGroup psAt
  simp only [Bool.and_eq_true, decide_eq_true_eq]
  repeat rw [if_neg (by omega)]

theorem State.writeSpecial_psCtrl (s : State) (p : Path) {src : Nat} (hsrc : src < 4096) (w : Word) :
    s.writeSpecial p (psAt src + 4) w = some (psCtrl src (bit w 0) (bit w 1) (bit w 2) s) := by
  have hclear := clearGroup_psAt hsrc (off := 4) (by decide)
  have hidx : (psAt src + 4 - 0x50_0000) / 0x800 = src := by unfold psAt; omega
  have hlo : 0x50_0004 ≤ psAt src + 4 := by unfold psAt; omega
  have hhi : psAt src + 4 < 0xD0_0000 := by unfold psAt; omega
  have hoff : (psAt src + 4) % 0x800 = 4 := by unfold psAt; omega
  simp (disch := omega) only [State.writeSpecial, isPllCfg, hclear, Bool.and_eq_true, Bool.or_eq_true, decide_eq_true_eq,
    beq_iff_eq, if_neg, if_pos, hidx]

/-- R123: a write of software to PS_CTRL, outside a re-arm. -/
theorem State.writeIn_psCtrl {s v : State} {p : Path} {src : Nat} (ht : s.takes p (psAt src + 4)) (hv : v = s.linkRx p)
    (hsrc : src < 4096) (hphase : s.boot.phase ≠ .rearming) (w : Word) :
    s.writeIn p (psAt src + 4) w = (psCtrl src (bit w 0) (bit w 1) (bit w 2) v).noteEvt v.evtStatus := by
  obtain ⟨hp, -, hup, hw⟩ := ht
  have hsome : (rowOf (psAt src + 4)).isSome = true := by
    simp only [State.writable, Bool.and_eq_true] at hw
    obtain ⟨⟨⟨hrow, -⟩, -⟩, -⟩ := hw
    exact hrow
  obtain ⟨r, hr⟩ := Option.isSome_iff_exists.mp hsome
  obtain ⟨hgate, hlock⟩ := rowOf_psAt hsrc (by decide) hr
  have hhere : v.writeHere p (psAt src + 4) w = psCtrl src (bit w 0) (bit w 1) (bit w 2) v := by
    simp [State.writeHere, hr, hgate, State.gateOpen, State.windowShut, hv, hphase, State.writeSpecial_psCtrl _ p hsrc]
  rw [State.writeIn_up hp hup, ← hv, State.writeReg_unlocked (by simpa [hv] using hw) hr hlock, hhere]

/-! ## What reception over the link leaves of a source's sets -/

@[simp] theorem State.linkRx_ps (s : State) (p : Path) (src : Nat) : (s.linkRx p).ps src = s.ps src := by
  unfold State.linkRx; split <;> rfl

theorem State.linkRx_rget_psAt (s : State) (p : Path) (src off : Nat) :
    (s.linkRx p).rget (psAt src + off) = s.rget (psAt src + off) :=
  s.linkRx_rget p (by unfold psAt; omega) (by unfold psAt; omega)

@[simp] theorem State.linkRx_psShadow (s : State) (p : Path) (src : Nat) : (s.linkRx p).psShadow src = s.psShadow src := by
  simp only [State.psShadow, State.linkRx_rget_psAt]

/-! ## COMMIT, NEXT and DISCARD (R123) -/

theorem State.putPs_evtStatus (s : State) (src : Nat) (q : ParamSet) : (s.putPs src q).evtStatus = s.evtStatus := rfl

theorem psCtrl_discard (src : Nat) (next : Bool) (s : State) :
    psCtrl src false next true s = s.putPs src { s.ps src with pend := none } := rfl

/-- The set that a COMMIT with the bit DISCARD, or without it, works on. -/
def ParamSet.afterDiscard (q : ParamSet) (d : Bool) : ParamSet := if d = true then { q with pend := none } else q

section
variable {src : Nat} {s : State} {q : ParamSet} {d : Bool} (hq : q = (s.ps src).afterDiscard d)
include hq

theorem psCtrl_refuses (h : swOk 64 (setWords (s.psShadow src)) = false) (next : Bool) :
    psCtrl src true next d s = (s.putPs src { q with refused := true }).bumpFront 3 := by
  simp [psCtrl, h, hq, ParamSet.afterDiscard]

/-- The set taken from the shadow becomes pending. -/
theorem psCtrl_takes (h : swOk 64 (setWords (s.psShadow src)) = true) (next : Bool) :
    psCtrl src true next d s = (if q.pend.isSome = true then s.bumpFront 2 else s).putPs src { q with
      pend := some { bytes := s.psShadow src, target := (s.rget (psAt src)).toNat, next, epoch := (q.lastEpoch + 1) % 65536 }
      lastEpoch := (q.lastEpoch + 1) % 65536
      refused := false } := by
  simp [psCtrl, h, hq, ParamSet.afterDiscard]

end

/-- The bits of the word of a COMMIT (1) or NEXT (3). -/
theorem commitWord_bits (d : Bool) :
    (bit (wd (1 + 4 * b2n d)) 0 = true ∧ bit (wd (1 + 4 * b2n d)) 1 = false ∧ bit (wd (1 + 4 * b2n d)) 2 = d)
    ∧ (bit (wd (3 + 4 * b2n d)) 0 = true ∧ bit (wd (3 + 4 * b2n d)) 1 = true ∧ bit (wd (3 + 4 * b2n d)) 2 = d) := by
  cases d <;> decide

section
variable {u v : State} {p : Path} {src : Nat} (ht : u.takes p (psAt src + 4)) (hv : v = u.linkRx p) (hsrc : src < 4096)
  (hphase : u.boot.phase ≠ .rearming)
include ht hv hsrc hphase

theorem State.commit_takes (d : Bool) :
    u.writeIn p (psAt src + 4) (wd (1 + 4 * b2n d)) = (psCtrl src true false d v).noteEvt v.evtStatus := by
  obtain ⟨⟨hcommit, hnext, hdiscard⟩, -⟩ := commitWord_bits d
  rw [State.writeIn_psCtrl ht hv hsrc hphase, hcommit, hnext, hdiscard]

theorem State.next_takes (d : Bool) :
    u.writeIn p (psAt src + 4) (wd (3 + 4 * b2n d)) = (psCtrl src true true d v).noteEvt v.evtStatus := by
  obtain ⟨-, hcommit, hnext, hdiscard⟩ := commitWord_bits d
  rw [State.writeIn_psCtrl ht hv hsrc hphase, hcommit, hnext, hdiscard]

/-- To drop a pending set raises no event. -/
theorem State.discard_takes : u.writeIn p (psAt src + 4) 4 = v.putPs src { v.ps src with pend := none } := by
  obtain ⟨hcommit, hdiscard⟩ : bit 4 0 = false ∧ bit 4 2 = true := by decide
  rw [State.writeIn_psCtrl ht hv hsrc hphase, hcommit, hdiscard, psCtrl_discard]
  exact State.noteEvt_same (v.putPs_evtStatus src _)

end

/-- Settles O37: the three commands are one write of PS_CTRL with other bits; the shadow's sensor-write words decide between refusal
and a new pending set. -/
theorem paramCommands : Obligations.ParamCommands := by
  unfold Obligations.ParamCommands
  rintro s u v t src p d q rfl hv hsrc hphase ht
  have hps : v.ps src = (s.advance t).ps src := by rw [hv, State.linkRx_ps]
  have hshadow : v.psShadow src = (s.advance t).psShadow src := by rw [hv, State.linkRx_psShadow]
  have htarget : v.rget (psAt src) = (s.advance t).rget (psAt src) := by rw [hv]; exact State.linkRx_rget_psAt _ p src 0
  rw [exec_commit, exec_next, exec_discard, State.discard_takes ht hv hsrc hphase, State.commit_takes ht hv hsrc hphase,
    State.next_takes ht hv hsrc hphase, ← hps, ← hshadow, ← htarget]
  refine ⟨rfl, fun hq => ⟨fun hbad => ?refused, fun hok z f hz hf => ?pending⟩⟩
  case refused =>
    rw [psCtrl_refuses hq hbad, psCtrl_refuses hq hbad]
    exact ⟨rfl, rfl⟩
  case pending =>
    rw [psCtrl_takes hq hok, psCtrl_takes hq hok, ← hz, ← hf, ← hf]
    exact ⟨rfl, rfl⟩

end Sys2Proof.Machine
end

section
/-! Issue of data instructions (spec/05_orlet_core.md R152, spec/07 R187 to R189): which heads of a queue each command accepts, and
what issuing does at each of its guards. -/

namespace Sys2Proof.Machine

/-! ## Which instructions a command accepts -/

/-- A command accepts an instruction, and none with another opcode. -/
def Accepts (want : List Byte → Bool) (r : List Byte) : Prop := want r = true ∧ ∀ q, leAt q 0 1 ≠ leAt r 0 1 → want q = false

section
variable {r : List Byte} {o : Nat} (ho : leAt r 0 1 = o)
include ho

theorem isOp_accepts : Accepts (isOp o) r := by
  subst ho
  exact ⟨by simp [isOp], fun q hq => by simp [isOp, hq]⟩

theorem isSub_accepts_forward (hsub : leAt r 0x0E 1 ≠ 1) : Accepts (isSub o 0) r := by
  subst ho
  exact ⟨by simp [isSub, hsub], fun q hq => by simp [isSub, hq]⟩

theorem isSub_accepts_inverse (hsub : leAt r 0x0E 1 = 1) : Accepts (isSub o 1) r := by
  subst ho
  exact ⟨by simp [isSub, hsub], fun q hq => by simp [isSub, hq]⟩

end

theorem isUpdate_accepts {r : List Byte} {mode : Nat} (ho : leAt r 0 1 = 0x22) (hmode : leAt r 0x34 1 % 4 = mode) :
    Accepts (isUpdate mode) r :=
  ⟨by simp [isUpdate, ho, hmode], fun q hq => by
    have hother : leAt q 0 1 ≠ 0x22 := ho ▸ hq
    simp [isUpdate, hother]⟩

/-! ## A head that does not issue (R152, 05 R131) -/

section
variable {u : State} {n c : Nat} {want : List Byte → Bool} (hc : c = (u.core n).cur)
include hc

theorem State.issueData_idle (h : u.ctxRuns n c = false ∨ u.head n c = none) : u.issueData n want = u := by
  subst hc
  rcases h with hstopped | hempty
  · simp only [State.issueData, hstopped, Bool.not_false, if_true]
  · simp only [State.issueData, hempty, ite_self]

theorem State.issueData_other {j : Nat} {q : List Byte} (hhead : u.head n c = some (j, q)) (hnot : want q = false)
    (hknown : knownOpcode q = true) : u.issueData n want = u := by
  subst hc
  simp only [State.issueData, hhead, hnot, hknown, Bool.not_true, Bool.or_self, Bool.not_false, if_true, ite_self]

variable {i : Nat} {r : List Byte} (hrun : u.ctxRuns n c = true) (hhead : u.head n c = some (i, r)) (hwant : want r = true)
include hrun hhead hwant

theorem State.issueData_waits (hwait : u.dataWaits n c = true) : u.issueData n want = u := by
  subst hc
  simp [State.issueData, hrun, hhead, hwant, hwait]

variable (hfree : u.dataWaits n c = false)
include hfree

theorem State.issueData_entryError {a : Nat} (hue : u.headUe n c = some a) : u.issueData n want = u.fenceHead n a := by
  subst hc
  simp [State.issueData, hrun, hhead, hwant, hfree, hue]

/-! ## The checks of Table 7.7 and the streams (R187, R188, 11 R283) -/

variable (hue : u.headUe n c = none)
include hue

/-- One of checks 1 to 7 fails. -/
theorem State.issueData_refused {e : IssueErr} (hres : u.resolve n c i r = .error e) :
    u.issueData n want = u.issueFail n c i r e := by
  subst hc
  simp [State.issueData, hrun, hhead, hwant, hfree, hue, hres]

variable {o : Op} (hres : u.resolve n c i r = .ok o)
include hres

theorem State.issueData_noSlots (hslots : u.freeSlots n o.streamCount [] = none) :
    u.issueData n want = if (tfind (u.core n).walks c).isSome then u else u.coreWaits n := by
  subst hc
  simp [State.issueData, hrun, hhead, hwant, hfree, hue, hres, hslots]

variable {sl : List Nat} {z : State} {o1 : Op} (hslots : u.freeSlots n o.streamCount [] = some sl)
  (hopen : u.openStreams n c o (u.foldW n r) sl = (z, o1))
include hslots hopen

/-- One of checks 8 to 15 fails, with the streams activated already. -/
theorem State.issueData_cancels {e : IssueErr} (hlate : u.lateChecks n o = .error e) :
    u.issueData n want = (z.cancelOps n sl).issueFail n c i r e := by
  subst hc
  simp [State.issueData, hrun, hhead, hwant, hfree, hue, hres, hslots, hopen, hlate]

theorem State.issueData_issues (hlate : u.lateChecks n o = .ok ()) :
    u.issueData n want = (((z.issued n c i).noteResplit n c i o1).beginOp n c o1).wake n := by
  subst hc
  simp [State.issueData, hrun, hhead, hwant, hfree, hue, hres, hslots, hopen, hlate]

end

/-! ## Where the issued work begins (R189) -/

section
variable {w : State} {k : CoreS} {n c : Nat} {o : Op} (hk : k = w.core n)
include hk

theorem State.beginOp_behindWalk {q : Walk} (hwalk : tfind k.walks c = some q) :
    w.beginOp n c o = w.putCore n { k with queued := tput k.queued c o } := by
  subst hk
  simp [State.beginOp, hwalk]

theorem State.beginOp_walk (hwalk : tfind k.walks c = none) (harray : o.array = true) :
    w.beginOp n c o = w.putCore n { k with walks := tput k.walks c (Walk.start o), waiting := false } := by
  subst hk
  simp [State.beginOp, State.startOp, hwalk, harray]

theorem State.beginOp_run (hwalk : tfind k.walks c = none) (harray : o.array = false) :
    w.beginOp n c o = w.putCore n { k with drain := k.drain ++ [DrainJob.run o], waiting := false } := by
  subst hk
  simp [State.beginOp, State.startOp, hwalk, harray]

end

/-- Settles O45: every row's command is one call of `issueData` that accepts the row's instruction and no other opcode; the clauses
are that function's guards in order. -/
theorem dataIssue : Obligations.DataIssue := by
  unfold Obligations.DataIssue
  rintro s u t n c i r cmd hu hc hrow
  have hissue : ∃ want, Accepts want r ∧ exec cmd s = .next (u.issueData n want) := by
    subst hu
    rcases hrow with ⟨ho, rfl⟩ | ⟨ho, rfl⟩ | ⟨ho, rfl⟩ | ⟨ho, hsub, rfl⟩ | ⟨ho, hsub, rfl⟩ | ⟨ho, hsub, rfl⟩ | ⟨ho, hsub, rfl⟩
      | ⟨ho, hsub, rfl⟩ | ⟨ho, hsub, rfl⟩ | ⟨ho, rfl⟩ | ⟨ho, rfl⟩ | ⟨ho, rfl⟩ | ⟨ho, rfl⟩ | ⟨ho, hmode, rfl⟩ | ⟨ho, hmode, rfl⟩
      | ⟨ho, hmode, rfl⟩
    · exact ⟨_, isOp_accepts ho, rfl⟩
    · exact ⟨_, isOp_accepts ho, rfl⟩
    · exact ⟨_, isOp_accepts ho, rfl⟩
    · exact ⟨_, isSub_accepts_forward ho hsub, rfl⟩
    · exact ⟨_, isSub_accepts_inverse ho hsub, rfl⟩
    · exact ⟨_, isSub_accepts_forward ho hsub, rfl⟩
    · exact ⟨_, isSub_accepts_inverse ho hsub, rfl⟩
    · exact ⟨_, isSub_accepts_forward ho hsub, rfl⟩
    · exact ⟨_, isSub_accepts_inverse ho hsub, rfl⟩
    · exact ⟨_, isOp_accepts ho, rfl⟩
    · exact ⟨_, isOp_accepts ho, rfl⟩
    · exact ⟨_, isOp_accepts ho, rfl⟩
    · exact ⟨_, isOp_accepts ho, rfl⟩
    · exact ⟨_, isUpdate_accepts ho hmode, rfl⟩
    · exact ⟨_, isUpdate_accepts ho hmode, rfl⟩
    · exact ⟨_, isUpdate_accepts ho hmode, rfl⟩
  obtain ⟨want, ⟨hwant, hothers⟩, hexec⟩ := hissue
  rw [hexec]
  refine ⟨fun hrun hhead hfree hue => ⟨?issues, ?noSlots, ?cancels, ?refused⟩, ?entryError, ?waits, ?idle, ?other⟩
  case issues =>
    intro o sl z o1 w k hres hslots hopen hlate hw hk
    rw [State.issueData_issues hc hrun hhead hwant hfree hue hres hslots hopen hlate, ← hw]
    refine ⟨fun q hwalk => ?_, fun hwalk harray => ?_, fun hwalk harray => ?_⟩
    · rw [State.beginOp_behindWalk hk hwalk]
    · rw [State.beginOp_walk hk hwalk harray]
    · rw [State.beginOp_run hk hwalk harray]
  case noSlots =>
    intro o hres hslots
    rw [State.issueData_noSlots hc hrun hhead hwant hfree hue hres hslots]
  case cancels =>
    intro o sl z o1 e hres hslots hopen hlate
    rw [State.issueData_cancels hc hrun hhead hwant hfree hue hres hslots hopen hlate]
  case refused =>
    intro e hres
    rw [State.issueData_refused hc hrun hhead hwant hfree hue hres]
  case entryError =>
    intro hrun hhead hfree a hue
    rw [State.issueData_entryError hc hrun hhead hwant hfree hue, State.fenceHead]
  case waits =>
    intro hrun hhead hwait
    rw [State.issueData_waits hc hrun hhead hwant hwait]
  case idle =>
    intro h
    rw [State.issueData_idle hc h]
  case other =>
    intro j q hhead hop hknown
    rw [State.issueData_other hc hhead (hothers q hop) hknown]

end Sys2Proof.Machine
end

section
/-! Fetch of a program's instructions, signals that reach their semaphores, and the answers of work counters (spec/05_orlet_core.md
R151, spec/10_stage_pipeline_and_partitions.md R254 to R262; spec/14_faults_and_recovery.md R368 for their errors). -/

namespace Sys2Proof.Machine

/-! ## The commands -/

theorem exec_macroFetch (t n c : Nat) (ecc : Option Bool) (s : State) :
    exec (.macroFetch t n c ecc) s = .next (macroFetch n c ecc (s.advance t)) := rfl
theorem exec_semaphoreUpdate (t : Nat) (ecc : Option Bool) (s : State) :
    exec (.semaphoreUpdate t ecc) s = .next (semaphoreUpdate ecc (s.advance t)) := rfl
theorem exec_claimAnswer (t n c : Nat) (stuck : Bool) (ecc : Option Bool) (s : State) :
    exec (.claimAnswer t n c stuck ecc) s = .next (claimAnswer n c stuck ecc (s.advance t)) := rfl

/-! ## Fetch (R151, R180) -/

section
variable {s : State} {n c : Nat}

theorem macroFetch_idle (h : s.ctxRuns n c = false ∨ s.mqEntries n c ≤ (s.ctx n c).queue.length ∨ (s.ctx n c).fetchFree = false)
    (ecc : Option Bool) : macroFetch n c ecc s = s := by
  rcases h with hstopped | hfull | hheld
  · simp [macroFetch, hstopped]
  · have hroom : ¬ (s.ctx n c).queue.length < s.mqEntries n c := by omega
    simp [macroFetch, hroom]
  · simp [macroFetch, hheld]

variable {i a : Nat} (hc : c < 4) (hi : i = (s.ctx n c).fetchNext) (ha : a = s.macroAt n c i) (hrun : s.ctxRuns n c = true)
  (hroom : (s.ctx n c).queue.length < s.mqEntries n c) (hfree : (s.ctx n c).fetchFree = true)
include hc hi ha hrun hroom hfree

theorem macroFetch_fences {ecc : Option Bool} (h : s.poisonedIn a 64 = true ∨ ecc = some true) :
    macroFetch n c ecc s = s.fenceCore n { cls := 0x11, action := 3, unit := n, detail := memOffset a } := by
  simp [macroFetch, hc, hrun, hroom, hfree, ← hi, ← ha, h]

variable (hgood : s.poisonedIn a 64 = false)
include hgood

theorem macroFetch_queues : macroFetch n c none s
    = ((s.modCtx n c (fun x => { x with queue := x.queue ++ [(i, s.rd a 64)], fetched := x.fetched + 1 })).queueWritten
        (mqAt n (s.queueEntry n c (s.ctx n c).fetched))).wake n := by
  simp [macroFetch, hc, hrun, hroom, hfree, ← hi, ← ha, hgood]

theorem macroFetch_corrected : macroFetch n c (some false) s
    = ((State.modCtx (s.raise { cls := 0x10, action := 1, unit := n, detail := memOffset a }) n c (fun x =>
        { x with queue := x.queue ++ [(i, s.rd a 64)], fetched := x.fetched + 1 })).queueWritten
        (mqAt n (s.queueEntry n c (s.ctx n c).fetched))).wake n := by
  simp [macroFetch, hc, hrun, hroom, hfree, ← hi, ← ha, hgood]

end

/-! ## Signals (R254, R257) -/

/-- A word of a control array that is read without an error. -/
@[simp] theorem State.ctrlEcc_none (s : State) (die l : Nat) (t : Option Tag) : s.ctrlEcc die l t none = s := rfl

theorem semaphoreUpdate_idle {s : State} (h : s.signals = []) (ecc : Option Bool) : semaphoreUpdate ecc s = s := by
  simp [semaphoreUpdate, h]

theorem semaphoreUpdate_oldest {s z : State} {g : Signal} {rest : List Signal} (h : s.signals = g :: rest)
    (hz : z = { s with signals := rest }) (ecc : Option Bool) : semaphoreUpdate ecc s
      = ((z.ctrlEcc (s.link g.link).semDie g.link g.tag ecc).applySignal g).wakeAll := by
  simp [semaphoreUpdate, h, hz]

section
variable {s : State} {g : Signal}

theorem State.applySignal_fenced (h : (s.lnk g.link).fenced = true) : s.applySignal g = s := by
  simp [State.applySignal, h]

variable (hopen : (s.lnk g.link).fenced = false)
include hopen

theorem State.applySignal_full (hfull : g.full = true) (hplain : (s.link g.link).claimed = false)
    (hok : (s.lnk g.link).fullOk (s.link g.link) g.count = true) : s.applySignal g = s.publishAll g.link g.tags := by
  simp [State.applySignal, hopen, hfull, hplain, hok]

theorem State.applySignal_empty (hempty : g.full = false) (hok : (s.lnk g.link).emptyOk (s.link g.link) g.member g.count = true) :
    s.applySignal g = s.signalEmpty g.link g.member g.count := by
  simp [State.applySignal, hopen, hempty, hok]

end

/-! ## What a counter answers (R262) -/

section
variable {w : WorkCtr} {g : Tag} {limit : Nat}

theorem WorkCtr.answer_free (hcur : w.cur = none) (hprev : w.prev = none) : w.answer g limit false
    = (.tile 0 w.seq, { w with seq := (w.seq + 1) % 2 ^ 32, prev := none, cur := some g, next := 1, limit }) := by
  simp [WorkCtr.answer, hcur, hprev]

variable {c : Tag} (hcur : w.cur = some c) (hsame : c.same g = true)
include hcur hsame

theorem WorkCtr.answer_next (hleft : w.next < w.limit) : w.answer g limit false
    = (.tile w.next w.seq, { w with seq := (w.seq + 1) % 2 ^ 32, next := w.next + 1 }) := by
  simp [WorkCtr.answer, hcur, hsame, hleft]

theorem WorkCtr.answer_exhausted (hnone : w.limit ≤ w.next) : (w.answer g limit false).1 = .exhausted w.seq := by
  have hover : ¬ w.next < w.limit := by omega
  simp [WorkCtr.answer, hcur, hsame, hover]

end

/-! ## The answer reaches its context (R262) -/

section
variable {s : State} {n c i l : Nat} {a : ClaimAsk} {r : List Byte} {w w' : WorkCtr} (hrun : s.ctxRuns n c = true)
  (hask : (s.ctx n c).asked = some a) (hhead : s.head n c = some (i, r)) (hl : l = s.ctrLink a.counter)
  (hw : w = tget WorkCtr.init s.wctrs a.counter) (hopen : (s.lnk l).fenced = false)
include hrun hask hhead hl hw hopen

theorem claimAnswer_notReady (hans : w.answer a.tag a.limit false = (.notReady, w')) : claimAnswer n c false none s = s := by
  simp [claimAnswer, hrun, hask, hhead, ← hl, hopen, ← hw, hans]

theorem claimAnswer_tile {k q : Nat} {d : Tag} (hans : w.answer a.tag a.limit false = (.tile k q, w')) (hcur : w.cur = some d)
    (hsame : d.same a.tag = true) : claimAnswer n c false none s
      = State.noteAdvance (State.claimTake (State.useSlot { s with wctrs := tput s.wctrs a.counter w' } l a.tag k) n c i r a k q)
        (s.linkPart l) := by
  simp [claimAnswer, hrun, hask, hhead, ← hl, hopen, ← hw, hans, hcur, hsame]

end

/-- Settles O47, part by part: fetch, the oldest signal, the counter's own answer, and what it does to the context that asked. -/
theorem semaphores : Obligations.Semaphores := by
  unfold Obligations.Semaphores
  refine ⟨?fetch, ?signals, ?answers, ?claims⟩
  case fetch =>
    rintro s u t n c i a rfl hc hi ha
    simp only [exec_macroFetch]
    refine ⟨fun hrun hroom hfree => ⟨fun hgood => ⟨?_, ?_⟩, fun e h => ?_⟩, fun h e => ?_⟩
    · rw [macroFetch_queues hc hi ha hrun hroom hfree hgood]
    · rw [macroFetch_corrected hc hi ha hrun hroom hfree hgood]
    · rw [macroFetch_fences hc hi ha hrun hroom hfree h]
    · rw [macroFetch_idle h]
  case signals =>
    rintro s u t rfl
    simp only [exec_semaphoreUpdate]
    refine ⟨fun h e => ?_, fun g rest z x h hz hx => ?_⟩
    · rw [semaphoreUpdate_idle h]
    have hlnk : z.lnk g.link = x := by rw [hz, hx]; rfl
    have hlink : z.link g.link = (s.advance t).link g.link := by rw [hz]; rfl
    have hpart : z.linkPart g.link = (s.advance t).linkPart g.link := by rw [hz]; rfl
    rw [semaphoreUpdate_oldest h hz, semaphoreUpdate_oldest h hz, State.ctrlEcc_none, ← hlink, ← hpart]
    refine ⟨fun hfenced => ?_, ?_, fun hopen hfull hplain hok => ?_, fun hopen hempty hok => ?_⟩
    · rw [State.applySignal_fenced (hlnk ▸ hfenced)]
    · rfl
    · rw [State.applySignal_full (hlnk ▸ hopen) hfull hplain (hlnk ▸ hok)]
    · rw [State.applySignal_empty (hlnk ▸ hopen) hempty (hlnk ▸ hok), State.signalEmpty, hlnk]
  case answers =>
    intro w g limit
    exact ⟨fun c hcur hsame hleft => WorkCtr.answer_next hcur hsame hleft,
      fun c hcur hsame hnone => WorkCtr.answer_exhausted hcur hsame hnone, WorkCtr.answer_free⟩
  case claims =>
    rintro s u t n c i l a r w w' rfl hrun hask hhead hl hw hopen
    simp only [exec_claimAnswer]
    refine ⟨fun hans => ?_, fun k q d hans hcur hsame => ?_⟩
    · rw [claimAnswer_notReady hrun hask hhead hl hw hopen hans]
    · rw [claimAnswer_tile hrun hask hhead hl hw hopen hans hcur hsame]

end Sys2Proof.Machine
end

section
/-! Cycles of the array, residue intervals and their comparison (spec/05_orlet_core.md R134, R147 to R150;
spec/14_faults_and_recovery.md R370, R372), and what a core that does not run leaves alone. -/

namespace Sys2Proof.Machine

/-! ## The commands -/

theorem exec_coreCycle (t n : Nat) (e : Upset) (s : State) : exec (.coreCycle t n e) s = .next (coreCycle n e (s.advance t)) := rfl
theorem exec_residueIntervalTimeout (t n : Nat) (s : State) :
    exec (.residueIntervalTimeout t n) s = .next (residueTimeout n (s.advance t)) := rfl
theorem exec_residueCompare (t n : Nat) (s : State) : exec (.residueCompare t n) s = .next (residueCompare n (s.advance t)) := rfl
theorem exec_drainRow (t n : Nat) (e : Upset) (s : State) : exec (.drainRow t n e) s = .next (drainRow n e (s.advance t)) := rfl
theorem exec_publication (t n : Nat) (s : State) : exec (.publication t n) s = .next (publication n (s.advance t)) := rfl

/-! ## A core that does not run -/

section
variable {s : State} {n : Nat} (hstopped : s.coreRuns n = false)
include hstopped

theorem coreCycle_stopped (e : Upset) : coreCycle n e s = s := by simp [coreCycle, hstopped]
theorem drainRow_stopped (e : Upset) : drainRow n e s = s := by simp [drainRow, hstopped]
theorem residueTimeout_stopped : residueTimeout n s = s := by simp [residueTimeout, hstopped]
theorem residueCompare_stopped : residueCompare n s = s := by simp [residueCompare, hstopped]
theorem publication_stopped : publication n s = s := by simp [publication, hstopped]

end

/-! ## Cycles of the array (R134, R150, 14 R370, R372) -/

section
variable {s : State} {n : Nat} (hrun : s.coreRuns n = true)
include hrun

theorem coreCycle_lockstep : coreCycle n .lockstep s
    = State.fenceCore { s with freeCount := s.freeCount + 1 } n
        { cls := 0x21, action := 3, unit := n, detail := Config.freeNat s.freeCount % 2 ^ 64 } := by
  simp [coreCycle, hrun, State.lockstep, State.freeN]

theorem coreCycle_waits (hnone : s.arrayWalk n = none) : coreCycle n .none s = s.coreWaits n := by
  simp [coreCycle, hrun, hnone]

variable {w : Walk} (hwalk : s.arrayWalk n = some w)
include hwalk

theorem coreCycle_walks : coreCycle n .none s = s.walkCycle n w none := by
  simp [coreCycle, hrun, hwalk]

theorem coreCycle_uncorrectable (htile : w.inTile = true) (a : Nat) :
    coreCycle n (.ecc true a) s = s.tileFails n w 0x11 a := by
  simp [coreCycle, hrun, hwalk, htile]

/-- A parity error is seen by a lane that selects in the cycle, whose row is not held by the drain. -/
theorem coreCycle_parity {lane : Nat} (hsel : w.selects lane = true) (hrow : w.replay = true ∨ s.rowBusy n (w.row0 + w.m) = false)
    (hen : bit (s.rget (coreReg n 0x40)) 1 = true) : coreCycle n (.parity lane) s = s.residueFails n w lane 3 := by
  have hpresented : (!w.replay && s.rowBusy n (w.row0 + w.m)) = false := by
    rcases hrow with hreplay | hidle
    · rw [hreplay]; rfl
    · rw [hidle, Bool.and_false]
  simp [coreCycle, hrun, hwalk, hsel, hpresented, hen]

end

theorem State.residueFails_parity {s : State} {n lane v : Nat} {w : Walk} (hv : v = s.resLast n lane w.op.ctx 3) :
    s.residueFails n w lane 3 = ((s.bumpCore n 3).rput (coreReg n 0x44) (wd v)).tileFails n w 0x20 (w.detail v) := by
  simp [State.residueFails, hv]

/-- A comparison that fails closes with 0 or 2 and counts in RES_FAIL. -/
theorem State.residueFails_compare {s : State} {n lane close v : Nat} {w : Walk} (hclose : close ≠ 3)
    (hv : v = s.resLast n lane w.op.ctx close) :
    s.residueFails n w lane close = ((s.bumpCore n 2).rput (coreReg n 0x44) (wd v)).tileFails n w 0x20 (w.detail v) := by
  simp [State.residueFails, hv, hclose]

/-! ## Residue intervals (R148) -/

theorem residueTimeout_noWalk {s : State} {n : Nat} (hnone : s.arrayWalk n = none) : residueTimeout n s = s := by
  simp [residueTimeout, hnone]

section
variable {s : State} {n o : Nat} (hopen : (s.core n).openAt = some o)
include hopen

theorem residueTimeout_early (h : s.now < o + 40_000) : residueTimeout n s = s := by
  have hshort : ¬ o + 40_000 ≤ s.now := by omega
  cases hwalk : s.arrayWalk n <;> simp [residueTimeout, hopen, hwalk, hshort]

theorem residueTimeout_closes {w : Walk} {k : CoreS} (hrun : s.coreRuns n = true) (hwalk : s.arrayWalk n = some w)
    (hk : k = s.core n) (h : o + 40_000 ≤ s.now) : residueTimeout n s = s.putCore n { k with
      closed := k.closed ++ [{ walk := w, tileEnd := false, pres := k.pres, ares := k.ares, excl := k.excl }]
      pres := []
      ares := []
      excl := 0
      openAt := none } := by
  subst hk
  simp [residueTimeout, hrun, hopen, hwalk, h, CoreS.newInterval]

end

/-! ## The comparison (R147, R150) -/

theorem residueCompare_idle {s : State} {n : Nat} (h : (s.core n).closed = []) : residueCompare n s = s := by
  simp [residueCompare, h]

section
variable {s z : State} {n : Nat} {x : Closed} {rest : List Closed} (hrun : s.coreRuns n = true)
  (hclosed : (s.core n).closed = x :: rest) (hz : z = s.putCore n { s.core n with closed := rest })
include hrun hclosed hz

theorem residueCompare_fails {lane : Nat} (hen : bit (s.rget (coreReg n 0x40)) 0 = true) (hx : x.mismatch = some lane) :
    residueCompare n s = z.residueFails n x.walk lane (if x.tileEnd then 0 else 2) := by
  simp [residueCompare, hrun, hclosed, hen, hx, ← hz]

theorem residueCompare_passes (h : bit (s.rget (coreReg n 0x40)) 0 = false ∨ x.mismatch = none) :
    residueCompare n s = if x.tileEnd then z.tilePasses n x.walk else z := by
  have hagree : (if bit (s.rget (coreReg n 0x40)) 0 = true then x.mismatch else none) = none := by
    rcases h with hoff | hsame
    · simp [hoff]
    · simp [hsame]
  simp [residueCompare, hrun, hclosed, hagree, ← hz]

end

/-- Settles O48, command by command: what a cycle does turns on its upset and on the walk that has the array, what a comparison does
on the lane that differs. -/
theorem arrayCycles : Obligations.ArrayCycles := by
  unfold Obligations.ArrayCycles
  rintro s u t n rfl
  simp only [exec_coreCycle, exec_residueIntervalTimeout, exec_residueCompare, exec_drainRow, exec_publication]
  refine ⟨fun hrun => ⟨?walk, ?noWalk, ?lockstep, ?nothingClosed, ?compare⟩, ?stopped⟩
  case walk =>
    intro w hwalk
    refine ⟨?_, fun a htile => ?_, fun lane v hsel hrow hen hv => ?_, fun o hopen h => ?_, fun o k hopen hk h => ?_⟩
    · rw [coreCycle_walks hrun hwalk]
    · rw [coreCycle_uncorrectable hrun hwalk htile]
    · rw [coreCycle_parity hrun hwalk hsel hrow hen, State.residueFails_parity hv]
    · rw [residueTimeout_early hopen h]
    · rw [residueTimeout_closes hopen hrun hwalk hk h]
  case noWalk =>
    intro hnone
    rw [coreCycle_waits hrun hnone, residueTimeout_noWalk hnone]
    exact ⟨rfl, rfl⟩
  case lockstep =>
    exact ⟨_, by rw [coreCycle_lockstep hrun]⟩
  case nothingClosed =>
    intro h
    rw [residueCompare_idle h]
  case compare =>
    intro x rest z hclosed hz
    refine ⟨fun lane v hen hx hv => ?_, fun h => ?_⟩
    · have hclose : (if x.tileEnd then 0 else 2) ≠ 3 := by split <;> decide
      rw [residueCompare_fails hrun hclosed hz hen hx, State.residueFails_compare hclose hv]
    · rw [residueCompare_passes hrun hclosed hz h]
  case stopped =>
    intro hstopped e
    rw [coreCycle_stopped hstopped, drainRow_stopped hstopped, residueTimeout_stopped hstopped, residueCompare_stopped hstopped,
      publication_stopped hstopped]
    exact ⟨rfl, rfl, rfl, rfl, rfl⟩

end Sys2Proof.Machine
end

section
/-! The rows of the drain and publication (spec/05_orlet_core.md R145, R146; spec/13_matching.md R360, R362). -/

namespace Sys2Proof.Machine

/-! ## The row of the head job (R145, R146) -/

section
variable {s : State} {n : Nat} {j : DrainJob} (htile : j.tile = true)
include htile

theorem State.drainHead_noRoom (hroom : s.rowRoom n j.op (s.tileRow n j) = false) : s.drainHead n j = s := by
  simp [State.drainHead, htile, hroom]

variable (hroom : s.rowRoom n j.op (s.tileRow n j) = true)
include hroom

theorem State.drainHead_uncorrectable {a : Nat} (hzero : j.zero = false) (hue : s.chainUe n j.op (s.tileRow n j) = some a) :
    s.drainHead n j = s.drainFails n j 0x11 a := by
  simp [State.drainHead, htile, hroom, hzero, hue]

/-- A tile that is drained as zeros reads no word of its chain. -/
theorem State.drainHead_row (hread : j.zero = true ∨ s.chainUe n j.op (s.tileRow n j) = none) :
    s.drainHead n j
      = State.jobNext ((s.drainSamples n j.op (s.tileRow n j) j.zero).bump64 (coreReg n 0x90) 1) n j 1 := by
  have hgood : (if j.zero = true then none else s.chainUe n j.op (s.tileRow n j)) = none := by
    rcases hread with hzero | hue
    · simp [hzero]
    · simp [hue]
  simp [State.drainHead, htile, hroom, hgood]

end

section
variable {s : State} {n : Nat} {j : DrainJob} (helem : j.tile = false) (hbegun : j.next ≠ 0)
include helem hbegun

theorem State.drainHead_update (hop : j.op.opcode = 0x22) : s.drainHead n j = s.updateRow n j := by
  simp [State.drainHead, helem, hbegun, hop]

theorem State.drainHead_eltw (hop : j.op.opcode = 7) : s.drainHead n j = s.elemRow n j := by
  simp [State.drainHead, helem, hbegun, hop]

end

/-! ## The head of the drain -/

theorem drainRow_idle {s : State} {n : Nat} (h : (s.core n).drain = []) (e : Upset) : drainRow n e s = s := by
  simp [drainRow, h]

section
variable {s : State} {n : Nat} {j : DrainJob} {rest : List DrainJob} (hrun : s.coreRuns n = true)
  (hdrain : (s.core n).drain = j :: rest)
include hrun hdrain

theorem drainRow_head : drainRow n .none s = s.drainHead n j := by
  simp [drainRow, hrun, hdrain]

theorem drainRow_uncorrectable (a : Nat) : drainRow n (.ecc true a) s = s.drainFails n j 0x11 a := by
  simp [drainRow, hrun, hdrain]

end

/-! ## Publication (13 R360, R362) -/

theorem publication_none {s : State} {n : Nat} (h : ∀ c, c < 4 → (s.ctx n c).publish = none) : publication n s = s := by
  simp [publication, h]

section
variable {s : State} {n : Nat} {o : Op} {ws : List Int} (hrun : s.coreRuns n = true) (hpub : (s.ctx n 0).publish = some (o, ws))
  (hctx : s.ctxFenced n 0 = false)
include hrun hpub hctx

/-- Context 0 waits to publish, and a replay or another context's instruction holds it back. -/
theorem publication_waits (hbusy : (s.core n).replay ≠ none ∨ ∃ d, 0 < d ∧ d < 4 ∧ s.midWalk n d = true) : publication n s = s := by
  have hheld : ([0, 1, 2, 3].any (fun d => d != 0 && s.midWalk n d) || (s.core n).replay.isSome) = true := by
    rcases hbusy with hreplay | ⟨d, hpos, hlt, hmid⟩
    · simp [Option.isSome_iff_ne_none, hreplay]
    · have hd : d ∈ [0, 1, 2, 3] := by simp; omega
      have hany : [0, 1, 2, 3].any (fun d => d != 0 && s.midWalk n d) = true :=
        List.any_eq_true.mpr ⟨d, hd, by simp [hmid]; omega⟩
      rw [hany, Bool.true_or]
  simp only [publication, hrun, List.find?_cons, hpub, hctx, Option.isSome_some, Bool.not_false, Bool.not_true, Bool.and_self,
    hheld, if_true, Bool.false_eq_true, if_false]

theorem publication_writes {z : State} {k : Nat} (hmid : ∀ d, 0 < d → d < 4 → s.midWalk n d = false)
    (hreplay : (s.core n).replay = none) (hwords : s.pubWords n o ws = (z, k)) : publication n s
      = (((z.putCore n { z.core n with ahead := none }).bump64 (coreReg n 0x328) k).modCtx n 0 (fun x =>
          { x with publish := none })).wake n := by
  simp [publication, hrun, hpub, hctx, hmid, hreplay, hwords]

end

/-- Settles O49: the head of the drain is a tile's row or an element's, and a publication is held back by a replay or by another
context's instruction. -/
theorem drainRows : Obligations.DrainRows := by
  unfold Obligations.DrainRows
  rintro s u t n rfl hrun
  simp only [exec_drainRow, exec_publication]
  refine ⟨?idle, ?head, ?none, ?writes, ?replay, ?mid⟩
  case idle =>
    intro h e
    rw [drainRow_idle h]
  case head =>
    intro j rest hdrain
    rw [drainRow_head hrun hdrain]
    refine ⟨fun htile hroom hread => ?_, fun a htile hroom hzero hue => ?_, fun htile hroom => ?_, fun helem hbegun hop => ?_,
      fun helem hbegun hop => ?_, fun a => ?_⟩
    · rw [State.drainHead_row htile hroom hread]
    · rw [State.drainHead_uncorrectable htile hroom hzero hue]
    · rw [State.drainHead_noRoom htile hroom]
    · rw [State.drainHead_update helem hbegun hop]
    · rw [State.drainHead_eltw helem hbegun hop]
    · rw [drainRow_uncorrectable hrun hdrain]
  case none =>
    intro h
    rw [publication_none h]
  case writes =>
    intro o ws z k hpub hctx hmid hreplay hwords
    rw [publication_writes hrun hpub hctx hmid hreplay hwords]
  case replay =>
    intro o hpub hctx hreplay
    rw [publication_waits hrun hpub hctx (.inl hreplay)]
  case mid =>
    intro o d hpub hctx hpos hlt hmid
    rw [publication_waits hrun hpub hctx (.inr ⟨d, hpos, hlt, hmid⟩)]

end Sys2Proof.Machine
end

section
/-! Issue of control instructions (spec/07 R179, R180, R187; spec/10 R254, R256, R262): what the checks lead to, and what
each of CLAIM, WAIT_SEM, SIGNAL_SEM, LOOP and END does once they have passed. -/

namespace Sys2Proof.Machine

/-! ## The commands -/

theorem exec_claim (t n : Nat) (s : State) :
    exec (.claim t n) s = .next ((s.advance t).issueCtl n (isOp 0x10) (State.claimIssue n)) := rfl
theorem exec_waitSem (t n : Nat) (s : State) :
    exec (.waitSem t n) s = .next ((s.advance t).issueCtl n (isOp 0x11) (State.waitIssue n)) := rfl
theorem exec_signalSem (t n : Nat) (s : State) :
    exec (.signalSem t n) s = .next ((s.advance t).issueCtl n (isOp 0x12) (State.signalIssue n)) := rfl
theorem exec_loop (t n : Nat) (s : State) :
    exec (.loop t n) s = .next ((s.advance t).issueCtl n (isOp 0x13) (State.loopIssue n)) := rfl

/-- The command of END that RESTART selects accepts the instruction with that RESTART. -/
theorem exec_end_accepts {r : List Byte} {b : Bool} (ho : leAt r 0 1 = 0x14) (hb : b = nbit (leAt r 1 1) 0) (t n : Nat) (s : State) :
    ∃ want, Accepts want r ∧ exec (if b = true then .endRestart t n else .endStop t n) s
      = .next ((s.advance t).issueCtl n want (State.endIssue n)) := by
  obtain ⟨hwant, hothers⟩ := isOp_accepts ho
  cases b with
  | true => exact ⟨_, ⟨by simp [hwant, ← hb], fun q hq => by simp [hothers q hq]⟩, rfl⟩
  | false => exact ⟨_, ⟨by simp [hwant, ← hb], fun q hq => by simp [hothers q hq]⟩, rfl⟩

/-! ## The checks (R187) -/

section
variable {u : State} {n c i : Nat} {r : List Byte} (hc : c = (u.core n).cur) (hrun : u.ctxRuns n c = true)
  (hhead : u.head n c = some (i, r)) (hfree : u.ctxBusy n c = false) (hue : u.headUe n c = none) {want : List Byte → Bool}
  (haccepts : Accepts want r) (act : Nat → Nat → List Byte → Nat → State → State)
include hc hrun hhead hfree hue haccepts

theorem State.issueCtl_acts {v : Nat} (hcheck : u.ctlCheck n c i r = .ok v) : u.issueCtl n want act = act c i r v u := by
  subst hc
  simp [State.issueCtl, hrun, hhead, haccepts.1, hfree, hue, hcheck]

theorem State.issueCtl_refused {e : IssueErr} (hcheck : u.ctlCheck n c i r = .error e) :
    u.issueCtl n want act = u.issueFail n c i r e := by
  subst hc
  simp [State.issueCtl, hrun, hhead, haccepts.1, hfree, hue, hcheck]

end

/-! ## CLAIM, WAIT_SEM and SIGNAL_SEM (10 R254, R256, R262) -/

section
variable {u : State} {n c : Nat} {r : List Byte}

/-- No claim of the context is on its way yet. -/
theorem State.claimIssue_asks (hnone : (u.ctx n c).asked = none) (i v : Nat) : u.claimIssue n c i r v
    = ((u.modCtx n c (fun x => { x with
        asked := some { counter := leAt r 2 2, tag := (u.ctx n c).stripe.getD Tag.noStripe, limit := v }
        blocked := true })).noteWait (u.linkPart (u.ctrLink (leAt r 2 2)))).pick n := by
  simp [State.claimIssue, hnone]

theorem State.waitIssue_blocks (hshort : u.canWait (leAt r 2 2) (leAt r 4 1 == 0) (4 * n + c) (leAt r 5 1) = false) (i v : Nat) :
    u.waitIssue n c i r v
      = ((u.modCtx n c (fun x => { x with blocked := true })).noteWait (u.linkPart (leAt r 2 2))).pick n := by
  simp [State.waitIssue, waitLink, waitFull, waitCount, hshort]

/-- A wait on EMPTY admits no segment and leaves the context's stripe. -/
theorem State.waitIssue_takesEmpty (hempty : leAt r 4 1 ≠ 0) (hkeep : nbit (leAt r 1 1) 0 = false)
    (hok : u.canWait (leAt r 2 2) false (4 * n + c) (leAt r 5 1) = true) (i v : Nat) : u.waitIssue n c i r v
      = (((u.putLnk (leAt r 2 2) { u.lnk (leAt r 2 2) with
          waitEmpty := ((u.lnk (leAt r 2 2)).waitEmpty + leAt r 5 1) % 65536 }).issued n c i).noteAdvance
            (u.linkPart (leAt r 2 2))).wake n := by
  have hside : (leAt r 4 1 == 0) = false := beq_false_of_ne hempty
  simp [State.waitIssue, waitLink, waitFull, waitCount, hside, hkeep, hok, State.takeWait]

theorem State.signalIssue_sends {x : Ctx} (hx : x = u.ctx n c) (h : nbit (leAt r 1 1) 0 = false ∨ u.ctxDrained n c [] = true)
    (i v : Nat) : u.signalIssue n c i r v
      = ((State.modCtx { u with signals := u.signals ++ [{
            link := leAt r 2 2, full := leAt r 4 1 == 0, member := 4 * n + c, count := leAt r 5 1, endStripe := nbit (leAt r 1 1) 1
            tag := x.stripe.map (fun t => { t with poisoned := x.poisoned, late := x.late }), seg := x.segs, index := i
            claim := x.claim.map (fun c => { c with tag := { c.tag with poisoned := x.poisoned, late := x.late } }) }] } n c
          (fun x => if (leAt r 4 1 == 0) = true then { x with segs := (x.segs + leAt r 5 1) % 65536 } else x)).issued n c i).wake n := by
  subst hx
  have hnow : (nbit (leAt r 1 1) 0 && !u.ctxDrained n c []) = false := by
    rcases h with hplain | hdrained
    · rw [hplain, Bool.false_and]
    · rw [hdrained, Bool.not_true, Bool.and_false]
  rw [State.signalIssue, hnow]
  rfl

end

/-- Settles O46: each command accepts its own opcode, `issueCtl` leads it past the checks or to the failure, and the instruction then
acts by its own rule. -/
theorem controlIssue : Obligations.ControlIssue := by
  unfold Obligations.ControlIssue
  rintro s u t n c i v r rfl hc hrun hhead hfree hue
  rw [exec_claim, exec_waitSem, exec_signalSem, exec_loop]
  refine ⟨fun hcheck => ⟨fun ho hnone => ?claim, fun ho hshort => ?waits, fun ho hempty hkeep hok => ?takes,
    fun ho h x hx => ?signal, fun ho => ?loop, fun ho cmd b hb hcmd => ?ends⟩, fun e hcheck => ?refused⟩
  case claim =>
    rw [State.issueCtl_acts hc hrun hhead hfree hue (isOp_accepts ho) _ hcheck, State.claimIssue_asks hnone]
  case waits =>
    rw [State.issueCtl_acts hc hrun hhead hfree hue (isOp_accepts ho) _ hcheck, State.waitIssue_blocks hshort]
  case takes =>
    rw [State.issueCtl_acts hc hrun hhead hfree hue (isOp_accepts ho) _ hcheck, State.waitIssue_takesEmpty hempty hkeep hok]
  case signal =>
    rw [State.issueCtl_acts hc hrun hhead hfree hue (isOp_accepts ho) _ hcheck, State.signalIssue_sends hx h]
  case loop =>
    rw [State.issueCtl_acts hc hrun hhead hfree hue (isOp_accepts ho) _ hcheck, State.loopIssue]
  case ends =>
    obtain ⟨want, haccepts, hexec⟩ := exec_end_accepts ho hb t n s
    rw [hcmd, hexec, State.issueCtl_acts hc hrun hhead hfree hue haccepts _ hcheck, State.endIssue, ← hb]
  case refused =>
    refine ⟨fun ho => ?_, fun ho => ?_, fun ho => ?_, fun ho => ?_⟩
    all_goals rw [State.issueCtl_refused hc hrun hhead hfree hue (isOp_accepts ho) _ hcheck]

end Sys2Proof.Machine
end

section
/-! Transmit ports (spec/09_drain_chains_finish_and_transmit.md R242, R244): which slot of a stream is due and what is done with
it, then what the end of each kind of packet does. -/

namespace Sys2Proof.Machine

/-! ## The commands -/

theorem exec_txSlot (t p k : Nat) (s : State) : exec (.txSlot t p k) s = .next (txSlot p k (s.advance t)) := rfl
theorem exec_txPacketSent (t p : Nat) (s : State) : exec (.txPacketSent t p) s = .next (txPacketSent p (s.advance t)) := rfl

/-! ## What is due -/

/-- The next slot of the frame that a stream sends, once it is due: frame, start of the frame, slot plus one. -/
def State.txDueSlot (s : State) (p k : Nat) : Option (Nat × Nat × Nat) :=
  (s.txStrm p k).cur.filter (fun c => decide (c.2.2 ≤ (s.txs p k).outH + 1) && decide ((s.txs p k).slotAt c.2.1 c.2.2 ≤ s.now))

/-- The waiting frame of a stream, once its slot −1 is due. -/
def State.txDueStart (s : State) (p k : Nat) : Option Flight :=
  (s.txWaits p k).filter (fun f => decide ((s.txs p k).slotAt f.startAt 0 ≤ s.now))

/-- The earlier of the two is taken; at the same instant, the frame in work goes first. -/
def State.txTakeDue (s : State) (p k : Nat) : Option (Nat × Nat × Nat) → Option Flight → State
  | some (fr, sof, i), some f =>
    if (s.txs p k).slotAt sof i ≤ (s.txs p k).slotAt f.startAt 0 then s.txAdvance p k fr sof i else s.txStart p k f
  | some (fr, sof, i), none => s.txAdvance p k fr sof i
  | none, some f => s.txStart p k f
  | none, none => s

theorem txSlot_idle {s : State} {p k : Nat}
    (h : s.txRuns p = false ∨ (s.txs p k).en = false ∨ 16 ≤ k ∨ s.past14 = false) : txSlot p k s = s := by
  have hguard : (s.txRuns p && (s.txs p k).en && decide (k < 16) && s.past14) = false := by
    rcases h with h | h | h | h
    · simp [h]
    · simp [h]
    · simp [Nat.not_lt.mpr h]
    · simp [h]
  simp [txSlot, hguard]

section
variable {s : State} {p k : Nat}

section
variable (hrun : s.txRuns p = true) (hen : (s.txs p k).en = true) (hk : k < 16) (h14 : s.past14 = true)
include hrun hen hk h14

theorem txSlot_running : txSlot p k s = s.txTakeDue p k (s.txDueSlot p k) (s.txDueStart p k) := by
  have hguard : (s.txRuns p && (s.txs p k).en && decide (k < 16) && s.past14) = true := by simp [hrun, hen, hk, h14]
  unfold txSlot State.txDueSlot State.txDueStart
  simp only [hguard, Bool.not_true, Bool.false_eq_true, if_false]
  cases (s.txStrm p k).cur <;> cases s.txWaits p k <;> simp only [Option.filter, decide_eq_true_eq] <;> rfl

theorem txSlot_slotDue {fr sof i : Nat} (hslot : s.txDueSlot p k = some (fr, sof, i))
    (hfirst : ∀ f, s.txWaits p k = some f → (s.txs p k).slotAt sof i ≤ (s.txs p k).slotAt f.startAt 0) :
    txSlot p k s = s.txAdvance p k fr sof i := by
  rw [txSlot_running hrun hen hk h14, hslot]
  cases hstart : s.txDueStart p k with
  | none => rfl
  | some f => exact if_pos (hfirst f (Option.filter_eq_some_iff.mp hstart).1)

theorem txSlot_startDue {f : Flight} (hstart : s.txDueStart p k = some f)
    (hfirst : ∀ fr sof i, (s.txStrm p k).cur = some (fr, sof, i) → (s.txs p k).slotAt f.startAt 0 < (s.txs p k).slotAt sof i) :
    txSlot p k s = s.txStart p k f := by
  rw [txSlot_running hrun hen hk h14, hstart]
  cases hslot : s.txDueSlot p k with
  | none => rfl
  | some c =>
    obtain ⟨fr, sof, i⟩ := c
    exact if_neg (Nat.not_le.mpr (hfirst fr sof i (Option.filter_eq_some_iff.mp hslot).1))

theorem txSlot_nothingDue (hslot : s.txDueSlot p k = none) (hstart : s.txDueStart p k = none) : txSlot p k s = s := by
  rw [txSlot_running hrun hen hk h14, hslot, hstart]
  rfl

end

theorem State.txDueSlot_some {fr sof i : Nat} (hcur : (s.txStrm p k).cur = some (fr, sof, i))
    (hi : i ≤ (s.txs p k).outH + 1) (hdue : (s.txs p k).slotAt sof i ≤ s.now) : s.txDueSlot p k = some (fr, sof, i) :=
  Option.filter_eq_some_iff.mpr ⟨hcur, by simp [hi, hdue]⟩

theorem State.txDueSlot_none (h : ∀ fr sof i, (s.txStrm p k).cur = some (fr, sof, i) →
    (s.txs p k).outH + 1 < i ∨ s.now < (s.txs p k).slotAt sof i) : s.txDueSlot p k = none := by
  refine Option.filter_eq_none_iff.mpr fun ⟨fr, sof, i⟩ hcur hdue => ?_
  simp only [Bool.and_eq_true, decide_eq_true_eq] at hdue
  have := h fr sof i hcur
  omega

theorem State.txDueStart_some {f : Flight} (hwait : s.txWaits p k = some f) (hdue : (s.txs p k).slotAt f.startAt 0 ≤ s.now) :
    s.txDueStart p k = some f :=
  Option.filter_eq_some_iff.mpr ⟨hwait, by simp [hdue]⟩

theorem State.txDueStart_none (h : ∀ f, s.txWaits p k = some f → s.now < (s.txs p k).slotAt f.startAt 0) :
    s.txDueStart p k = none :=
  Option.filter_eq_none_iff.mpr fun f hwait hdue => Nat.not_lt.mpr (of_decide_eq_true hdue) (h f hwait)

/-! ## What a slot does (R242, R244) -/

theorem State.txAdvance_line {fr sof i : Nat} (h : i ≤ (s.txs p k).outH) : s.txAdvance p k fr sof i
    = (s.putTxStrm p k { s.txStrm p k with cur := some (fr, sof, i + 1) }).txLineSlot p k fr (i - 1) :=
  if_pos h

theorem State.txAdvance_end {fr sof i : Nat} (h : (s.txs p k).outH < i) : s.txAdvance p k fr sof i
    = (s.putTxStrm p k { s.txStrm p k with cur := some (fr, sof, i + 1) }).txSend p
        ((if (s.txs p k).embPos = 1 ∨ (s.txs p k).embPos = 2 then [{ strm := k, frame := fr, kind := .embedded }] else [])
          ++ [{ strm := k, frame := fr, kind := .frameEnd }]) := by
  simp [State.txAdvance, Nat.not_le.mpr h]

theorem State.txStart_begins {f : Flight} (h : (s.txStrm p k).cur = none) : s.txStart p k f
    = (s.putTxStrm p k { s.txStrm p k with cur := some (f.frame, f.startAt, 1), fills := 0 }).txSend p
        ({ strm := k, frame := f.frame, kind := .frameStart }
          :: (if (s.txs p k).embPos = 2 then [{ strm := k, frame := f.frame, kind := .embedded }] else [])) := by
  simp [State.txStart, h]

theorem State.txStart_skips {f : Flight} {c : Nat × Nat × Nat} (h : (s.txStrm p k).cur = some c) :
    s.txStart p k f = ((s.txDrop p k f.frame).bumpTx p 5).endLeft p k f.source f.frame := by
  simp [State.txStart, h]

/-! ## The end of a packet -/

theorem txPacketSent_idle (h : (s.port p).sending = none) : txPacketSent p s = s := by
  simp [txPacketSent, h]

section
variable {v : State} {f : Nat} (hv : v = s.putPort p { s.port p with sending := none })
include hv

theorem txPacketSent_frameStart (h : (s.port p).sending = some { strm := k, frame := f, kind := .frameStart }) :
    txPacketSent p s = v.txNext p := by
  simp [txPacketSent, h, hv]

theorem txPacketSent_line {d : List Byte} (h : (s.port p).sending = some { strm := k, frame := f, kind := .line d }) :
    txPacketSent p s = (v.bump64 (0xE_0180 + 0x1000 * p) d.length).txNext p := by
  simp [txPacketSent, h, hv]

theorem txPacketSent_embedded (h : (s.port p).sending = some { strm := k, frame := f, kind := .embedded }) :
    txPacketSent p s = (v.bump64 (0xE_0180 + 0x1000 * p) 64).txNext p := by
  simp [txPacketSent, h, hv]

theorem txPacketSent_frameEnd (h : (s.port p).sending = some { strm := k, frame := f, kind := .frameEnd }) :
    txPacketSent p s = (if (v.txStrm p k).sends f = true then v.txEnd p k f else v).txNext p := by
  simp [txPacketSent, h, hv]

end
end

/-- Settles O52: the earlier of the two that may be due decides what a slot does; the kind of a packet decides what its end does. -/
theorem transmitSlots : Obligations.TransmitSlots := by
  unfold Obligations.TransmitSlots
  constructor
  · rintro s u t p k rfl
    rw [exec_txSlot]
    refine ⟨fun hrun hen hk h14 => ⟨?slot, ?start, ?skip, ?nothing⟩, ?idle⟩
    case slot =>
      rintro fr sof i v hcur hi hdue hfirst rfl
      rw [txSlot_slotDue hrun hen hk h14 (State.txDueSlot_some hcur hi hdue) hfirst]
      refine ⟨fun hline => ?_, fun hend => ?_⟩
      · rw [State.txAdvance_line hline]
      · rw [State.txAdvance_end (by omega)]
    case start =>
      intro f hcur hwait hdue
      have hfirst : ∀ fr sof i, ((s.advance t).txStrm p k).cur = some (fr, sof, i) →
          ((s.advance t).txs p k).slotAt f.startAt 0 < ((s.advance t).txs p k).slotAt sof i := by simp [hcur]
      rw [txSlot_startDue hrun hen hk h14 (State.txDueStart_some hwait hdue) hfirst, State.txStart_begins hcur]
    case skip =>
      intro fr sof i f hcur hwait hdue hlt
      have hfirst : ∀ fr sof i, ((s.advance t).txStrm p k).cur = some (fr, sof, i) →
          ((s.advance t).txs p k).slotAt f.startAt 0 < ((s.advance t).txs p k).slotAt sof i := by
        intro fr' sof' i' hcur'
        cases hcur.symm.trans hcur'
        exact hlt
      rw [txSlot_startDue hrun hen hk h14 (State.txDueStart_some hwait hdue) hfirst, State.txStart_skips hcur]
    case nothing =>
      intro hslot hstart
      rw [txSlot_nothingDue hrun hen hk h14 (State.txDueSlot_none hslot) (State.txDueStart_none hstart)]
    case idle =>
      intro h
      rw [txSlot_idle h]
  · rintro s u v t p rfl hv
    rw [exec_txPacketSent]
    refine ⟨fun h => ?idle, fun k f h => ?frameStart, fun k f d h => ?line, fun k f h => ?embedded, fun k f h => ?frameEnd⟩
    case idle => rw [txPacketSent_idle h]
    case frameStart => rw [txPacketSent_frameStart hv h]
    case line => rw [txPacketSent_line hv h]
    case embedded => rw [txPacketSent_embedded hv h]
    case frameEnd => rw [txPacketSent_frameEnd hv h]

end Sys2Proof.Machine
end

section
/-! Stripes, segments and the end of a frame (spec/10_stage_pipeline_and_partitions.md R267, R268, R275; spec/04_front_stage_and_taps.md
R106, R107, R116; spec/09_drain_chains_finish_and_transmit.md R239): for each command, when it acts and what it then does. -/

namespace Sys2Proof.Machine

/-! ## The commands -/

theorem exec_stripeRelease (t src fr j : Nat) (s : State) :
    exec (.stripeRelease t src fr j) s = .next (stripeRelease src fr j (s.advance t)) := rfl
theorem exec_sharedStripeStart (t : Nat) (s : State) : exec (.sharedStripeStart t) s = .next (sharedStripeStart (s.advance t)) := rfl
theorem exec_sharedStripeDone (t : Nat) (s : State) : exec (.sharedStripeDone t) s = .next (sharedStripeDone (s.advance t)) := rfl
theorem exec_inlineSegmentOffer (t : Nat) (s : State) :
    exec (.inlineSegmentOffer t) s = .next (inlineSegmentOffer (s.advance t)) := rfl
theorem exec_stallTimeout (t p : Nat) (s : State) : exec (.stallTimeout t p) s = .next (stallTimeout p (s.advance t)) := rfl
theorem exec_frameRecordFinal (t src fr : Nat) (s : State) :
    exec (.frameRecordFinal t src fr) s = .next (frameRecordFinal src fr (s.advance t)) := rfl

/-! ## The release of a stripe (R267, R268) -/

theorem mem_relInsert (r : Rel) (q : List Rel) (d : Rel) : d ∈ relInsert r q ↔ d = r ∨ d ∈ q := by
  induction q with
  | nil => simp [relInsert]
  | cons x q ih =>
    rw [relInsert]
    split
    · exact List.mem_cons
    · rw [List.mem_cons, ih, List.mem_cons]
      exact or_left_comm

/-- The entry of the release queue for stripe j of a frame of an unfolded source. -/
def State.releaseOf (s : State) (f : Flight) (i fr j : Nat) : Rel :=
  { rel := s.relAt i f.expectAt j, dl0 := s.relAt i f.expectAt j + s.dlOff (s.src i).chain 0, source := i, frame := fr
    stripe := j, lines := (s.src i).stripeHeight j }

/-- The frame notes that its stripe j is released. -/
def State.noteReleased (s : State) (i fr j : Nat) : State :=
  { s with flights := s.flights.map (fun (g : Flight) => if g.source = i ∧ g.frame = fr then { g with released := j + 1 } else g) }

/-- A release is made, or waits, counted, while the queue is full. -/
def State.queueRelease (s : State) (r : Rel) : State :=
  if s.eph.queue.length < 1024 then s.makeRelease r
  else State.bumpEph { s with eph := { s.eph with stalled := s.eph.stalled ++ [r] } } 1

section
variable {s : State} {i fr j : Nat} {f : Flight}

theorem stripeRelease_unfolded (hlead : s.foldLead i = i) (hgroup : s.group i = [i]) (hf : s.flight i fr = some f)
    (hnext : f.released = j) (hgoes : f.stopped = false) (ht0 : s.eph.t0 ≠ none) (hcut : s.eph.cutoff = none) (hlive : s.live = true)
    (hkind : (s.src i).kind ≠ 1) (hj : j < (s.src i).stripes) :
    stripeRelease i fr j s =
      if s.stripeIn f j = true ∧ s.relAt i f.expectAt j ≤ s.now then (s.noteReleased i fr j).queueRelease (s.releaseOf f i fr j)
      else s := by
  have hstarted : s.eph.t0.isNone = false := Option.isNone_eq_false_iff.mpr (Option.isSome_iff_ne_none.mpr ht0)
  split
  next h =>
    obtain ⟨hin, hdue⟩ := h
    simp [stripeRelease, hlead, hgroup, hf, hnext, hgoes, hstarted, hcut, hlive, hkind, hin, Nat.not_le.mpr hj, Nat.not_lt.mpr hdue,
      State.noteReleased, State.queueRelease, State.releaseOf]
  next h =>
    have hwait : s.stripeIn f j = true → s.now < s.relAt i f.expectAt j := fun hin => by simpa [hin] using h
    simp only [stripeRelease, hlead, hgroup, hf]
    refine if_pos ?_
    by_cases hin : s.stripeIn f j = true
    · simp [hwait hin]
    · simp [hf, hin]

end

/-! ## The shared front stage (04 R106, R107) -/

section
variable {s : State}

section
variable (hrun : s.parkBusy.frontRuns = true) (hbusy : s.parkBusy.front.busy = none)
include hrun hbusy

theorem sharedStripeStart_resumed {f : FrontStripe} {rest : List FrontStripe} (h : s.parkBusy.front.resumed = f :: rest) :
    sharedStripeStart s = { s.parkBusy with front := { s.parkBusy.front with busy := some f, resumed := rest } } := by
  simp [sharedStripeStart, hrun, hbusy, h]

theorem sharedStripeStart_queued {r : Rel} {rest : List Rel} {k : Nat} {f : FrontStripe} {w : State}
    (hnone : s.parkBusy.front.resumed = []) (hqueue : s.parkBusy.eph.queue = r :: rest) (hslot : s.parkBusy.frontSlot = some k)
    (hf : f = { rel := r, slot := k, epoch := 0, published := 0, poisoned := false, member := 0, tapped := 0, got := [] })
    (hw : w = State.unstall { s.parkBusy with eph := { s.parkBusy.eph with queue := rest } }) :
    sharedStripeStart s = State.openFrontStrm (State.putBusy { w with flights := w.flights.map (fun (g : Flight) =>
      if (s.parkBusy.group r.source).contains g.source && g.frame == r.frame then
        { g with taken := r.stripe + 1, metAt := w.now } else g) } (some f)) f := by
  subst hf hw
  simp only [sharedStripeStart, hrun, hbusy, hnone, hqueue, hslot]
  rfl

theorem sharedStripeStart_nothing (hnone : s.parkBusy.front.resumed = [])
    (h : s.parkBusy.eph.queue = [] ∨ s.parkBusy.frontSlot = none) : sharedStripeStart s = s.parkBusy := by
  rcases h with hqueue | hslot
  · simp [sharedStripeStart, hrun, hbusy, hnone, hqueue]
  · cases hqueue : s.parkBusy.eph.queue <;> simp [sharedStripeStart, hrun, hbusy, hnone, hqueue, hslot]

end

theorem State.frontSlot_free {k : Nat} (h : s.frontSlot = some k) :
    k < 5 ∧ (s.strm 144 k).active = false ∧ ∀ f, f ∈ s.front.parked ∨ f ∈ s.front.resumed → f.slot ≠ k := by
  have hmem := List.mem_of_find?_eq_some h
  have hfree := List.find?_some h
  simp only [Bool.and_eq_true, Bool.not_eq_true', List.contains_eq_mem, decide_eq_false_iff_not, List.mem_map, List.mem_append,
    not_exists, not_and] at hfree
  exact ⟨List.mem_range.mp hmem, hfree⟩

theorem sharedStripeDone_idle (h : s.frontAdvance.front.busy = none) : sharedStripeDone s = s.frontAdvance := by
  simp [sharedStripeDone, h]

theorem sharedStripeDone_read {v z : State} {f f1 : FrontStripe} {l k : Nat} {bs : List Byte} (hv : v = s.frontAdvance)
    (hbusy : v.front.busy = some f) (hrun : v.frontRuns = true) (hread : (v.group f.rel.source).length ≤ f.member)
    (hsets : ∀ m ∈ v.group f.rel.source, v.setKnown m f.rel.frame = true) (hl : l = v.chainFirst (v.src f.rel.source).chain)
    (hbs : bs = (List.range f.rel.lines).flatMap (v.sharedLine f))
    (hk : k = max 1 (ceilDiv bs.length (max 1 (v.link l).segBytes)))
    (hpub : (v.useFree (f.rel.lines * (v.group f.rel.source).length * 2 ^ 16)).sharedPublish l f bs k k = (z, f1)) :
    sharedStripeDone s = State.wakeAll (if k ≤ f1.published then (z.bump64 0xC_0080 1).putBusy none else z.putBusy (some f1)) := by
  have hsets' : (v.group f.rel.source).all (fun m => v.setKnown m f.rel.frame) = true := List.all_eq_true.mpr hsets
  subst hk hbs hl hv
  simp only [sharedStripeDone, hbusy, hrun, Nat.not_lt.mpr hread, hsets', hpub, decide_false, Bool.not_true, Bool.or_self,
    Bool.false_eq_true, if_false]

end

/-! ## The in-line front stage (04 R116) -/

/-- Encoded samples of a line of the in-line source. -/
def State.inlSamples (s : State) (src : Nat) (i : InlineS) (line : Nat) : List Int :=
  s.encodeLine (s.frameSet src i.frame) (s.inlWork src i line).2.2

section
variable {s : State}

theorem inlineSegmentOffer_idle (h : s.inlTaps.front.inl = [] ∨ s.inlTaps.inlineSrc = none ∨ s.inlTaps.frontRuns = false) :
    inlineSegmentOffer s = s.inlTaps := by
  cases hsrc : s.inlTaps.inlineSrc with
  | none => simp [inlineSegmentOffer, hsrc]
  | some src =>
    cases hinl : s.inlTaps.front.inl with
    | nil => simp [inlineSegmentOffer, hsrc, hinl]
    | cons i rest =>
      have hstands : s.inlTaps.frontRuns = false := by simpa [hsrc, hinl] using h
      simp [inlineSegmentOffer, hsrc, hinl, hstands]

section
variable {v : State} {src l : Nat} {i : InlineS} {rest : List InlineS}
  (hv : v = s.inlTaps) (hsrc : v.inlineSrc = some src) (hinl : v.front.inl = i :: rest)
include hv hsrc hinl

theorem inlineSegmentOffer_waits (hl : l = v.chainFirst (v.src src).chain)
    (h : v.segReady l = false ∨ v.setKnown src i.frame = false
      ∨ ∃ y, y < (v.src src).stripeHeight i.stripe ∧ v.inlLine src i (i.stripe * (v.src src).stripeLines + y) = false) :
    inlineSegmentOffer s = v := by
  subst hl hv
  simp only [inlineSegmentOffer, hsrc, hinl]
  refine if_pos ?_
  rcases h with hcredit | hset | ⟨y, hy, hline⟩
  · simp [hcredit]
  · simp [hset]
  · have hlines : (List.range ((s.inlTaps.src src).stripeHeight i.stripe)).all
        (fun y => s.inlTaps.inlLine src i (i.stripe * (s.inlTaps.src src).stripeLines + y)) = false :=
      List.all_eq_false.mpr ⟨y, List.mem_range.mpr hy, by simp [hline]⟩
    simp [hlines]

theorem inlineSegmentOffer_publishes {e : SrcEntry} {h c0 : Nat} {set : List Byte} {bad : Bool} {w : State}
    (he : e = v.src src) (hl : l = v.chainFirst e.chain) (hh : h = e.stripeHeight i.stripe) (hc0 : c0 = i.seg * i.segW)
    (hset : set = v.frameSet src i.frame) (hknown : v.setKnown src i.frame = true) (hrun : v.frontRuns = true)
    (hcredit : v.segReady l = true) (hlines : ∀ y, y < h → v.inlLine src i (i.stripe * e.stripeLines + y) = true)
    (hbad : bad = (v.setBad src i.frame || i.bad.any (fun y => decide (i.stripe * e.stripeLines ≤ y) &&
      decide (y < i.stripe * e.stripeLines + h))))
    (hmore : i.seg + 1 ≠ ceilDiv e.width i.segW) (hstripe : i.stripe < e.stripes)
    (hw : w = (v.putSegment l (v.frontTag src i.frame i.stripe h i.seg false bad) ((List.range (min i.segW (e.width - c0))).map
      (fun c => (c * e.stripeLines * dtSamples e.dt * encBytes set, (List.range h).flatMap (fun y =>
        encPack (encBytes set) (((v.inlSamples src i (i.stripe * e.stripeLines + y)).drop ((c0 + c) * dtSamples e.dt)).take
          (dtSamples e.dt))))))).bump64 0xC_0088 1) :
    inlineSegmentOffer s = State.wakeAll (State.inlDrain
      { w with front := { w.front with inl := { i with seg := i.seg + 1 } :: rest } } e.port src) := by
  have hall : (List.range h).all (fun y => v.inlLine src i (i.stripe * e.stripeLines + y)) = true :=
    List.all_eq_true.mpr fun y hy => hlines y (List.mem_range.mp hy)
  have hlast : (i.seg + 1 == ceilDiv e.width i.segW) = false := beq_false_of_ne hmore
  subst hw hbad hc0 hset hh hl he hv
  simp only [inlineSegmentOffer, hsrc, hinl, hrun, hall, hknown, hcredit, hlast, Nat.not_le.mpr hstripe, List.flatMap_map,
    Bool.not_true, Bool.or_self, Bool.false_eq_true, if_false]
  rfl

end
end

/-! ## Partitions that stand still (R275) -/

theorem stallTimeout_waiting {s : State} {p since : Nat} (hsince : tfind s.eph.waitSince p = some since) (hp : p < 64)
    (hus : fld (s.rget 0x40_0020) 0 16 ≠ 0) (hwaits : s.partWaits p = true) :
    stallTimeout p s = if s.now < since + fld (s.rget 0x40_0020) 0 16 * 1000 then s
      else State.noteEvt { s with eph := { s.eph with stall := nset s.eph.stall p } } s.evtStatus := by
  simp only [stallTimeout, hsince, hus, hwaits, Nat.not_le.mpr hp, decide_false, Bool.not_true, Bool.or_self, Bool.false_or,
    decide_eq_true_eq]

/-! ## The end of a frame (09 R239, R270) -/

theorem State.lateFrame_iff (s : State) (f : Flight) :
    s.lateFrame f = true ↔
      (s.src f.source).deadlineOffset ≠ 0 ∧ f.expectAt + (s.src f.source).deadlineOffset < f.lastOut.getD f.metAt := by
  simp [State.lateFrame]

section
variable {s : State} {i fr : Nat} {f0 : Flight}

theorem frameRecordFinal_none (h : s.flight i fr = none) : frameRecordFinal i fr s = s := by simp [frameRecordFinal, h]

theorem frameRecordFinal_open (hf : s.flight i fr = some f0) (h : s.finalReady f0 = false) : frameRecordFinal i fr s = s := by
  simp [frameRecordFinal, hf, h]

theorem frameRecordFinal_ready {f : Flight} {w z : State} (hf : s.flight i fr = some f0) (h : s.finalReady f0 = true)
    (hjudged : f = { f0 with flags := if s.lateFrame f0 = true then f0.flags ||| fDeadline else f0.flags, recWritten := true })
    (hw : w = ((if s.lateFrame f0 = true then s.bumpEph 3 else s).putFlight f).putRec f)
    (hz : z = (if s.lateFrame f0 = true ∨ f.lateSegs ≠ 0 then w.missRecord f else w).notify f) :
    frameRecordFinal i fr s = { z with flights := z.flights.filter (fun g => !(g.source == i && g.frame == fr)) } := by
  have hmiss : (if (s.lateFrame f0 || f.lateSegs != 0) = true then w.missRecord f else w).notify f = z := by
    simp only [hz, Bool.or_eq_true, bne_iff_ne]
  subst hw hjudged
  rw [← hmiss]
  simp only [frameRecordFinal, hf, h, Bool.not_true, Bool.false_eq_true, if_false]

end

/-- Settles O51: each command's guards decide between what it does and nothing; an unfolded source is its own group, and the release
queue receives what is inserted. -/
theorem stripes : Obligations.Stripes := by
  unfold Obligations.Stripes
  refine ⟨?release, mem_relInsert, ?start, fun _ _ => State.frontSlot_free, ?doneIdle, ?done, ?inlineIdle, ?inlineWaits, ?inlinePublishes,
    ?stall, ?final, ?late, ?finalNone⟩
  case release =>
    rintro s u v t i fr j f r rfl hlead hgroup hf - hnext hgoes ht0 hcut hlive hkind hj rfl rfl
    rw [exec_stripeRelease, stripeRelease_unfolded hlead hgroup hf hnext hgoes ht0 hcut hlive hkind hj]
    refine ⟨fun hin hdue => ?_, fun hwait => ?_⟩
    · rw [if_pos ⟨hin, hdue⟩]
      exact ⟨fun hroom => congrArg _ (if_pos hroom), fun hfull => congrArg _ (if_neg (Nat.not_lt.mpr hfull))⟩
    · rw [if_neg]
      rintro ⟨hin, hdue⟩
      exact hwait.elim (by simp [hin]) (Nat.not_lt.mpr hdue)
  case start =>
    rintro s u v t rfl rfl hrun hbusy
    rw [exec_sharedStripeStart]
    refine ⟨fun f rest h => ?_, fun r rest k w f hnone hqueue hslot hf hw => ?_, fun hnone h => ?_⟩
    · rw [sharedStripeStart_resumed hrun hbusy h]
    · rw [sharedStripeStart_queued hrun hbusy hnone hqueue hslot hf hw]
    · rw [sharedStripeStart_nothing hrun hbusy hnone h]
  case doneIdle =>
    rintro s u t rfl h
    rw [exec_sharedStripeDone, sharedStripeDone_idle h]
  case done =>
    rintro s u v z t l k f f1 bs rfl hv hbusy hrun hread hsets hl hbs hk hpub
    rw [exec_sharedStripeDone, sharedStripeDone_read hv hbusy hrun hread hsets hl hbs hk hpub]
  case inlineIdle =>
    rintro s u v t rfl rfl h
    rw [exec_inlineSegmentOffer, inlineSegmentOffer_idle h]
  case inlineWaits =>
    rintro s u v t src l i rest rfl hv hsrc hinl hl h
    rw [exec_inlineSegmentOffer, inlineSegmentOffer_waits hv hsrc hinl hl h]
  case inlinePublishes =>
    intro s u v w t src l c0 h i rest e set bad line hu hv hsrc hinl he hl hh hc0 hset hknown hrun hcredit hlines hline hbad hmore
      hstripe hw
    have hsamples : ∀ y, line y = v.inlSamples src i (i.stripe * e.stripeLines + y) := by
      subst hset he
      exact hline
    simp only [hsamples] at hw
    subst hu
    rw [exec_inlineSegmentOffer, inlineSegmentOffer_publishes hv hsrc hinl he hl hh hc0 hset hknown hrun hcredit hlines hbad hmore
      hstripe hw]
  case stall =>
    rintro s u t p since rfl hsince hp hus hwaits
    rw [exec_stallTimeout, stallTimeout_waiting hsince hp hus hwaits]
    exact ⟨fun h => congrArg _ (if_neg (Nat.not_lt.mpr h)), fun h => congrArg _ (if_pos h)⟩
  case final =>
    rintro s u w z t i fr f0 f rfl hf hjudged hw hz
    rw [exec_frameRecordFinal]
    refine ⟨fun h => ?_, fun h => ?_⟩
    · rw [frameRecordFinal_ready hf h hjudged hw hz]
    · rw [frameRecordFinal_open hf h]
  case late =>
    rintro u f off rfl
    rw [State.lateFrame_iff]
    cases f.lastOut <;> rfl
  case finalNone =>
    rintro s u t i fr rfl h
    rw [exec_frameRecordFinal, frameRecordFinal_none h]

end Sys2Proof.Machine
end

section
/-! Requests for memory (spec/11_streams_vaults_and_hbm.md R285 to R304): who is granted at a point, and what completions,
acceptances, entry reads, timeouts and the end of a cancel do with a request in flight. -/

namespace Sys2Proof.Machine

/-! ## The commands -/

theorem exec_arbitrationGrant (t p : Nat) (e : Option Bool) (s : State) :
    exec (.arbitrationGrant t p e) s = .next (arbitrationGrant p e (s.advance t)) := rfl
theorem exec_readCompletion (t id : Nat) (x : ReadStatus) (s : State) :
    exec (.readCompletion t id x) s = .next (readCompletion id x (s.advance t)) := rfl
theorem exec_writeAccept (t id : Nat) (s : State) : exec (.writeAccept t id) s = .next (writeAccept id (s.advance t)) := rfl
theorem exec_pageMapEntryRead (t id : Nat) (x : ReadStatus) (s : State) :
    exec (.pageMapEntryRead t id x) s = .next (pageMapEntryRead id x (s.advance t)) := rfl
theorem exec_tagTimeout (t id : Nat) (s : State) : exec (.tagTimeout t id) s = .next (tagTimeout id (s.advance t)) := rfl
theorem exec_streamCancelDone (t r k : Nat) (s : State) :
    exec (.streamCancelDone t r k) s = .next (streamCancelDone r k (s.advance t)) := rfl

/-! ## The order of keys (R288) -/

theorem keyBefore_irrefl (k : List Nat) : keyBefore k k = false := by
  induction k with
  | nil => rfl
  | cons a as ih => simp [keyBefore, ih]

theorem keyBefore_cons (a b : Nat) (k l : List Nat) :
    keyBefore (a :: k) (b :: l) = true ↔ a < b ∨ a = b ∧ keyBefore k l = true := by
  by_cases h : a = b <;> simp [keyBefore, h]

theorem keyBefore_trans {k l m : List Nat} (hkl : keyBefore k l = true) (hlm : keyBefore l m = true) : keyBefore k m = true := by
  induction k generalizing l m with
  | nil => simp [keyBefore] at hkl
  | cons a k ih =>
    cases l with
    | nil => simp [keyBefore] at hkl
    | cons b l =>
      cases m with
      | nil => simp [keyBefore] at hlm
      | cons c m =>
        rw [keyBefore_cons] at hkl hlm ⊢
        rcases hkl with hab | ⟨rfl, hkl⟩
        · exact .inl (hlm.elim hab.trans fun ⟨hbc, _⟩ => hbc ▸ hab)
        · exact hlm.imp_right fun ⟨hac, hlm⟩ => ⟨hac, ih hkl hlm⟩

/-! ## The winner (R288, R292) -/

/-- The requests among which the grant chooses: those in budget, and when there are none, those with SURPLUS. -/
def State.grantPool (s : State) (cs : List Cand) : List Cand :=
  if cs.filter s.inBudget = [] then cs.filter (fun c => nbit (s.regCfg c.req.reg c.req.path 3) 0) else cs.filter s.inBudget

/-- The better of the best so far and the next request; the earlier of the two stays when neither key is before the other. -/
def State.lead (s : State) (b : Option Cand) (c : Cand) : Option Cand :=
  match b with
  | some d => if keyBefore (s.candKey c) (s.candKey d) then some c else some d
  | none => some c

theorem State.winner_eq (s : State) (cs : List Cand) :
    s.winner cs = ((s.grantPool cs).filter s.tagsFree).foldl s.lead none := rfl

/-- What a search for the best of a list has found: nothing in an empty list, else one of it that none of it stands before. -/
def State.Leads (s : State) (l : List Cand) : Option Cand → Prop
  | none => l = []
  | some c => c ∈ l ∧ ∀ d ∈ l, keyBefore (s.candKey d) (s.candKey c) = false

theorem State.lead_leads {s : State} {l : List Cand} {b : Option Cand} (h : s.Leads l b) (x : Cand) :
    s.Leads (l ++ [x]) (s.lead b x) := by
  cases b with
  | none =>
    obtain rfl : l = [] := h
    simp [State.lead, State.Leads, keyBefore_irrefl]
  | some c =>
    obtain ⟨hc, hbest⟩ := h
    by_cases hx : keyBefore (s.candKey x) (s.candKey c) = true
    · have hnew : ∀ d ∈ l, keyBefore (s.candKey d) (s.candKey x) = false := fun d hd =>
        Bool.eq_false_iff.mpr fun hdx => by simpa [hbest d hd] using keyBefore_trans hdx hx
      simp +contextual [State.lead, State.Leads, hx, hnew, or_imp, keyBefore_irrefl]
    · rw [Bool.not_eq_true] at hx
      simp +contextual [State.lead, State.Leads, hx, hc, or_imp, hbest]

theorem State.foldl_lead_leads (s : State) (l : List Cand) : s.Leads l (l.foldl s.lead none) := by
  induction l using List.reverseRecOn with
  | nil => rfl
  | append_singleton l x ih => simpa using State.lead_leads ih x

theorem State.mem_grantPool {s : State} {cs : List Cand} {c : Cand} (h : c ∈ s.grantPool cs) :
    c ∈ cs ∧ (∀ d ∈ cs, s.inBudget d = true → s.inBudget c = true)
      ∧ (s.inBudget c = false → nbit (s.regCfg c.req.reg c.req.path 3) 0 = true) := by
  unfold State.grantPool at h
  split at h
  case isTrue hnone =>
    obtain ⟨hc, hsurplus⟩ := List.mem_filter.mp h
    exact ⟨hc, fun d hd hin => absurd hin (List.filter_eq_nil_iff.mp hnone d hd), fun _ => hsurplus⟩
  case isFalse =>
    obtain ⟨hc, hin⟩ := List.mem_filter.mp h
    exact ⟨hc, fun _ _ _ => hin, fun hout => by simp [hout] at hin⟩

/-- Whoever is on the same side of its budget as one of the pool, and may be served there, is in the pool too. -/
theorem State.grantPool_mem {s : State} {cs : List Cand} {c d : Cand} (hc : c ∈ s.grantPool cs) (hd : d ∈ cs)
    (hside : s.inBudget d = s.inBudget c)
    (hmay : s.inBudget d = true ∨ nbit (s.regCfg d.req.reg d.req.path 3) 0 = true) : d ∈ s.grantPool cs := by
  unfold State.grantPool at hc ⊢
  split
  case isTrue hnone =>
    have hout : ¬ s.inBudget d = true := List.filter_eq_nil_iff.mp hnone d hd
    exact List.mem_filter.mpr ⟨hd, hmay.resolve_left hout⟩
  case isFalse hsome =>
    rw [if_neg hsome] at hc
    exact List.mem_filter.mpr ⟨hd, hside.trans (List.mem_filter.mp hc).2⟩

theorem State.winner_spec {s : State} {cs : List Cand} {c : Cand} (h : s.winner cs = some c) :
    c ∈ s.grantPool cs ∧ s.tagsFree c = true
      ∧ ∀ d ∈ s.grantPool cs, s.tagsFree d = true → keyBefore (s.candKey d) (s.candKey c) = false := by
  have hleads := s.foldl_lead_leads ((s.grantPool cs).filter s.tagsFree)
  rw [← State.winner_eq, h] at hleads
  obtain ⟨hmem, hbest⟩ := hleads
  obtain ⟨hpool, htags⟩ := List.mem_filter.mp hmem
  exact ⟨hpool, htags, fun d hd hfree => hbest d (List.mem_filter.mpr ⟨hd, hfree⟩)⟩

/-! ## The grant (R288, 14 R368) -/

section
variable {s : State} {q : Req}

theorem State.bufErr_ring {a : Nat} (h : s.ringUe q = some a) (e : Option Bool) :
    s.bufErr q e = some (true, memUnit a, some (memOffset a)) := by
  simp [State.bufErr, h]

theorem State.bufErr_clean (h : s.ringUe q = none) : s.bufErr q none = none := by
  simp [State.bufErr, h]

theorem State.bufErr_unit {x : Nat} (h : s.ringUe q = none) (hx : s.bufUnit q = some x) (ue : Bool) :
    s.bufErr q (some ue) = some (ue, x, none) := by
  simp [State.bufErr, h, hx]

end

/-- A corrected error of a buffer is recorded, with a free value for its detail, and the request goes out as it is. -/
theorem State.issueErr_corrected (s : State) (c : Cand) (x : Nat) :
    s.issueErr c false x none = State.issueReq (State.raise { s with freeCount := s.freeCount + 1 }
      { cls := 0x10, action := 1, unit := x, detail := Config.freeNat s.freeCount % 2 ^ 64 }) c := rfl

section
variable {s v : State} {p : Nat} {e : Option Bool} (hv : v = s.prepare)
include hv

theorem arbitrationGrant_idle (h : v.pointUp p = false ∨ v.winner (v.candsAt p) = none) : arbitrationGrant p e s = v := by
  subst hv
  rcases h with h | h <;> simp [arbitrationGrant, h]

variable (hup : v.pointUp p = true) {c : Cand} (hc : v.winner (v.candsAt p) = some c)
include hup hc

theorem arbitrationGrant_issues (h : v.bufErr c.req e = none) : arbitrationGrant p e s = (v.issueReq c).prepare := by
  subst hv
  simp [arbitrationGrant, hup, hc, h]

theorem arbitrationGrant_errs {ue : Bool} {unit : Nat} {word : Option Nat} (h : v.bufErr c.req e = some (ue, unit, word)) :
    arbitrationGrant p e s = (v.issueErr c ue unit word).prepare := by
  subst hv
  simp [arbitrationGrant, hup, hc, h]

end

/-! ## What a reader is given (R285, R297, R299) -/

section
variable {s : State} {q : Req} {bs : List Byte}

theorem State.deliver_entry {cur : Bool} (h : q.entry = some cur) : s.deliver q bs .good = s.entryDone q cur (ofBytesLE bs) := by
  unfold State.deliver
  rw [h]
  cases q.client <;> simp [State.readFault]

theorem State.deliver_strm {r k : Nat} (hentry : q.entry = none) (hclient : q.client = .strm r k)
    (hactive : (s.strm r k).active = true) (hepoch : (s.strm r k).epoch = q.epoch) (hgoes : (s.strm r k).cancelling = false) :
    s.deliver q bs .good = s.strmArrive r k q.pos bs := by
  simp [State.deliver, State.readFault, hentry, hclient, hactive, hepoch, hgoes]

/-- An uncorrectable word: the report, the stripe poisoned, and zeros. -/
theorem State.deliver_strm_ue {v : State} {r k : Nat} (hv : v = s.readFault q .uncorrectable) (hentry : q.entry = none)
    (hclient : q.client = .strm r k) (hactive : (v.strm r k).active = true) (hepoch : (v.strm r k).epoch = q.epoch)
    (hgoes : (v.strm r k).cancelling = false) :
    s.deliver q bs .uncorrectable = (v.strmPoison r k).strmArrive r k q.pos (List.replicate q.len 0) := by
  subst hv
  simp [State.deliver, hentry, hclient, hactive, hepoch, hgoes]

end

/-! ## Completions (R285, R290, R297, R299) -/

section
variable {s : State} {id : Nat}

section
variable (h : s.findReq id = none)
include h

theorem readCompletion_unknown (x : ReadStatus) : readCompletion id x s = s := by simp [readCompletion, h]
theorem writeAccept_unknown : writeAccept id s = s := by simp [writeAccept, h]
theorem pageMapEntryRead_unknown (x : ReadStatus) : pageMapEntryRead id x s = s := by simp [pageMapEntryRead, h]
theorem tagTimeout_unknown : tagTimeout id s = s := by simp [tagTimeout, h]

end

variable {q : Req} (hq : s.findReq id = some q)
include hq

section
variable (hread : q.write = false) (hpath : q.path ≠ 2) (hentry : q.entry = none) (hturn : q.path ≤ 1 → s.oldest q = true)
include hread hpath hentry hturn

theorem readCompletion_good (hvault : s.vaultLost q.addr = false) (hclean : s.poisonedIn q.addr q.len = false) :
    readCompletion id .ok s = (s.dropReq id).deliver q (s.rd q.addr q.len) .good := by
  simp +contextual [readCompletion, hq, hread, hpath, hentry, hturn, hvault, hclean]

theorem readCompletion_ue : readCompletion id .ue s = (s.dropReq id).deliver q (s.rd q.addr q.len) .uncorrectable := by
  simp +contextual [readCompletion, hq, hread, hpath, hentry, hturn]

end

theorem pageMapEntryRead_arrives {cur : Bool} (hentry : q.entry = some cur) (hturn : s.oldest q = true) :
    pageMapEntryRead id .ok s = (s.dropReq id).entryDone q cur (ofBytesLE (s.rd q.addr q.len)) := by
  simp [pageMapEntryRead, hq, hentry, hturn, State.deliver_entry hentry]

theorem pageMapEntryRead_waits (hturn : s.oldest q = false) (x : ReadStatus) : pageMapEntryRead id x s = s := by
  simp [pageMapEntryRead, hq, hturn]

theorem tagTimeout_retires (hread : q.write = false) (hpath : q.path ≤ 1) (hold : q.since + 10_000 ≤ s.now)
    (hclock : nbit s.clk.held q.path = false) : tagTimeout id s = (s.dropReq id).deliver q [] .timeout := by
  simp [tagTimeout, hq, hread, hclock, Nat.not_lt.mpr hpath, Nat.not_lt.mpr hold]

theorem tagTimeout_early (h : s.now < q.since + 10_000 ∨ nbit s.clk.held q.path = true) : tagTimeout id s = s := by
  rcases h with h | h <;> simp [tagTimeout, hq, h]

end

/-! ## Acceptance (R286, R290) -/

/-- What the acceptance of a write advances. -/
def State.writeTaken (s : State) (q : Req) : State :=
  match q.client with
  | .strm r k => s.strmAccepted r k q
  | .ingress p => s.ingAccepted p q.epoch q.data
  | .tap k => s.tapAccepted k q.epoch q.len
  | .dma c => s.jobAccepted c q.epoch q.len
  | .aux a => s.auxAccepted a q.len

theorem State.strmAccepted_live {s : State} {q : Req} {r k : Nat} {x : Strm} (hx : x = s.strm r k) (hactive : x.active = true)
    (hepoch : x.epoch = q.epoch) : s.strmAccepted r k q
      = (((s.putStrm r k { x with accepted := x.accepted + q.len }).noteOut r { x with accepted := x.accepted + q.len }
          false).endIfDone r k).wake r := by
  subst hx
  simp [State.strmAccepted, hactive, hepoch]

section
variable {s : State} {id : Nat} {q : Req} (hq : s.findReq id = some q)
include hq

theorem writeAccept_takes {v : State} (hwrite : q.write = true) (hturn : s.oldest q = true)
    (hposted : q.path = 2 → s.oldestPosted q = true)
    (hv : v = if q.path = 2 then ((s.storeReq q).dropReq id).flushMsgs else (s.storeReq q).dropReq id) :
    writeAccept id s = v.writeTaken q := by
  have hfree : (q.path == 2 && !s.oldestPosted q) = false := by simpa using hposted
  simp only [writeAccept, State.writeTaken, hq]
  cases q.client <;> simp [hwrite, hturn, hfree, hv]

theorem writeAccept_waits (h : s.oldest q = false ∨ q.path = 2 ∧ s.oldestPosted q = false) : writeAccept id s = s := by
  rcases h with h | ⟨hpath, h⟩
  · simp [writeAccept, hq, h]
  · simp [writeAccept, hq, hpath, h]

end

/-! ## The bytes that a write stores -/

/-- A cell found in a part of a list is one that the part keeps. -/
theorem tget_filter {α : Type} (d : α) (p : Nat → Bool) (m : List (Nat × α)) (i : Nat) :
    tget d (m.filter (fun c => p c.1)) i = if p i = true then tget d m i else d := by
  induction m with
  | nil => simp [tget]
  | cons c m ih =>
    obtain ⟨k, x⟩ := c
    by_cases hi : i = k
    · subst hi
      cases hp : p i <;> simp_all [tget]
    · cases hp : p k <;> simp [hp, tget, hi, ih]

theorem tget_unlisted {α : Type} (d : α) {m : List (Nat × α)} {i : Nat} (h : ∀ c ∈ m, c.1 ≠ i) : tget d m i = d := by
  induction m with
  | nil => rfl
  | cons c m ih =>
    obtain ⟨hc, hm⟩ := List.forall_mem_cons.mp h
    rw [tget, if_neg hc.symm, ih hm]

theorem tget_append_left {α : Type} (d : α) {m n : List (Nat × α)} {i : Nat} (h : ∀ c ∈ n, c.1 ≠ i) :
    tget d (m ++ n) i = tget d m i := by
  induction m with
  | nil => exact tget_unlisted d h
  | cons c m ih => simp only [List.cons_append, tget, ih]

theorem tget_append_right {α : Type} (d : α) {m n : List (Nat × α)} {i : Nat} (h : ∀ c ∈ m, c.1 ≠ i) :
    tget d (m ++ n) i = tget d n i := by
  induction m with
  | nil => rfl
  | cons c m ih =>
    obtain ⟨hc, hm⟩ := List.forall_mem_cons.mp h
    rw [List.cons_append, tget, if_neg hc.symm, ih hm]

/-- A run of bytes reads as what it holds: the zeros left out are those that an unlisted byte reads as. -/
theorem memByte_runCells (bs : List Byte) {a i : Nat} (h : a ≤ i) : memByte (runCells a bs) i = bs.getD (i - a) 0 := by
  unfold memByte
  induction bs generalizing a with
  | nil => simp [runCells, tget]
  | cons b bs ih =>
    rcases Nat.eq_or_lt_of_le h with rfl | hlt
    · have hrest : tget 0 (runCells (a + 1) bs) a = 0 :=
        tget_unlisted 0 fun c hc => by have := runCells_bounds bs (a + 1) c hc; omega
      rw [runCells]
      split
      · rw [hrest, Nat.sub_self, List.getD_cons_zero, ‹b = 0›]
      · simp [tget]
    · have hidx : i - a = i - (a + 1) + 1 := by omega
      have hne : i ≠ a := by omega
      rw [hidx, List.getD_cons_succ, ← ih hlt, runCells]
      split <;> simp [tget, hne]

theorem memByte_memWrite (m : List Host.Cell) (a : Nat) (bs : List Byte) (i : Nat) :
    memByte (memWrite m a bs) i = if a ≤ i ∧ i < a + bs.length then bs.getD (i - a) 0 else memByte m i := by
  have hrun : i < a ∨ a + bs.length ≤ i → ∀ c ∈ runCells a bs, c.1 ≠ i := fun h c hc => by
    have := runCells_bounds bs a c hc; omega
  have hlow : a ≤ i → ∀ c ∈ m.filter (fun c => decide (c.1 < a)), c.1 ≠ i := fun h c hc => by
    have := List.of_mem_filter hc; simp only [decide_eq_true_eq] at this; omega
  have hhigh : i < a + bs.length → ∀ c ∈ m.filter (fun c => decide (a + bs.length ≤ c.1)), c.1 ≠ i := fun h c hc => by
    have := List.of_mem_filter hc; simp only [decide_eq_true_eq] at this; omega
  unfold memByte memWrite
  rcases Nat.lt_or_ge i a with hbelow | hfrom
  · rw [if_neg (by omega), tget_append_left 0 (fun c hc => (List.mem_append.mp hc).elim (hrun (.inl hbelow) c)
      (hhigh (by omega) c)), tget_filter 0 (fun k => decide (k < a)), if_pos (by simpa using hbelow)]
  · rw [tget_append_right 0 (hlow hfrom)]
    rcases Nat.lt_or_ge i (a + bs.length) with hin | habove
    · rw [if_pos ⟨hfrom, hin⟩, tget_append_left 0 (hhigh hin)]
      exact memByte_runCells bs hfrom
    · rw [if_neg (by omega), tget_append_right 0 (hrun (.inr habove)), tget_filter 0 (fun k => decide (a + bs.length ≤ k)),
        if_pos (by simpa using habove)]

/-- Reports of words in error leave memory alone. -/
theorem State.foldl_raiseEcc_mem (s : State) (ws : List Nat) : (ws.foldl (fun s w => s.raiseEcc 0x11 w) s).mem = s.mem := by
  induction ws generalizing s with
  | nil => rfl
  | cons w ws ih => rw [List.foldl_cons, ih, State.raiseEcc, State.raise_mem]

theorem State.memByte_wr (s : State) (a : Nat) (bs : List Byte) (i : Nat) :
    memByte (s.wr a bs).mem i = if a ≤ i ∧ i < a + bs.length then bs.getD (i - a) 0 else memByte s.mem i := by
  unfold State.wr
  split
  case isTrue hnil =>
    subst hnil
    rw [if_neg (by simp)]
  case isFalse => rw [State.foldl_raiseEcc_mem, memByte_memWrite]

/-- A write to device memory that no fence and no protected range turns away. -/
theorem State.storeReq_stores {s : State} {q : Req} (hhost : q.path ≠ 2) (hline : q.path ≠ 5) (hvault : s.vaultLost q.addr = false)
    (hown : s.hostOwn q = false ∨ s.protectedIn q.addr q.data.length = none) : s.storeReq q = s.wr q.addr q.data := by
  have hopen : (s.hostOwn q && (s.protectedIn q.addr q.data.length).isSome) = false := by
    rcases hown with h | h <;> simp [h]
  by_cases hdata : q.data = []
  · simp [State.storeReq, State.wr, hdata]
  · simp [State.storeReq, hhost, hline, hvault, hopen, hdata]

/-! ## The end of a cancel (R304) -/

section
variable {s : State} {r k : Nat}

theorem streamCancelDone_ends (hactive : (s.strm r k).active = true) (hcancel : (s.strm r k).cancelling = true)
    (hflight : (s.inFlight r k).isEmpty = true) : streamCancelDone r k s = s.endStrm r k true 1 (s.strm r k).cause := by
  simp [streamCancelDone, hactive, hcancel, hflight]

theorem streamCancelDone_none
    (h : (s.strm r k).active = false ∨ (s.strm r k).cancelling = false ∨ (s.inFlight r k).isEmpty = false) :
    streamCancelDone r k s = s := by
  rcases h with h | h | h <;> simp [streamCancelDone, h]

end

/-- Settles O50: each command is the law of its case; the winner is the best of the pool that the budgets leave, and a store is
read back byte by byte. -/
theorem memoryRequests : Obligations.MemoryRequests := by
  unfold Obligations.MemoryRequests
  refine ⟨?grant, ?winner, ?requests, ?cancelled⟩
  case grant =>
    rintro s u v t p rfl hv
    refine ⟨fun c hup hc => ⟨fun hring => ?_, fun hring x hx => ?_, fun a e hring => ?_⟩, fun hidle e => ?_⟩
    all_goals rw [exec_arbitrationGrant]
    · rw [arbitrationGrant_issues hv hup hc (State.bufErr_clean hring)]
    · rw [arbitrationGrant_errs hv hup hc (State.bufErr_unit hring hx false), State.issueErr_corrected]
    · rw [arbitrationGrant_errs hv hup hc (State.bufErr_ring hring e)]
    · rw [arbitrationGrant_idle hv hidle]
  case winner =>
    intro u cs c hc
    obtain ⟨hpool, htags, hbest⟩ := State.winner_spec hc
    obtain ⟨hmem, hbudget, hsurplus⟩ := State.mem_grantPool hpool
    exact ⟨hmem, htags, hbudget, hsurplus, fun d hd hfree hside hmay =>
      hbest d (State.grantPool_mem hpool hd hside hmay) hfree⟩
  case requests =>
    rintro s u t id rfl
    simp only [exec_readCompletion, exec_writeAccept, exec_pageMapEntryRead, exec_tagTimeout, Host.Outcome.next.injEq]
    refine ⟨fun hnone => ?unknown, fun q hq hread hpath hentry hturn => ⟨fun hvault hclean => ?good, ?ue⟩,
      fun q cur hq hentry => ?entry, fun q hq hread hpath => ?timeout, fun q v hq hwrite hturn hposted hv => ?accept,
      fun q hq _ => writeAccept_waits hq, fun q a hhost hline hvault hown => ?stored⟩
    case unknown =>
      exact ⟨readCompletion_unknown hnone, writeAccept_unknown hnone, pageMapEntryRead_unknown hnone, tagTimeout_unknown hnone⟩
    case good =>
      rw [readCompletion_good hq hread hpath hentry hturn hvault hclean]
      exact ⟨rfl, fun r k hclient hactive hepoch hgoes => State.deliver_strm hentry hclient hactive hepoch hgoes⟩
    case ue =>
      intro r k v hclient hv hactive hepoch hgoes
      rw [readCompletion_ue hq hread hpath hentry hturn, State.deliver_strm_ue hv hentry hclient hactive hepoch hgoes]
    case entry => exact ⟨pageMapEntryRead_arrives hq hentry, pageMapEntryRead_waits hq⟩
    case timeout => exact ⟨tagTimeout_retires hq hread hpath, tagTimeout_early hq⟩
    case accept =>
      rw [writeAccept_takes hq hwrite hturn hposted hv, State.writeTaken]
      refine ⟨fun r k x hclient hx hactive hepoch => ?_, fun p hclient => ?_, fun k hclient => ?_, fun c hclient => ?_,
        fun a hclient => ?_⟩
      all_goals rw [hclient]
      exact State.strmAccepted_live hx hactive hepoch
    case stored => rw [State.storeReq_stores hhost hline hvault hown, State.memByte_wr]
  case cancelled =>
    rintro s u t r k rfl
    simp only [exec_streamCancelDone, Host.Outcome.next.injEq]
    exact ⟨streamCancelDone_ends, streamCancelDone_none⟩

end Sys2Proof.Machine
end

section
/-! The Mask bit of a vector (spec/12_host_link_and_dma.md R319, R320): a state in which the write of O36's last clause stores
another word than the one it names. -/

namespace Sys2Proof.Machine

theorem exec_msixMaskWrite (t : Nat) (p : Path) (a : Nat) (x : Word) (s : State) :
    exec (.msixMaskWrite t p a x) s = .next ((s.advance t).writeIn p a x) := rfl

/-- RUNNING, the link down, and bit 1 of the Vector Control word of vector 0, a reserved bit, held in the register store. -/
def reservedMaskBit : State :=
  { State.reset with
    boot := { State.reset.boot with phase := .running, rcRunning := true }
    regs := [(0x10_800C, 2)] }

theorem reservedMaskBit_takes : reservedMaskBit.takes .mgmt 0x10_800C := by unfold State.takes; decide +kernel

/-- A write of 0 through MGMT: the row lets bit 0 alone be written, and bit 1 stays as it was. -/
theorem reservedMaskBit_kept : reservedMaskBit.writeIn .mgmt 0x10_800C 0 = reservedMaskBit := by decide +kernel

/-- Refutes O36: its last clause has the write store bit 0 of the value and nothing else, over every state; `writePlain` keeps the
bits that the row does not let a write set, so that in `reservedMaskBit` the word stays 2 where the clause has 0. -/
theorem not_streamCommands : ¬ Obligations.StreamCommands := by
  unfold Obligations.StreamCommands
  intro h
  obtain ⟨-, -, -, -, -, hmask⟩ := h reservedMaskBit reservedMaskBit reservedMaskBit 0 0 0 0 .mgmt 0 Strm.init rfl rfl
    (by decide)
  obtain ⟨w, hw, hexec⟩ := hmask (by decide) reservedMaskBit_takes
  obtain rfl : w = 0 := BitVec.eq_of_toNat_eq hw
  have hsame : reservedMaskBit.advance 0 = reservedMaskBit := rfl
  rw [exec_msixMaskWrite, hsame, reservedMaskBit_kept] at hexec
  have hword := congrArg (fun z => z.rget 0x10_800C) (Host.Outcome.next.inj hexec)
  exact absurd hword (by decide +kernel)

end Sys2Proof.Machine
end

section
/-! Channel control (spec/12_host_link_and_dma.md R324, R343): a write of CH_DOORBELL or CH_CTRL goes to its action on the state that
has received it over its path, and each action turns on the state of the channel. -/

namespace Sys2Proof.Machine

/-! ## The commands -/

theorem exec_chDoorbell (t : Nat) (p : Path) (c : Nat) (x : Word) (s : State) :
    exec (.chDoorbell t p c x) s = .next ((s.advance t).writeIn p (chanReg c 0x24) x) := rfl
theorem exec_start (t : Nat) (p : Path) (c : Nat) (s : State) :
    exec (.start t p c) s = .next ((s.advance t).writeIn p (chanReg c 0x20) 1) := rfl
theorem exec_stop (t : Nat) (p : Path) (c : Nat) (s : State) :
    exec (.stop t p c) s = .next ((s.advance t).writeIn p (chanReg c 0x20) 2) := rfl
theorem exec_abort (t : Nat) (p : Path) (c : Nat) (s : State) :
    exec (.abort t p c) s = .next ((s.advance t).writeIn p (chanReg c 0x20) 4) := rfl
theorem exec_restart (t : Nat) (p : Path) (c : Nat) (s : State) :
    exec (.restart t p c) s = .next ((s.advance t).writeIn p (chanReg c 0x20) 8) := rfl
theorem exec_resetIdx (t : Nat) (p : Path) (c : Nat) (s : State) :
    exec (.resetIdx t p c) s = .next ((s.advance t).writeIn p (chanReg c 0x20) 16) := rfl

/-! ## CH_CTRL and CH_DOORBELL on their path -/

theorem rowOf_chCtrl : ∀ c < 32, rowOf (chanReg c 0x20) = some (ro 0x10_1020 [(0x100, 32)]) := by decide
theorem rowOf_chDoorbell : ∀ c < 32, rowOf (chanReg c 0x24) = some (ro 0x10_1024 [(0x100, 32)]) := by decide

theorem clearGroup_chanReg {c off : Nat} (hc : c < 32) (hoff : off < 0x64) : clearGroup (chanReg c off) = none := by
  unfold clearGroup chanReg
  simp only [Bool.and_eq_true, decide_eq_true_eq]
  repeat rw [if_neg (by omega)]

theorem State.writeSpecial_chCtrl (s : State) (p : Path) {c : Nat} (hc : c < 32) (w : Word) :
    s.writeSpecial p (chanReg c 0x20) w = some (s.writeChCtrl c w) := by
  have hclear := clearGroup_chanReg hc (off := 0x20) (by decide)
  have hidx : (chanReg c 0x20 - 0x10_1000) / 0x100 = c := by unfold chanReg; omega
  have hlo : 0x10_1000 ≤ chanReg c 0x20 := by unfold chanReg; omega
  have hhi : chanReg c 0x20 < 0x10_3000 := by unfold chanReg; omega
  have hoff : chanReg c 0x20 % 0x100 = 0x20 := by unfold chanReg; omega
  simp (disch := omega) only [State.writeSpecial, isPllCfg, hclear, Bool.and_eq_true, Bool.or_eq_true, decide_eq_true_eq,
    beq_iff_eq, if_neg, if_pos, hidx]

theorem State.writeSpecial_chDoorbell (s : State) (p : Path) {c : Nat} (hc : c < 32) (w : Word) :
    s.writeSpecial p (chanReg c 0x24) w = some (chDoorbell c (fld w 0 16) s) := by
  have hclear := clearGroup_chanReg hc (off := 0x24) (by decide)
  have hidx : (chanReg c 0x24 - 0x10_1000) / 0x100 = c := by unfold chanReg; omega
  have hlo : 0x10_1000 ≤ chanReg c 0x24 := by unfold chanReg; omega
  have hhi : chanReg c 0x24 < 0x10_3000 := by unfold chanReg; omega
  have hoff : chanReg c 0x24 % 0x100 = 0x24 := by unfold chanReg; omega
  simp (disch := omega) only [State.writeSpecial, isPllCfg, hclear, Bool.and_eq_true, Bool.or_eq_true, decide_eq_true_eq,
    beq_iff_eq, if_neg, if_pos, hidx]

/-- A write of software to an open row below the windows, which no lock protects and where a write is an action. -/
theorem State.writeIn_action {s v z : State} {p : Path} {a : Nat} {r : RegRow} {w : Word} (ht : s.takes p a)
    (hv : v = s.linkRx p) (ha : a < 0x50_0000) (hr : rowOf a = some r) (hgate : r.gate = .any) (hlock : r.lock = none)
    (hz : v.writeSpecial p a w = some z) : s.writeIn p a w = z.noteEvt v.evtStatus := by
  obtain ⟨hp, -, hup, hw⟩ := ht
  have hshut : v.windowShut p a = false := by
    simp only [State.windowShut, Bool.and_eq_false_iff, Bool.or_eq_false_iff, decide_eq_false_iff_not]
    omega
  have hhere : v.writeHere p a w = z := by simp [State.writeHere, hr, hgate, State.gateOpen, hshut, hz]
  rw [State.writeIn_up hp hup, ← hv, State.writeReg_unlocked (by simpa [hv] using hw) hr hlock, hhere]

section
variable {s v : State} {p : Path} {c : Nat} (hv : v = s.linkRx p) (hc : c < 32)
include hv hc

theorem State.writeIn_chCtrl (ht : s.takes p (chanReg c 0x20)) (w : Word) :
    s.writeIn p (chanReg c 0x20) w = (v.writeChCtrl c w).noteEvt v.evtStatus :=
  State.writeIn_action ht hv (by unfold chanReg; omega) (rowOf_chCtrl c hc) rfl rfl (v.writeSpecial_chCtrl p hc w)

theorem State.writeIn_chDoorbell (ht : s.takes p (chanReg c 0x24)) (w : Word) :
    s.writeIn p (chanReg c 0x24) w = (chDoorbell c (fld w 0 16) v).noteEvt v.evtStatus :=
  State.writeIn_action ht hv (by unfold chanReg; omega) (rowOf_chDoorbell c hc) rfl rfl (v.writeSpecial_chDoorbell p hc w)

end

/-! ## The bits of CH_CTRL (Table 12.9), one at a time -/

theorem State.writeChCtrl_start (s : State) (c : Nat) : s.writeChCtrl c 1 = chStart c s := rfl
theorem State.writeChCtrl_stop (s : State) (c : Nat) : s.writeChCtrl c 2 = chStop c s := rfl
theorem State.writeChCtrl_abort (s : State) (c : Nat) : s.writeChCtrl c 4 = chAbort c s := rfl
theorem State.writeChCtrl_restart (s : State) (c : Nat) : s.writeChCtrl c 8 = chRestart c s := rfl
theorem State.writeChCtrl_resetIdx (s : State) (c : Nat) : s.writeChCtrl c 16 = chResetIdx c s := rfl

/-! ## The actions (R343) -/

theorem State.putChan_evtStatus (s : State) (c : Nat) (x : Chan) : (s.putChan c x).evtStatus = s.evtStatus := rfl

section
variable {s : State} {c : Nat}

theorem chStart_elsewhere (h : (s.chan c).state ≠ .stopped) : chStart c s = s := by simp [chStart, h]
theorem chStop_elsewhere (h : (s.chan c).state ≠ .running) : chStop c s = s := by simp [chStop, h]
theorem chRestart_elsewhere (h : (s.chan c).state ≠ .halted) : chRestart c s = s := by simp [chRestart, h]
theorem chResetIdx_elsewhere (h : (s.chan c).state ≠ .stopped) : chResetIdx c s = s := by simp [chResetIdx, h]
theorem chAbort_stopped (h : (s.chan c).state = .stopped) : chAbort c s = s := by simp [chAbort, h]

variable (hc : c < 32) (hkind : s.chKind c ≠ 0)
include hc hkind

theorem chStart_stopped (h : (s.chan c).state = .stopped) (h14 : s.past14 = true) (hphase : s.boot.phase ≠ .rearming) :
    chStart c s = s.putChan c { s.chan c with state := .running, fetchAt := (s.chan c).ci, fetched := [] } := by
  simp [chStart, hkind, h, h14, hphase, Nat.not_le.mpr hc]

theorem chStop_running (h : (s.chan c).state = .running) :
    chStop c s = (s.putChan c { s.chan c with state := .stopping }).settleChan c := by
  simp [chStop, hkind, h, Nat.not_le.mpr hc]

theorem chAbort_active (h : (s.chan c).state = .running ∨ (s.chan c).state = .halted) : chAbort c s = s.abortChan c 0 := by
  rcases h with h | h <;> simp [chAbort, hkind, h, Nat.not_le.mpr hc]

theorem chRestart_halted (h : (s.chan c).state = .halted) (hphase : s.boot.phase ≠ .rearming) :
    chRestart c s = s.putChan c { s.chan c with state := .running, fetchAt := (s.chan c).ci, fetched := [] } := by
  simp [chRestart, hkind, h, hphase, Nat.not_le.mpr hc]

theorem chResetIdx_stopped (h : (s.chan c).state = .stopped) :
    chResetIdx c s = s.putChan c { s.chan c with ci := 0, pi := 0, seq := 0, fetchAt := 0 } := by
  simp [chResetIdx, hkind, h, Nat.not_le.mpr hc]

/-- The doorbell (R324): PI beyond the ring's end, or behind the old PI, is refused and counted. -/
theorem chDoorbell_rings {pi d : Nat} (hnotify : s.chKind c ≠ 3) (hphase : s.boot.phase ≠ .rearming) (hpi : pi < 65536)
    (hd : d = (pi + 65536 - (s.chan c).ci) % 65536) :
    chDoorbell c pi s = if 2 ^ s.drLog c - 1 < d ∨ d < ((s.chan c).pi + 65536 - (s.chan c).ci) % 65536
      then s.bumpChan c 0 else s.putChan c { s.chan c with pi := pi } := by
  simp [chDoorbell, hkind, hnotify, hphase, Nat.not_le.mpr hc, ← hd, Nat.mod_eq_of_lt hpi]

end

theorem State.linkRx_drLog (s : State) (p : Path) (c : Nat) : (s.linkRx p).drLog c = s.drLog c := by
  rw [State.drLog, State.drLog, State.linkRx_rget s p (by unfold chanReg; omega) (by unfold chanReg; omega)]

@[simp] theorem State.linkRx_past14 (s : State) (p : Path) : (s.linkRx p).past14 = s.past14 := by
  simp [State.past14]

/-- Settles O35: both registers act on the state that has received the write, in which the channel stands as before; the state of the
channel says which bits of CH_CTRL act. -/
theorem channelControl : Obligations.ChannelControl := by
  unfold Obligations.ChannelControl
  rintro s u v t c p x rfl hv hc h14 hphase hkind
  have hchan : v.chan c = (s.advance t).chan c := by rw [hv, State.linkRx_chan]
  have hring : v.drLog c = (s.advance t).drLog c := by rw [hv, State.linkRx_drLog]
  replace hkind : v.chKind c ≠ 0 := by rwa [hv, State.linkRx_chKind]
  replace h14 : v.past14 = true := by rwa [hv, State.linkRx_past14]
  replace hphase : v.boot.phase ≠ .rearming := by rwa [hv, State.linkRx_boot]
  simp only [exec_chDoorbell, exec_start, exec_stop, exec_abort, exec_restart, exec_resetIdx, ← hchan, ← hring,
    Host.Outcome.next.injEq]
  refine ⟨fun ht hnotify pi d hpi hd => ?doorbell, fun ht => ?control⟩
  case doorbell =>
    subst hpi
    rw [State.writeIn_chDoorbell hv hc ht, chDoorbell_rings hc hkind (by rwa [hv, State.linkRx_chKind]) hphase
      (by rw [fld_eq]; omega) hd]
  case control =>
    simp only [State.writeIn_chCtrl hv hc ht, State.writeChCtrl_start, State.writeChCtrl_stop, State.writeChCtrl_abort,
      State.writeChCtrl_restart, State.writeChCtrl_resetIdx]
    refine ⟨fun h => ?stopped, fun h => ?running, fun h => ?halted⟩
    case stopped =>
      rw [chStart_stopped hc hkind h h14 hphase, chResetIdx_stopped hc hkind h, chStop_elsewhere (by simp [h]), chAbort_stopped h,
        chRestart_elsewhere (by simp [h]), State.noteEvt_self]
      exact ⟨State.noteEvt_same (v.putChan_evtStatus c _), State.noteEvt_same (v.putChan_evtStatus c _), rfl, rfl, rfl⟩
    case running =>
      rw [chStop_running hc hkind h, chAbort_active hc hkind (.inl h), chStart_elsewhere (by simp [h]),
        chRestart_elsewhere (by simp [h]), chResetIdx_elsewhere (by simp [h]), State.noteEvt_self]
      exact ⟨rfl, rfl, rfl, rfl, rfl⟩
    case halted =>
      rw [chRestart_halted hc hkind h hphase, chAbort_active hc hkind (.inr h), chStart_elsewhere (by simp [h]),
        chStop_elsewhere (by simp [h]), chResetIdx_elsewhere (by simp [h]), State.noteEvt_self]
      exact ⟨State.noteEvt_same (v.putChan_evtStatus c _), rfl, rfl, rfl, rfl⟩

end Sys2Proof.Machine
end

section
/-! The host link (spec/12_host_link_and_dma.md R310 to R322, spec/02_leneno_image_and_start.md R40): what link events, configuration
requests, accesses to the BARs and the completions of outbound reads do, each as a law of its operation. -/

namespace Sys2Proof.Machine

/-! ## The commands -/

theorem exec_linkUp (t g w : Nat) (s : State) : exec (.linkUp t g w) s = .next (linkUp g w (s.advance t)) := rfl
theorem exec_linkDown (t : Nat) (s : State) : exec (.linkDown t) s = .next (s.advance t).linkDown := rfl
theorem exec_hotReset (t : Nat) (s : State) : exec (.hotReset t) s = .next (hotReset (s.advance t)) := rfl
theorem exec_d3hot (t : Nat) (b : Bool) (s : State) : exec (.d3hot t b) s = .next (d3hot b (s.advance t)) := rfl
theorem exec_pcieConfigRequest (t : Nat) (op : CfgOp) (s : State) :
    exec (.pcieConfigRequest t op) s = .next (pcieConfig op (s.advance t)) := rfl
theorem exec_bar0Bad (t a : Nat) (b : Bool) (n : Nat) (s : State) :
    exec (.bar0Bad t a b n) s = .next (bar0Bad a b n (s.advance t)) := rfl
theorem exec_bar2Read (t a n : Nat) (x : ReadStatus) (s : State) :
    exec (.bar2Read t a n x) s = .next (bar2Read a n x (s.advance t)) := rfl
theorem exec_bar2Write (t a : Nat) (bs : List Byte) (e : Bool) (s : State) :
    exec (.bar2Write t a bs e) s = .next (bar2Write a bs e (s.advance t)) := rfl
theorem exec_pcieCompletion (t tag : Nat) (x : CplStatus) (bs : List Byte) (s : State) :
    exec (.pcieCompletion t tag x bs) s = .next (pcieCompletion tag x bs (s.advance t)) := rfl
theorem exec_completionTimeout (t tag : Nat) (s : State) :
    exec (.completionTimeout t tag) s = .next (completionTimeout tag (s.advance t)) := rfl

/-! ## The link (R310, R312, R313) -/

section
variable {s : State}

theorem linkWidthOk_iff (w : Nat) : linkWidthOk w = true ↔ w ∈ [1, 2, 4, 8, 16] := by
  simp [linkWidthOk, or_assoc]

theorem linkUp_trains {g w : Nat} (hmay : s.linkMayTrain = true) (hdown : s.host.linkUp = false) (hlo : 1 ≤ g) (hhi : g ≤ 5)
    (hw : w ∈ [1, 2, 4, 8, 16]) : linkUp g w s
      = State.noteEvt { s with host := { s.host with linkUp := true, gen := g, width := w } } s.evtStatus := by
  have hg : g ≠ 0 := Nat.one_le_iff_ne_zero.mp hlo
  simp [linkUp, hmay, hdown, hg, Nat.not_lt.mpr hhi, (linkWidthOk_iff w).mpr hw]

section
variable (hup : s.host.linkUp = true)
include hup

theorem State.linkDown_up : s.linkDown = s.host.reads.foldl (fun z r => z.endRead r (some 6) []) (State.bumpHost
    (State.dropInbound { s with host := { s.host with linkUp := false, gen := 0, width := 0, cfg := CfgSpace.init } }) 4) := by
  simp [State.linkDown, hup]

theorem hotReset_up : hotReset s = State.dropInbound { s with host := { s.host with cfg := CfgSpace.init } } := by
  simp [hotReset, hup]

theorem d3hot_up (hrrs : s.boot.rrs = false) (b : Bool) :
    d3hot b s = State.flushMsix { s with host := { s.host with cfg := { s.host.cfg with d3 := b } } } := by
  simp [d3hot, hup, hrrs]

end

section
variable (hdown : s.host.linkUp = false)
include hdown

theorem State.barUp_down : s.barUp = false := by simp [State.barUp, hdown]

theorem State.linkDown_down : s.linkDown = s := by simp [State.linkDown, hdown]
theorem hotReset_down : hotReset s = s := by simp [hotReset, hdown]
theorem d3hot_down (b : Bool) : d3hot b s = s := by simp [d3hot, hdown]
theorem pcieConfig_down (op : CfgOp) : pcieConfig op s = s := by simp [pcieConfig, hdown]
theorem bar0Bad_down (a : Nat) (b : Bool) (n : Nat) : bar0Bad a b n s = s := by simp [bar0Bad, hdown]
theorem bar2Read_down (a n : Nat) (x : ReadStatus) : bar2Read a n x s = s := by
  simp [bar2Read, State.barUp_down hdown, hdown]
theorem bar2Write_down (a : Nat) (bs : List Byte) (e : Bool) : bar2Write a bs e s = s := by
  simp [bar2Write, State.barUp_down hdown]

end

/-! ## Configuration requests (R311, 02 R40) -/

/-- A DWORD of a capability all of whose bits the spec gives. -/
theorem State.capRead_given {e : Bool} {id off v : Nat} (hid : (capIds e).contains id = true)
    (hword : s.capWord e id off = (m32, v)) :
    s.capRead e id off = (s.freeW.2.bump64 0x10_0188 4).out (.cfgReply (some v)) := by
  simp only [State.capRead, hid, hword, Nat.sub_self, Nat.and_zero, Nat.zero_or]
  rfl

theorem State.capRead_absent {e : Bool} {id : Nat} (hid : (capIds e).contains id = false) (off : Nat) :
    s.capRead e id off = s.out (.cfgAbsent id) := by
  rw [State.capRead, if_pos (by rw [hid]; rfl)]

section
variable (hup : s.host.linkUp = true)
include hup

theorem pcieConfig_rrs (hrrs : s.boot.rrs = true) (op : CfgOp) : pcieConfig op s = s.out (.cfgReply none) := by
  simp [pcieConfig, hup, hrrs]

variable (hrrs : s.boot.rrs = false)
include hrrs

theorem pcieConfig_id : pcieConfig (.read 0) s
    = (s.bump64 0x10_0188 4).out (.cfgReply (some (Config.pciVendor.toNat + 0x9440 * 2 ^ 16))) := by
  simp [pcieConfig, hup, hrrs, State.cfgRead]

theorem pcieConfig_capability (e : Bool) (id off : Nat) : pcieConfig (.capability e id off) s = s.capRead e id off := by
  simp [pcieConfig, hup, hrrs]

theorem pcieConfig_command (m b : Bool) : pcieConfig (.command m b) s = (State.flushMsix (State.bump64
    { s with host := { s.host with cfg := { s.host.cfg with memEn := m, busMaster := b } } } 0x10_0180 4)).out
      (.cfgReply (some 0)) := by
  simp [pcieConfig, hup, hrrs]

end

/-! ## Accesses to the BARs (R316 to R318) -/

section
variable (hup : s.host.linkUp = true)
include hup

theorem bar0Bad_write (a n : Nat) :
    bar0Bad a true n s = if s.barUp = true then (s.bump64 0x10_0180 n).bumpHost 0 else s := by
  simp [bar0Bad, hup]

theorem bar0Bad_read (a n : Nat) :
    bar0Bad a false n s = (if s.barUp = true then s.bumpHost 0 else s).out (.unsupported a) := by
  simp [bar0Bad, hup]

theorem bar2Read_unsupported (hbar : s.barUp = false) (a n : Nat) (x : ReadStatus) :
    bar2Read a n x s = s.out (.unsupported a) := by
  simp [bar2Read, hup, hbar]

end

theorem State.staging_missed {a n : Nat} (hout : s.stagingOpen = false ∨ 0x1000_0000 < a + n) (hopen : s.stagingOpen = true) :
    ¬ a + n ≤ 0x1000_0000 := by
  simp only [hopen, Bool.true_eq_false, false_or] at hout
  omega

section
variable {a n : Nat} (hbar : s.barUp = true) (hn : n ≠ 0)
include hbar hn

theorem bar2Read_staging (hopen : s.stagingOpen = true) (hin : a + n ≤ 0x1000_0000) :
    bar2Read a n .ok s = (s.bump64 0x10_0188 n).out (.readBytes 3 a (s.rd (stageBase + a) n) false) := by
  simp [bar2Read, State.bar2Get, hbar, hn, hopen, hin]

variable (hout : s.stagingOpen = false ∨ 0x1000_0000 < a + n)
include hout

theorem bar2Read_memory (hmem : s.bar2Mem a n = true) (x : ReadStatus) :
    bar2Read a n x s = s.addAux (.bar2 3 a) false false false a n [] := by
  simp +contextual [bar2Read, State.bar2Get, hbar, hn, State.staging_missed hout, hmem]

theorem bar2Read_nowhere (hmem : s.bar2Mem a n = false) (x : ReadStatus) :
    bar2Read a n x s = ((if s.past14 = true then s.bumpHost 1 else s).bump64 0x10_0188 n).out
      (.readBytes 3 a (List.replicate n 0) false) := by
  simp +contextual [bar2Read, State.bar2Get, hbar, hn, State.staging_missed hout, hmem]

end

/-- The data of a memory read that one completion carries. -/
theorem State.auxRead_bar2 {a : Aux} {off : Nat} (huse : a.use = .bar2 3 off) (hlen : a.len ≤ s.mps) :
    s.auxRead a = (s.bump64 0x10_0188 a.len).out
      (.readBytes 3 off (s.bar2Mask a.addr (gotBytes a.got 0 a.len)) a.bad.isSome) := by
  have hshown : (s.bar2Mask a.addr (gotBytes a.got 0 a.len)).length = a.len := by simp [State.bar2Mask, gotBytes]
  have hone : ¬ s.mps < a.len := Nat.not_lt.mpr hlen
  have htake := List.take_length (l := s.bar2Mask a.addr (gotBytes a.got 0 a.len))
  rw [hshown] at htake
  simp [State.auxRead, huse, State.bar2Reply, hshown, hone, htake]

section
variable {v : State} {a : Nat} {bs : List Byte} (hbar : s.barUp = true) (hv : v = s.bump64 0x10_0180 bs.length)
include hbar hv

theorem bar2Write_poisoned : bar2Write a bs true s
    = { v with host := { v.host with cfg := { v.host.cfg with poisonedTlp := true } } } := by
  simp [bar2Write, hbar, hv]

theorem bar2Write_taken : bar2Write a bs false s = v.bar2Put 3 a bs := by
  simp [bar2Write, hbar, hv]

end

section
variable {a : Nat} {bs : List Byte} (hbs : bs ≠ []) (hout : s.stagingOpen = false ∨ 0x1000_0000 < a + bs.length)
include hbs hout

theorem State.bar2Put_memory (hmem : s.bar2Mem a bs.length = true) :
    s.bar2Put 3 a bs = s.addAux (.bar2 3 a) true false false a bs.length bs := by
  simp +contextual [State.bar2Put, hbs, State.staging_missed hout, hmem]

theorem State.bar2Put_nowhere (hmem : s.bar2Mem a bs.length = false) :
    s.bar2Put 3 a bs = if s.past14 = true then s.bumpHost 1 else s := by
  simp +contextual [State.bar2Put, hbs, State.staging_missed hout, hmem]

end

/-! ## Completions of outbound reads (R322) -/

section
variable {tag : Nat}

section
variable (hnone : s.host.reads.find? (fun r => r.tag == tag) = none)
include hnone

theorem pcieCompletion_unknown (x : CplStatus) (bs : List Byte) : pcieCompletion tag x bs s = s := by
  simp [pcieCompletion, hnone]

theorem completionTimeout_unknown : completionTimeout tag s = s := by simp [completionTimeout, hnone]

end

variable {r : HostRead} (hr : s.host.reads.find? (fun r => r.tag == tag) = some r)
include hr

theorem pcieCompletion_ends {v : State} {bs : List Byte} (hup : s.host.linkUp = true) (hv : v = s.bump64 0x10_0180 bs.length)
    (x : CplStatus) : pcieCompletion tag x bs s = v.endRead r (cplCause r x bs.length) bs := by
  simp [pcieCompletion, hr, hup, hv]

theorem completionTimeout_ends (hon : s.host.cfg.ctoDisable = false)
    (hold : r.since + ctoNs s.host.cfg.ctoRange ≤ s.now) : completionTimeout tag s = (s.bumpHost 5).endRead r (some 4) [] := by
  simp [completionTimeout, hr, hon, Nat.not_lt.mpr hold]

theorem completionTimeout_waits (h : s.host.cfg.ctoDisable = true ∨ s.now < r.since + ctoNs s.host.cfg.ctoRange) :
    completionTimeout tag s = s := by
  simp [completionTimeout, hr, h]

end

end

/-- Settles O53: each command is the law of its case. -/
theorem hostLink : Obligations.HostLink := by
  unfold Obligations.HostLink
  rintro s u t rfl
  simp only [exec_linkUp, exec_linkDown, exec_hotReset, exec_d3hot, exec_pcieConfigRequest, exec_bar0Bad, exec_bar2Read,
    exec_bar2Write, exec_pcieCompletion, exec_completionTimeout, Host.Outcome.next.injEq]
  refine ⟨fun g w => linkUp_trains, State.linkDown_up, hotReset_up, fun b hup hrrs => d3hot_up hup hrrs b,
    fun op hup hrrs => pcieConfig_rrs hup hrrs op, fun hup hrrs => ?config, fun m b hup hrrs => pcieConfig_command hup hrrs m b,
    fun a n hup => ⟨bar0Bad_write hup a n, bar0Bad_read hup a n⟩, fun a n x hbar hn hout => ⟨?readMemory, ?readNowhere⟩,
    fun a n => bar2Read_staging, fun a off => State.auxRead_bar2, fun a bs v hbar hv => ⟨bar2Write_poisoned hbar hv, ?write⟩,
    fun tag r v bs hr => ⟨fun hup hv => ?completion, completionTimeout_ends hr, completionTimeout_waits hr⟩,
    fun tag bs x hnone => ⟨pcieCompletion_unknown hnone x bs, completionTimeout_unknown hnone⟩,
    fun hup hbar => bar2Read_unsupported hup hbar, fun hdown => ?down⟩
  case config =>
    simp only [pcieConfig_capability hup hrrs]
    exact ⟨pcieConfig_id hup hrrs, State.capRead_given rfl rfl, State.capRead_given rfl rfl,
      fun e id off hid => State.capRead_absent hid off⟩
  case readMemory => exact fun hmem => bar2Read_memory hbar hn hout hmem x
  case readNowhere => exact fun hmem => bar2Read_nowhere hbar hn hout hmem x
  case write =>
    rw [bar2Write_taken hbar hv]
    exact fun hbs hout => ⟨State.bar2Put_memory hbs hout, State.bar2Put_nowhere hbs hout⟩
  case completion =>
    simp only [pcieCompletion_ends hr hup hv]
    refine ⟨fun hlen => ?_, fun hlen => ?_, rfl, rfl, rfl, rfl⟩
    · rw [cplCause, if_pos hlen]
    · rw [cplCause, if_neg hlen]
  case down =>
    exact ⟨State.linkDown_down hdown, hotReset_down hdown, d3hot_down hdown, pcieConfig_down hdown, bar0Bad_down hdown,
      bar2Read_down hdown, bar2Write_down hdown⟩

end Sys2Proof.Machine
end

section
/-! The DMA engine (spec/12_host_link_and_dma.md R325 to R339): descriptors fetched and received, the beat that a path is offered, and
the start of a host frame. -/

namespace Sys2Proof.Machine

/-! ## The commands -/

theorem exec_descriptorFetch (t c : Nat) (s : State) : exec (.descriptorFetch t c) s = .next (descriptorFetch c (s.advance t)) := rfl
theorem exec_descriptorReceived (t c : Nat) (s : State) :
    exec (.descriptorReceived t c) s = .next (descriptorReceived c (s.advance t)) := rfl
theorem exec_sourceAccept (t c : Nat) (s : State) : exec (.sourceAccept t c) s = .next (sourceAccept c (s.advance t)) := rfl
theorem exec_dmaBeat (t p : Nat) (s : State) : exec (.dmaBeat t p) s = .next (dmaBeat p (s.advance t)) := rfl

/-! ## Fetching descriptors (R325) -/

/-- Descriptors that one fetch of a channel asks for: those that it may hold and that are posted, up to the end of the ring and within
one block and one request of the link. -/
def State.fetchCount (s : State) (c : Nat) : Nat :=
  let x := s.chan c
  let a := s.descAddr c x.fetchAt
  min (min (8 - (x.fetched.length + x.jobs.length)) ((x.pi + 65536 - x.fetchAt) % 65536))
    (min (2 ^ s.drLog c - x.fetchAt % 2 ^ s.drLog c) (min ((512 - a % 512) / 32) (s.mrrs / 32)))

section
variable {s : State} {c : Nat}

theorem descriptorFetch_eq : descriptorFetch c s
    = if 32 ≤ c || (s.chan c).state != .running || (s.chan c).fetching || s.fetchCount c = 0
        || !(s.chKind c == 1 || s.chKind c == 2) || !s.dmaFetches then s
      else (s.putChan c { s.chan c with fetching := true }).addAux (.descs c (s.chan c).fetchAt (s.fetchCount c))
        false true (bit (s.chCfg c) 5) (s.descAddr c (s.chan c).fetchAt) (32 * s.fetchCount c) [] := rfl

theorem descriptorFetch_nothing (h : s.fetchCount c = 0) : descriptorFetch c s = s := by simp [descriptorFetch_eq, h]

theorem descriptorFetch_asks {x : Chan} (hx : x = s.chan c) (hc : c < 32) (hrun : x.state = .running) (hidle : x.fetching = false)
    (hkind : s.chKind c = 1 ∨ s.chKind c = 2) (hmay : s.dmaFetches = true) (hn : s.fetchCount c ≠ 0) :
    descriptorFetch c s = (s.putChan c { x with fetching := true }).addAux (.descs c x.fetchAt (s.fetchCount c))
      false true (bit (s.chCfg c) 5) (s.descAddr c x.fetchAt) (32 * s.fetchCount c) [] := by
  subst hx
  have hdata : (s.chKind c == 1 || s.chKind c == 2) = true := by simpa using hkind
  simp [descriptorFetch_eq, hrun, hidle, hdata, hmay, hn, Nat.not_le.mpr hc]

/-! ## The next fetched descriptor (R327) -/

theorem descriptorReceived_idle (h : (s.chan c).fetched = [] ∨ (s.chan c).state ≠ .running) : descriptorReceived c s = s := by
  cases hf : (s.chan c).fetched with
  | nil => simp [descriptorReceived, hf]
  | cons d rest => simp [descriptorReceived, hf, h.resolve_left (by simp [hf])]

theorem sourceAccept_idle (h : (s.chan c).fetched = [] ∨ (s.chan c).state ≠ .running) : sourceAccept c s = s := by
  cases hf : (s.chan c).fetched with
  | nil => simp [sourceAccept, hf]
  | cons d rest => simp [sourceAccept, hf, h.resolve_left (by simp [hf])]

/-- The jobs in progress let the next descriptor be checked: of an XFER channel every byte has been issued. -/
def State.chanReady (s : State) (c : Nat) : Bool := if s.chKind c = 2 then (s.chan c).sound else (s.chan c).clear

/-- Check 1 of R327 for the descriptor of a channel. -/
def State.descOk (s : State) (c : Nat) (r : List Byte) : Bool := if s.chKind c = 1 then xferOk r else s.sourceOk c r

section
variable {x : Chan} {d : Desc} {rest : List Desc} (hx : x = s.chan c) (hd : x.fetched = d :: rest) (hrun : x.state = .running)
  (hmay : s.dmaFetches = true) (hlen : d.raw.length = 32) (hready : s.chanReady c = true)
include hx hd hrun hmay hlen hready

theorem descriptorReceived_refuses (hok : s.descOk c d.raw = false) :
    descriptorReceived c s = s.addJob c { Job.empty x.nextJob d with refused := true } := by
  subst hx
  unfold State.chanReady at hready
  unfold State.descOk at hok
  simp [descriptorReceived, hd, hrun, hmay, hlen, hready, hok]

variable (hok : s.descOk c d.raw = true)
include hok

theorem descriptorReceived_halts {a : Nat} (hprot : s.protectedIn (s.descRange c d.raw).1 (s.descRange c d.raw).2 = some a) :
    descriptorReceived c s = State.settleChan (State.failJob (s.putChan c { x with
      fetched := rest, jobs := x.jobs ++ [Job.empty x.nextJob d], nextJob := x.nextJob + 1 }) c x.nextJob 0 0x20 a true) c := by
  subst hx
  unfold State.chanReady at hready
  unfold State.descOk at hok
  simp [descriptorReceived, hd, hrun, hmay, hlen, hready, hok, hprot, Job.empty]

variable (hfree : s.protectedIn (s.descRange c d.raw).1 (s.descRange c d.raw).2 = none)
include hfree

/-- An XFER descriptor starts, unless its fence holds it back. -/
theorem descriptorReceived_starts (hkind : s.chKind c = 1) (hfence : nbit (leAt d.raw 0 2) 2 = false ∨ x.jobs = []) :
    descriptorReceived c s = s.addJob c (xferJob x.nextJob d) := by
  subst hx
  have hclear : (s.chan c).clear = true := by simpa [State.chanReady, hkind] using hready
  have hxfer : xferOk d.raw = true := by simpa [State.descOk, hkind] using hok
  have hgoes : ¬ (nbit (leAt d.raw 0 2) 2 = true ∧ (s.chan c).jobs ≠ []) := by
    rintro ⟨hset, hjobs⟩
    exact hfence.elim (by simp [hset]) hjobs
  simp [descriptorReceived, hd, hrun, hmay, hlen, hkind, hclear, hxfer, hfree, hgoes]

/-- A SOURCE descriptor waits for its frame slot, a fenced XFER one for the end of those before it. -/
theorem descriptorReceived_waits (h : s.chKind c = 2 ∨ nbit (leAt d.raw 0 2) 2 = true ∧ x.jobs ≠ []) :
    descriptorReceived c s = s := by
  subst hx
  unfold State.chanReady at hready
  unfold State.descOk at hok
  simp [descriptorReceived, hd, hrun, hmay, hlen, hready, hok, hfree, h]

end

/-! ## The start of a host frame (R337 to R339) -/

/-- The frame slot that SOURCE_ACCEPT takes, when it is expected, and the state that has taken it: of an unscheduled source the next
number, now; of a scheduled one the slot of this instant, those before it counted as missed. -/
structure State.SlotTaken (s : State) (c src k expect : Nat) (w : State) : Prop where
  due : (s.src src).period = 0 ∨ 2 * s.expectOf src (s.slots src).nextSlot ≤ 2 * s.now + (s.src src).period
  slot : k = if (s.src src).period = 0 then (s.slots src).nextFree else (s.slotNow src).toNat
  instant : expect = if (s.src src).period = 0 then s.now else s.expectOf src k
  taken : w = if (s.src src).period = 0 then s.putSlots src { s.slots src with nextFree := k + 1 }
    else (State.bumpN (fun s => s.bumpChan c 2) (k - (s.slots src).nextSlot) s).putSlots src
      { s.slots src with nextSlot := k + 1, opened := some k }

theorem State.SlotTaken.unscheduled {src k expect : Nat} {w : State} (hperiod : (s.src src).period = 0)
    (hk : k = (s.slots src).nextFree) (hexpect : expect = s.now)
    (hw : w = s.putSlots src { s.slots src with nextFree := (s.slots src).nextFree + 1 }) : s.SlotTaken c src k expect w :=
  ⟨.inl hperiod, by rw [if_pos hperiod, hk], by rw [if_pos hperiod, hexpect], by rw [if_pos hperiod, hw, hk]⟩

theorem State.SlotTaken.scheduled {src k expect : Nat} {w : State} (hperiod : (s.src src).period ≠ 0)
    (hdue : 2 * s.expectOf src (s.slots src).nextSlot ≤ 2 * s.now + (s.src src).period) (hk : k = (s.slotNow src).toNat)
    (hexpect : expect = s.expectOf src k)
    (hw : w = (State.bumpN (fun s => s.bumpChan c 2) (k - (s.slots src).nextSlot) s).putSlots src
      { s.slots src with nextSlot := k + 1, opened := some k }) : s.SlotTaken c src k expect w :=
  ⟨.inr hdue, by rw [if_neg hperiod, hk], by rw [if_neg hperiod, hexpect], by rw [if_neg hperiod, hw]⟩

/-- The frame is opened on the state that has taken its slot; in place it closes at once, else its lines are copied. -/
theorem sourceAccept_accepts {x : Chan} {d : Desc} {rest : List Desc} {src k fr expect : Nat} {e : SrcEntry} {late : Bool}
    {w y v : State} {j : Job} (hx : x = s.chan c) (hd : x.fetched = d :: rest) (hrun : x.state = .running) (hkind : s.chKind c = 2)
    (hsound : x.sound = true) (hlen : 1 < d.raw.length) (hok : s.sourceOk c d.raw = true)
    (hfree : s.protectedIn (s.descRange c d.raw).1 (s.descRange c d.raw).2 = none) (haccept : s.accepting = true)
    (hsrc : src = leAt d.raw 4 2) (he : e = s.src src) (hslot : s.SlotTaken c src k expect w) (hfr : fr = k % 2 ^ 32)
    (hlate : late = (e.fsWindow != 0 && decide (expect + e.fsWindow * 1000 < s.now)))
    (hy : y = w.openFrame src fr true (e.plateAt (leAt d.raw 6 1)) expect (leAt d.raw 2 2) late ((s.now - expect) / 1000) 0)
    (hv : v = if late = true then y.bumpChan c 1 else y)
    (hj : j = { Job.empty x.nextJob d with irq := nbit (leAt d.raw 0 2) 0, frame := some (src, fr) }) :
    sourceAccept c s = if e.plateHost = true then (v.closeHost src fr (e.height * e.exposures) false).addJob c j
      else v.addJob c { j with
        unit := e.lineBytes
        copies := (List.range (e.height * e.exposures)).map (fun i =>
          (leAt d.raw 8 8 + (i % max 1 e.exposures * e.height + i / max 1 e.exposures) * leAt d.raw 0x10 4,
            e.lineAt (e.plateAt (leAt d.raw 6 1)) (i % max 1 e.exposures) (i / max 1 e.exposures))) } := by
  obtain ⟨hdue, rfl, rfl, rfl⟩ := hslot
  subst hx hsrc he hfr hlate hy hv hj
  unfold sourceAccept
  simp only [hd]
  exact if_neg (by simpa [hrun, hkind, hsound, hok, hfree, haccept, hlen] using or_iff_not_imp_left.mp hdue)

end

/-! ## The beat that a path is offered (R331, R332) -/

section
variable {s : State} {p : Nat}

/-- Where a beat stands: priority, run-dry time, channel number. -/
def State.beatKey (s : State) (e : Nat × Beat) : Nat ×ₗ Nat ×ₗ Nat := toLex (s.chPrio e.1, toLex (e.2.dry, e.1))

theorem State.beatBefore_iff (a b : Nat × Beat) : s.beatBefore a b = true ↔ s.beatKey a < s.beatKey b := by
  simp only [State.beatKey, Prod.Lex.toLex_lt_toLex, State.beatBefore]
  by_cases hprio : s.chPrio a.1 = s.chPrio b.1
  · by_cases hdry : a.2.dry = b.2.dry <;> simp [hprio, hdry]
  · simp [hprio]

theorem State.mem_readyBeats {c : Nat} {b : Beat} : (c, b) ∈ s.readyBeats p ↔ c < 32 ∧ s.chanBeat c p = some b := by
  simp [State.readyBeats]

/-- The beats among which R331 chooses: those in share, and when there are none, those with SURPLUS. -/
def State.beatPool (s : State) (p : Nat) : List (Nat × Beat) :=
  if (s.readyBeats p).filter (fun e => s.inShare e.1 p e.2.charge) = [] then (s.readyBeats p).filter (fun e => bit (s.chCfg e.1) 4)
  else (s.readyBeats p).filter (fun e => s.inShare e.1 p e.2.charge)

theorem State.chosenBeat_eq : s.chosenBeat p = (s.beatPool p).argmin s.beatKey := by
  have hstep : List.argAux (fun a b => s.beatKey a < s.beatKey b) = fun b e => match b with
      | some d => if s.beatBefore e d then some e else some d
      | none => some e := by
    funext b e
    cases b with
    | none => rfl
    | some d => simp [List.argAux, State.beatBefore_iff]
  rw [List.argmin, hstep]
  rfl

theorem State.beatPool_eq_nil : s.beatPool p = []
    ↔ ∀ e ∈ s.readyBeats p, s.inShare e.1 p e.2.charge = false ∧ bit (s.chCfg e.1) 4 = false := by
  unfold State.beatPool
  split
  case isTrue hnone =>
    simp only [List.filter_eq_nil_iff, Bool.not_eq_true] at hnone ⊢
    exact ⟨fun h e he => ⟨hnone e he, h e he⟩, fun h e he => (h e he).2⟩
  case isFalse hsome =>
    simp only [List.filter_eq_nil_iff, Bool.not_eq_true] at hsome ⊢
    exact ⟨fun h => absurd h hsome, fun h e he => (h e he).1⟩

theorem State.mem_beatPool {e : Nat × Beat} (h : e ∈ s.beatPool p) :
    e ∈ s.readyBeats p ∧ (s.inShare e.1 p e.2.charge = true ∨ bit (s.chCfg e.1) 4 = true)
      ∧ ∀ d ∈ s.readyBeats p, s.inShare d.1 p d.2.charge = true → s.inShare e.1 p e.2.charge = true := by
  unfold State.beatPool at h
  split at h
  case isTrue hnone =>
    obtain ⟨he, hsurplus⟩ := List.mem_filter.mp h
    exact ⟨he, .inr hsurplus, fun d hd hin => absurd hin (List.filter_eq_nil_iff.mp hnone d hd)⟩
  case isFalse =>
    obtain ⟨he, hin⟩ := List.mem_filter.mp h
    exact ⟨he, .inl hin, fun _ _ _ => hin⟩

/-- A ready beat on the same side of its share as one of the pool, and that may go there, is in the pool too. -/
theorem State.beatPool_mem {e d : Nat × Beat} (he : e ∈ s.beatPool p) (hd : d ∈ s.readyBeats p)
    (hside : s.inShare d.1 p d.2.charge = s.inShare e.1 p e.2.charge)
    (hmay : s.inShare d.1 p d.2.charge = true ∨ bit (s.chCfg d.1) 4 = true) : d ∈ s.beatPool p := by
  unfold State.beatPool at he ⊢
  split
  case isTrue hnone => exact List.mem_filter.mpr ⟨hd, hmay.resolve_left (List.filter_eq_nil_iff.mp hnone d hd)⟩
  case isFalse hsome =>
    rw [if_neg hsome] at he
    exact List.mem_filter.mpr ⟨hd, hside.trans (List.mem_filter.mp he).2⟩

theorem State.chosenBeat_none : s.chosenBeat p = none
    ↔ ∀ c b, c < 32 → s.chanBeat c p = some b → s.inShare c p b.charge = false ∧ bit (s.chCfg c) 4 = false := by
  rw [State.chosenBeat_eq, List.argmin_eq_none, State.beatPool_eq_nil]
  exact ⟨fun h c b hc hb => h (c, b) (State.mem_readyBeats.mpr ⟨hc, hb⟩), fun h e he =>
    have hready := State.mem_readyBeats.mp he
    h e.1 e.2 hready.1 hready.2⟩

/-- The chosen beat is one of the pool, and none of the pool stands before it. -/
theorem State.chosenBeat_spec {e : Nat × Beat} (h : s.chosenBeat p = some e) :
    e ∈ s.beatPool p ∧ ∀ d ∈ s.beatPool p, s.beatBefore d e = false := by
  rw [State.chosenBeat_eq] at h
  refine ⟨List.argmin_mem h, fun d hd => ?_⟩
  rw [Bool.eq_false_iff, Ne, State.beatBefore_iff]
  exact List.not_lt_of_mem_argmin hd h

theorem dmaBeat_offers {c : Nat} {b : Beat} (h : s.chosenBeat p = some (c, b)) :
    dmaBeat p s = { s with mems := { s.mems with offers := tput s.mems.offers p c } } := by
  simp [dmaBeat, h]

theorem dmaBeat_nothing (h : s.chosenBeat p = none) :
    dmaBeat p s = { s with mems := { s.mems with offers := tdel s.mems.offers p } } := by
  simp [dmaBeat, h]

end

/-- Settles O54: each command is the law of its case; the chosen beat is the least of the pool that the shares leave. -/
theorem dmaEngine : Obligations.DmaEngine := by
  unfold Obligations.DmaEngine
  refine ⟨?fetch, ?received, ?beat⟩
  case fetch =>
    rintro s u t c n a x rfl hx hc hrun hidle hkind hmay rfl hn
    obtain rfl : n = (s.advance t).fetchCount c := by rw [hn, hx]; rfl
    rw [exec_descriptorFetch]
    refine ⟨fun hsome => ?_, fun hnone => ?_⟩
    · rw [descriptorFetch_asks hx hc hrun hidle hkind hmay hsome]
    · rw [descriptorFetch_nothing hnone]
  case received =>
    rintro s u t c x rfl hx
    simp only [exec_descriptorReceived, exec_sourceAccept, Host.Outcome.next.injEq]
    refine ⟨fun hidle => ?idle, fun d rest ok range j hd hrun hmay hlen hcheck hrange hj => ?checked,
      fun d rest src e fr k expect late w y v j hd hrun hkind hsound hlen hok hfree haccept hsrc he htaken hfr hlate hy hv hj =>
        ?accepted⟩
    case idle =>
      rw [hx] at hidle
      exact ⟨descriptorReceived_idle hidle, sourceAccept_idle hidle⟩
    case checked =>
      obtain ⟨hready, rfl⟩ : (s.advance t).chanReady c = true ∧ ok = (s.advance t).descOk c d.raw := by
        rcases hcheck with ⟨hkind, hclear, hok⟩ | ⟨hkind, hsound, hok⟩
        · exact ⟨by simp [State.chanReady, hkind, ← hx, hclear], by simp [State.descOk, hkind, hok]⟩
        · exact ⟨by simp [State.chanReady, hkind, ← hx, hsound], by simp [State.descOk, hkind, hok]⟩
      subst hrange hj
      exact ⟨descriptorReceived_refuses hx hd hrun hmay hlen hready,
        fun a hok => descriptorReceived_halts hx hd hrun hmay hlen hready hok,
        fun hok => descriptorReceived_starts hx hd hrun hmay hlen hready hok,
        fun hok => descriptorReceived_waits hx hd hrun hmay hlen hready hok⟩
    case accepted =>
      have hslot : (s.advance t).SlotTaken c src k expect w := by
        subst he
        rcases htaken with ⟨hperiod, hk, hexpect, hw⟩ | ⟨hperiod, hdue, hk, hexpect, hw⟩
        · exact .unscheduled hperiod hk hexpect hw
        · exact .scheduled hperiod hdue hk hexpect hw
      rw [sourceAccept_accepts hx hd hrun hkind hsound hlen hok hfree haccept hsrc he hslot hfr hlate hy hv hj]
      exact ⟨fun hhost => if_pos hhost, fun hcopy => if_neg (by simp [hcopy])⟩
  case beat =>
    rintro s u t p rfl
    simp only [exec_dmaBeat, Host.Outcome.next.injEq]
    refine ⟨fun c b => dmaBeat_offers, dmaBeat_nothing, State.chosenBeat_none, fun c b h => ?_⟩
    obtain ⟨hpool, hbest⟩ := State.chosenBeat_spec h
    obtain ⟨hready, hmay, hshare⟩ := State.mem_beatPool hpool
    obtain ⟨hc, hb⟩ := State.mem_readyBeats.mp hready
    exact ⟨hc, hb, hmay, fun d x hd hx =>
      have hdx := State.mem_readyBeats.mpr ⟨hd, hx⟩
      ⟨hshare (d, x) hdx, fun hside hgoes => hbest (d, x) (State.beatPool_mem hpool hdx hside hgoes)⟩⟩

end Sys2Proof.Machine
end

section
/-! Every step and every command: time (spec/17 R443, R444), what all commands leave true (spec/95, spec/17 R426), and that all of
them complete but ARM with a broken clock limit (spec/15 R400). -/

namespace Sys2Proof.Machine

/-- A step runs the command at the front on the state with the queue's rest. -/
theorem step_front (s : State) (c : Instr) (r : List Instr) : step { s with pending := c :: r } = exec c { s with pending := r } :=
  rfl

theorem step_idle {s : State} (h : s.pending = []) : step s = .next s := by
  unfold step; rw [h]

/-- What a step can do: nothing on an empty queue, else what the front command does. -/
theorem step_cases {s s' : State} (h : step s = .next s') :
    s' = s ∨ ∃ c r, s.pending = c :: r ∧ exec c { s with pending := r } = .next s' := by
  unfold step at h
  split at h
  case h_1 => exact .inl (by simpa using h.symm)
  case h_2 c r hq => exact .inr ⟨c, r, hq, h⟩

/-- Settles O1. -/
theorem stepRunsFront : Obligations.StepRunsFront := step_front

/-! ## Fuses and outputs -/

theorem State.fusesKeep_refl (s : State) : s.fusesKeep s := fun _ _ _ h => h

theorem Evolves.fusesKeep {s s' : State} (h : Evolves s s') : s.fusesKeep s' := by
  intro w i hw hbit
  unfold State.fuse at hbit ⊢
  rw [if_pos hw] at hbit ⊢
  exact h.fuses w i hw hbit

/-- Settles O6: a step that runs a command evolves the state of the command's instant, whose fuses are those of before. -/
theorem fusesOneWay : Obligations.FusesOneWay := by
  unfold Obligations.FusesOneWay
  intro s s' h
  rcases step_cases h with rfl | ⟨c, r, -, hexec⟩
  · exact s'.fusesKeep_refl
  · have hkeep := (exec_ev hexec).fusesKeep
    intro w i hw hbit
    exact hkeep w i hw (by simpa [State.fuse] using hbit)

theorem Evolves.outputsGrow {s s' : State} (h : Evolves s s') : s.outputsGrow s' := by
  obtain ⟨os, hos⟩ := h.outbox
  exact ⟨os, hos.symm⟩

/-- Settles O7: every command evolves the state of its instant, and passing time touches neither queue, outputs nor free values. -/
theorem commandsLeaveQueue : Obligations.CommandsLeaveQueue := by
  unfold Obligations.CommandsLeaveQueue
  intro i s s' h
  have hev := exec_ev h
  refine ⟨?queue, ?instant, ?outputs, ?free⟩
  case queue => rw [hev.pending, State.advance_pending]
  case instant => rw [hev.now, State.advance_now]
  case outputs => simpa [State.outputsGrow] using hev.outputsGrow
  case free => simpa using hev.free

/-! ## Time -/

/-- Passing time moves the instant and the Chronograph alone. -/
theorem State.advance_eq (s : State) (t : Nat) : s.advance t = { s with now := (s.advance t).now, chr := (s.advance t).chr } := by
  unfold State.advance; split <;> rfl

/-- R444: the Chronograph stands still while the always-on domain is unpowered. -/
theorem State.advance_chr_unpowered {s : State} (h : s.aon.powered = false) (t : Nat) : (s.advance t).chr = s.chr := by
  unfold State.advance; split <;> simp [h]

/-- Settles O2. -/
theorem timePasses : Obligations.TimePasses := by
  unfold Obligations.TimePasses
  exact ⟨fun _ => step_idle, fun s t =>
    ⟨s.advance_now t, s.advance_eq t, State.advance_of_le, fun h => State.advance_chr_unpowered h t⟩⟩

/-! ## Completion -/

/-- R400: ARM stops only with the clock limits broken. -/
theorem imageArm_outcome (data : List Byte) (s : State) :
    (∃ s', imageArm data s = .next s') ∨ imageArm data s = .fault .clockLimitBroken := by
  unfold imageArm
  split
  · dsimp only
    split
    · exact .inl ⟨_, rfl⟩
    · split
      · exact .inl ⟨_, rfl⟩
      · exact .inr rfl
  · exact .inl ⟨_, rfl⟩

/-- Settles O8: the meaning of every constructor but ARM is a next state; ARM has its own lemma. -/
theorem commandsComplete : Obligations.CommandsComplete := by
  unfold Obligations.CommandsComplete
  refine ⟨fun i s hi => ?others, fun t data s => ?arm⟩
  case others =>
    cases i with
    | arm t data => exact absurd rfl (hi t data)
    | _ => exact ⟨_, rfl⟩
  case arm =>
    rw [exec_arm]
    exact imageArm_outcome data (s.advance t)

end Sys2Proof.Machine
end

section
/-! The PLLs and the clock monitor (spec/15_clocks.md R391 to R394, R397, R398; spec/02 R36, R40). -/

namespace Sys2Proof.Machine

/-! ## The commands -/

theorem exec_pllLocked (t n : Nat) (s : State) : exec (.pllLocked t n) s = .next (pllLocked n (s.advance t)) := rfl
theorem exec_pllUnlock (t n : Nat) (xo : Bool) (s : State) :
    exec (.pllUnlock t n xo) s = .next (pllUnlock n xo (s.advance t)) := rfl
theorem exec_monitorWindow (t c : Nat) (s : State) : exec (.monitorWindow t c) s = .next (monitorWindow c (s.advance t)) := rfl
theorem exec_rcWindowTimeout (t : Nat) (s : State) : exec (.rcWindowTimeout t) s = .next (rcTimeout (s.advance t)) := rfl

/-! ## What leaves a switchover alone -/

@[simp] theorem State.resumeTags_switching (s : State) (n : Nat) : (s.resumeTags n).clk.switching = s.clk.switching := by
  unfold State.resumeTags; split <;> rfl

@[simp] theorem State.senseFuses_clk (s : State) : s.senseFuses.clk = s.clk := by
  unfold State.senseFuses; split <;> rfl

@[simp] theorem State.pcieLocked_clk (s : State) : s.pcieLocked.clk = s.clk := by
  unfold State.pcieLocked
  dsimp only
  split <;> exact s.senseFuses_clk

@[simp] theorem State.enterMemInit_clk (s : State) : s.enterMemInit.clk = s.clk := by
  unfold State.enterMemInit
  dsimp only
  split <;> rfl

theorem State.endSwitch_none {s : State} (h : s.clk.switching = none) : s.endSwitch = s := by
  simp [State.endSwitch, h]

/-! ## PLL_LOCKED and PLL_UNLOCK (R397, R398) -/

section
variable {s v w : State} {n : Nat}

theorem pllLocked_barred (h : s.pllMayLock n = false) : pllLocked n s = s := by
  simp [pllLocked, h]

/-- Outside a switchover: the island is let go, and start-up may go on to step 8. -/
theorem pllLocked_due (hmay : s.pllMayLock n = true) (hsw : s.clk.switching = none)
    (hv : v = { s with clk := { s.clk with
      locked := nset s.clk.locked n, lost := nclr s.clk.lost n, held := nclr s.clk.held n } })
    (hw : w = if n = 2 then (v.resumeTags n).pcieLocked else v.resumeTags n) :
    pllLocked n s = if w.boot.phase == .clocks && w.step8 then w.enterMemInit else w := by
  have hwsw : w.clk.switching = none := by
    rw [hw, hv]
    split <;> simp [hsw]
  have hend : State.endSwitch (if w.boot.phase == .clocks && w.step8 then w.enterMemInit else w)
      = if w.boot.phase == .clocks && w.step8 then w.enterMemInit else w := by
    refine State.endSwitch_none ?_
    split <;> simp [hwsw]
  unfold pllLocked
  rw [if_neg (by simp [hmay])]
  simp only [hsw, Option.isSome_none, Bool.false_eq_true, if_false] at hv ⊢
  rw [← hv, ← hw, hend]

theorem pllUnlock_barred (h : s.held = true ∨ 8 ≤ n ∨ nbit s.clk.locked n = false) (xo : Bool) : pllUnlock n xo s = s := by
  unfold pllUnlock
  exact if_pos (by simpa [or_assoc] using h)

theorem pllUnlock_due (hup : s.held = false) (hn : n < 8) (hlocked : nbit s.clk.locked n = true)
    (hv : v = { s with clk := { s.clk with
      locked := nclr s.clk.locked n, lost := nset s.clk.lost n, held := nset s.clk.held n
      heldSince := tput s.clk.heldSince n s.now } })
    (hw : w = if n = 2 then v.linkDown else v) (xo : Bool) :
    pllUnlock n xo s = if xo || s.clk.switching.isSome then w
      else (w.markAll 0x40).raise { cls := 0x02, action := 2, unit := 0x7000 + n, detail := 0 } := by
  unfold pllUnlock
  rw [if_neg (by simp [hup, hn, hlocked])]
  simp only [← hv, ← hw]
  rfl

end

/-- Settles O15: a PLL that may lock or is locked goes through the change of its bits, then what its island and start-up do. -/
theorem pllLock : Obligations.PllLock := by
  unfold Obligations.PllLock
  rintro s u v t n xo rfl
  rw [exec_pllLocked, exec_pllUnlock]
  refine ⟨fun hmay hsw hv => ?locked, fun h => ?barred, fun hup hn hlocked hv => ?lost, fun h => ?notLocked⟩
  case locked => rw [pllLocked_due hmay hsw hv rfl]
  case barred => rw [pllLocked_barred h]
  case lost => rw [pllUnlock_due hup hn hlocked hv rfl]
  case notLocked => rw [pllUnlock_barred h]

/-! ## The clock monitor (R391 to R394) -/

section
variable {s v : State} {c : Nat}

theorem monitorWindow_off (h : s.monRuns = false) (c : Nat) : monitorWindow c s = s := by simp [monitorWindow, h]

theorem rcTimeout_off (h : s.monRuns = false) : rcTimeout s = s := by simp [rcTimeout, h]

/-- A window: its verdict, and the switchover on the first bad one. -/
theorem monitorWindow_runs (hruns : s.monRuns = true) (hc : c < 512)
    (hv : v = { s with clk := { s.clk with
      xoOk := decide (fld (s.rget 0x1_0010) 0 9 ≤ c) && decide (c ≤ fld (s.rget 0x1_0010) 16 9), monLast := c, monAny := true
      monMin := if s.clk.monAny then min s.clk.monMin c else c, monMax := if s.clk.monAny then max s.clk.monMax c else c } }) :
    monitorWindow c s = if v.clk.xoOk || s.clk.onRc then v else v.switchover c := by
  have hmod : c % 512 = c := Nat.mod_eq_of_lt hc
  unfold monitorWindow
  rw [if_neg (by simp [hruns])]
  simp only [hmod, ← hv]
  rw [hv]

/-- R392: before any switchover, a window that does not close is a fault of the RC oscillator. -/
theorem rcTimeout_due (hruns : s.monRuns = true) (hrc : s.clk.onRc = false) :
    rcTimeout s = (State.markAll { s with clk := { s.clk with rcFault := true } } 0x40).raise
      { cls := 0x01, action := 2, unit := 0x1008, detail := 2 ^ 16 } := by
  unfold rcTimeout
  rw [if_neg (by simp [hruns, hrc])]
  rfl

end

/-- Settles O16: the monitor runs or not, and the verdict of a window decides. -/
theorem clockMonitor : Obligations.ClockMonitor := by
  unfold Obligations.ClockMonitor
  rintro s u v t c rfl hc hv
  rw [exec_monitorWindow, exec_rcWindowTimeout]
  refine ⟨fun hruns hok => ?good, fun hruns hbad hrc => ?bad, fun hruns hrc => ?rc, fun hoff => ?off⟩
  case good => rw [monitorWindow_runs hruns hc hv, if_pos (by simpa using hok)]
  case bad =>
    rw [monitorWindow_runs hruns hc hv, if_neg (by simpa [hbad] using hrc), State.switchover, Nat.mod_eq_of_lt hc]
    rfl
  case rc => rw [rcTimeout_due hruns hrc]
  case off => rw [monitorWindow_off hoff, rcTimeout_off hoff]; exact ⟨rfl, rfl⟩

end Sys2Proof.Machine
end

section
/-! Supplies, the always-on domain, and the resets by rails and temperature (spec/16_power_modes_and_supplies.md R411, R415 to R417,
R424; spec/17 R445). -/

namespace Sys2Proof.Machine

/-! ## The commands -/

theorem exec_avsPeriod (t : Nat) (s : State) : exec (.avsPeriod t) s = .next (avsPeriod (s.advance t)) := rfl
theorem exec_avsResponse (t : Nat) (g : Bool) (mv amp : Nat) (s : State) :
    exec (.avsResponse t g mv amp) s = .next (avsResponse g mv amp (s.advance t)) := rfl
theorem exec_railDipStart (t n mv : Nat) (s : State) :
    exec (.railDipStart t n mv) s = .next (railDipStart n mv (s.advance t)) := rfl
theorem exec_railDipEnd (t n mv : Nat) (s : State) : exec (.railDipEnd t n mv) s = .next (railDipEnd n mv (s.advance t)) := rfl
theorem exec_supplyReset (t n : Nat) (s : State) : exec (.supplyReset t n) s = .next (supplyReset n (s.advance t)) := rfl
theorem exec_supplyResetRelease (t b x m : Nat) (s : State) :
    exec (.supplyResetRelease t b x m) s = .next (supplyResetRelease b x m (s.advance t)) := rfl
theorem exec_thermalSample (t : Nat) (ts : List Int) (s : State) :
    exec (.thermalSample t ts) s = .next (thermalSample ts (s.advance t)) := rfl
theorem exec_powerOn (t : Nat) (s : State) : exec (.powerOn t) s = .next (powerOn (s.advance t)) := rfl
theorem exec_alwaysOnPowerLoss (t : Nat) (s : State) : exec (.alwaysOnPowerLoss t) s = .next (alwaysOnLoss (s.advance t)) := rfl
theorem exec_vbatSwitchover (t : Nat) (s : State) : exec (.vbatSwitchover t) s = .next (vbatSwitch (s.advance t)) := rfl
theorem exec_vdd1v8Restored (t : Nat) (s : State) : exec (.vdd1v8Restored t) s = .next (vddRestored (s.advance t)) := rfl
theorem exec_vbatLow (t mv : Nat) (s : State) : exec (.vbatLow t mv) s = .next (vbatLow mv (s.advance t)) := rfl
theorem exec_xt32Stopped (t : Nat) (s : State) : exec (.xt32Stopped t) s = .next (xt32Stopped (s.advance t)) := rfl

section
variable {s : State} {n : Nat}

/-! ## AVSBus (R411) -/

theorem avsPeriod_sensed (hup : s.held = false) (h : s.boot.sensed = true) :
    avsPeriod s = s.outs [.avsTarget s.pwr.target, .avsRead] := by
  simp [avsPeriod, State.live, hup, h]

theorem avsPeriod_unsensed (h : s.boot.sensed = false) : avsPeriod s = s := by simp [avsPeriod, h]

theorem avsResponse_unsensed (h : s.boot.sensed = false) (g : Bool) (mv amp : Nat) : avsResponse g mv amp s = s := by
  simp [avsResponse, h]

theorem avsResponse_good (hup : s.held = false) (h : s.boot.sensed = true) (mv amp : Nat) :
    avsResponse true mv amp s = { s with pwr := { s.pwr with
      avsFails := 0, avsMv := mv % 1024, avsAmp := amp % 1024, avsErr := false, inControl := true } } := by
  simp [avsResponse, State.live, hup, h]

/-- The third failure in a row ends control. -/
theorem avsResponse_bad (hup : s.held = false) (h : s.boot.sensed = true) (mv amp : Nat) :
    avsResponse false mv amp s = { s with pwr := { s.pwr with
      avsFails := s.pwr.avsFails + 1, avsErr := s.pwr.avsErr || decide (3 ≤ s.pwr.avsFails + 1)
      inControl := s.pwr.inControl && decide (s.pwr.avsFails + 1 < 3) } } := by
  simp [avsResponse, State.live, hup, h]

/-! ## Dips of a rail (R415) -/

theorem railDipStart_unmonitored (h : 8 ≤ n) (mv : Nat) : railDipStart n mv s = s := by simp [railDipStart, h]

theorem railDipEnd_unmonitored (h : 8 ≤ n) (mv : Nat) : railDipEnd n mv s = s := by simp [railDipEnd, h]

theorem railDipStart_due (hup : s.held = false) (hn : n < 8) (hdip : nbit s.pwr.dips n = false) (hmon : s.monOff n = false)
    (mv : Nat) :
    railDipStart n mv s = (State.markAll { s with pwr := { s.pwr with
      monMin := tput s.pwr.monMin n (min mv (tget 0xFFF s.pwr.monMin n)), dips := nset s.pwr.dips n
      monEvent := nset s.pwr.monEvent n } } 0x8).raise
      { cls := 0x03, action := 2, unit := 0x6000 + n, detail := s.railWarn n % 4096 + (mv % 4096) * 2 ^ 16 } := by
  unfold railDipStart
  rw [if_neg (by simp [hup, hn, hdip, hmon])]
  rfl

theorem railDipEnd_due (hup : s.held = false) (hn : n < 8) (hdip : nbit s.pwr.dips n = true) (mv : Nat) :
    railDipEnd n mv s = { s.markAll 0x8 with pwr := { (s.markAll 0x8).pwr with
      monMin := tput (s.markAll 0x8).pwr.monMin n (min mv (tget 0xFFF (s.markAll 0x8).pwr.monMin n))
      dips := nclr (s.markAll 0x8).pwr.dips n } } := by
  unfold railDipEnd
  rw [if_neg (by simp [hup, hn, hdip])]
  rfl

end

/-- Settles O17, command by command. -/
theorem supplies : Obligations.Supplies := by
  unfold Obligations.Supplies
  rintro s u t n mv amp rfl hup
  simp only [exec_avsPeriod, exec_avsResponse, exec_railDipStart, exec_railDipEnd]
  refine ⟨fun h => ?period, fun h => ?good, fun h => ?bad, fun h => ?unsensed, fun hn hdip hmon => ?dip, fun hn hdip => ?dipEnd,
    fun hn => ?unmonitored⟩
  case period => rw [avsPeriod_sensed hup h]; rfl
  case good => rw [avsResponse_good hup h]
  case bad => rw [avsResponse_bad hup h]
  case unsensed =>
    rw [avsPeriod_unsensed h]
    exact ⟨rfl, fun g => by rw [avsResponse_unsensed h]⟩
  case dip => rw [railDipStart_due hup hn hdip hmon]
  case dipEnd => rw [railDipEnd_due hup hn hdip]
  case unmonitored => rw [railDipStart_unmonitored hn, railDipEnd_unmonitored hn]; exact ⟨rfl, rfl⟩

/-! ## Supply resets (R416) -/

theorem State.noteCause_powered {s : State} (h : s.aon.powered = true) (m : Nat) :
    s.noteCause m = { s with aon := { s.aon with causes := s.aon.causes ||| m } } := by
  simp [State.noteCause, h]

section
variable {s : State} {n : Nat}

theorem supplyReset_unmonitored (h : 8 ≤ n ∨ s.monOff n = true) : supplyReset n s = s := by
  unfold supplyReset
  exact if_pos (by simpa using h)

/-- The first supply reset since the last release: cause, rail and time are latched, and the device goes into reset. -/
theorem supplyReset_first (hn : n < 8) (hmon : s.monOff n = false) (hup : s.held = false) (hseen : nbit s.aon.causes 3 = false)
    (hpow : s.aon.powered = true) :
    supplyReset n s = State.enterReset { s with railHold := true, aon := { s.aon with
      causes := s.aon.causes ||| (8 + n * 16), supply := some (n, s.ns) } } := by
  unfold supplyReset
  rw [if_neg (by simp [hn, hmon])]
  simp [hseen, hup, hpow, State.noteCause_powered hpow]

/-- R377: the record of a latched supply reset takes a free value as its detail. -/
theorem State.supplyRecord_latched {rail time : Nat} (h : s.aon.supply = some (rail, time)) :
    s.supplyRecord = State.raiseAt { s with aon := { s.aon with supply := none }, freeCount := s.freeCount + 1 }
      { cls := 0x04, action := 2, unit := 0x6000 + rail, detail := Config.freeNat s.freeCount % 2 ^ 64 } time := by
  simp [State.supplyRecord, h, State.freeN]

/-- A release with a supply reset latched: its record is the first. -/
theorem State.release_latched {rail time : Nat} (h : s.aon.supply = some (rail, time)) (straps : Straps) :
    s.release straps = State.raiseAt { s with
      held := false, usTicks := 0, freeCount := s.freeCount + 1, boot := Boot.init straps s.now
      aon := { s.aon with cause := s.aon.causes, causes := 0, supply := none }, sec := { s.sec with debugEn := s.debugAtReset }
      pwr := { s.pwr with therm := [] }, flt := { s.flt with scrubAt := s.now } }
      { cls := 0x04, action := 2, unit := 0x6000 + rail, detail := Config.freeNat s.freeCount % 2 ^ 64 } time := by
  unfold State.release
  exact State.supplyRecord_latched h

theorem supplyResetRelease_notDue (h : s.held = false ∨ s.railHold = false ∨ s.coolEnough = false) (b x m : Nat) :
    supplyResetRelease b x m s = s := by
  unfold supplyResetRelease
  exact if_pos (by simpa [or_assoc] using h)

theorem supplyResetRelease_due {v : State} (hheld : s.held = true) (hrail : s.railHold = true) (hcool : s.coolEnough = true)
    (hv : v = { s with railHold := false }) (hmay : v.mayRelease = true) (b x m : Nat) :
    supplyResetRelease b x m s = v.release { bootSrc := b % 4, xtalDly := x % 4, mgmtAddr := m % 8 } := by
  unfold supplyResetRelease
  rw [if_neg (by simp [hheld, hrail, hcool])]
  simp only [← hv]
  rw [if_pos hmay]

end

end Sys2Proof.Machine

namespace Sys2Proof
open Machine

/-- Settles O10: the reset latches its cause before every block but the always-on domain resets, and the release raises the record
on the state that has left reset. -/
theorem supplyReset : Obligations.SupplyReset := by
  unfold Obligations.SupplyReset
  refine ⟨?first, ?unmonitored, ?release, ?notDue⟩
  case first =>
    rintro s u t n rfl hn hmon hup hseen hpow
    refine ⟨_, exec_supplyReset t n s, ?_⟩
    rw [supplyReset_first hn hmon hup hseen hpow, State.enterReset_up (by exact hup)]
    exact ⟨rfl, rfl, rfl, fun _ => rfl, fun _ => rfl, rfl, rfl, rfl, rfl, rfl⟩
  case unmonitored =>
    rintro s u t n rfl h
    rw [exec_supplyReset, supplyReset_unmonitored h]
  case release =>
    rintro s u t b x m rail time rfl hheld hrail hcool hresetN hpwrgood hjtag hpow hvbat hsup
    have hmay : State.mayRelease { s.advance t with railHold := false } = true :=
      State.mayRelease_iff.2 ⟨hheld, hresetN, hpwrgood, rfl, hjtag, hpow, hvbat⟩
    rw [exec_supplyResetRelease, supplyResetRelease_due hheld hrail hcool rfl hmay,
      State.release_latched (rail := rail) (time := time) (by exact hsup)]
    rfl
  case notDue =>
    rintro s u t b x m rfl h
    rw [exec_supplyResetRelease, supplyResetRelease_notDue h]

end Sys2Proof

namespace Sys2Proof.Machine

/-! ## Temperature (R417) -/

section
variable {s : State} {ts : List Int}

theorem thermalSample_held (h : s.held = true) :
    thermalSample ts s = { s with pwr := { s.pwr with
      therm := ((List.range 9).zip ts).foldl (fun m p => tput m p.1 p.2) s.pwr.therm } } := by
  simp [thermalSample, h]

theorem thermalSample_cool (hup : s.held = false) (h : hotDie (ts.take 9) = none) : thermalSample ts s = s.thermNote ts := by
  simp [thermalSample, hup, h]

theorem thermalSample_hot {d : Nat} {v : State} (hup : s.held = false) (h : hotDie (ts.take 9) = some d)
    (hv : v = State.enterReset { s.noteCause (2 ^ 8 + d * 2 ^ 9) with railHold := true }) :
    thermalSample ts s = { v with pwr := { v.pwr with
      therm := ((List.range 9).zip ts).foldl (fun m p => tput m p.1 p.2) [] } } := by
  simp [thermalSample, hup, h, hv]

end

end Sys2Proof.Machine

namespace Sys2Proof
open Machine

/-- Settles O11: the hottest die decides between a note and a reset. -/
theorem thermalSample : Obligations.ThermalSample := by
  unfold Obligations.ThermalSample
  rintro s u t ts rfl
  rw [exec_thermalSample]
  refine ⟨fun hup hcool => ?cool, fun d hup hpow hhot => ?hot, fun hheld => ?held⟩
  case cool => rw [thermalSample_cool hup hcool]; rfl
  case hot =>
    refine ⟨_, rfl, ?_⟩
    rw [thermalSample_hot hup hhot rfl, State.noteCause_powered hpow, State.enterReset_up (by exact hup)]
    exact ⟨rfl, rfl, rfl, fun _ => rfl, fun _ => rfl, rfl⟩
  case held => rw [thermalSample_held hheld]

end Sys2Proof

namespace Sys2Proof.Machine

/-! ## The always-on domain (R424, 17 R445) -/

section
variable {s : State}

theorem powerOn_unpowered (h : s.aon.powered = false) :
    powerOn s = { s with chr := Chrono.init, mgmt := Mgmt.init, aon := { s.aon with
      powered := true, onVbat := false, causes := 1, cause := 0, supply := none } } := by
  simp [powerOn, h]

theorem powerOn_powered (h : s.aon.powered = true) : powerOn s = s := by simp [powerOn, h]

theorem alwaysOnLoss_onVbat (hp : s.aon.powered = true) (hb : s.aon.onVbat = true) :
    alwaysOnLoss s = { s with chr := Chrono.init, aon := { s.aon with powered := false, causes := 0, cause := 0, supply := none } } := by
  simp [alwaysOnLoss, hp, hb]

theorem alwaysOnLoss_else (h : ¬ (s.aon.powered = true ∧ s.aon.onVbat = true)) : alwaysOnLoss s = s := by
  unfold alwaysOnLoss
  exact if_neg (by simpa using h)

theorem vddRestored_onVbat (hp : s.aon.powered = true) (hb : s.aon.onVbat = true) :
    vddRestored s = { s with aon := { s.aon with onVbat := false } } := by
  simp [vddRestored, hp, hb]

theorem vddRestored_else (h : ¬ (s.aon.powered = true ∧ s.aon.onVbat = true)) : vddRestored s = s := by
  unfold vddRestored
  exact if_neg (by simpa using h)

theorem vbatSwitch_onVdd (hp : s.aon.powered = true) (hb : s.aon.onVbat = false) :
    vbatSwitch s = { s with aon := { s.aon with onVbat := true }, mgmt := Mgmt.init } := by
  simp [vbatSwitch, hp, hb]

theorem vbatLow_up (h : s.held = false) (mv : Nat) :
    vbatLow mv s = { s with pwr := { s.pwr with
      monMin := tput s.pwr.monMin 8 (min mv (tget 0xFFF s.pwr.monMin 8)), monEvent := nset s.pwr.monEvent 8, vbatLow := true } } := by
  simp [vbatLow, h, Pwr.noteMin]

theorem vbatLow_held (h : s.held = true) (mv : Nat) : vbatLow mv s = s := by simp [vbatLow, h]

theorem xt32Stopped_powered (h : s.aon.powered = true) :
    xt32Stopped s = { s with chr := { s.chr with xtStopped := true, xtRuns := false, valid := false } } := by
  simp [xt32Stopped, h]

end

/-- Settles O12, command by command. -/
theorem alwaysOn : Obligations.AlwaysOn := by
  unfold Obligations.AlwaysOn
  rintro s u t mv rfl
  rw [exec_powerOn, exec_alwaysOnPowerLoss, exec_vdd1v8Restored, exec_vbatSwitchover, exec_vbatLow, exec_xt32Stopped]
  refine ⟨fun h => ?on, fun h => ?onAgain, fun hp hb => ?loss, fun h => ?none, fun hp hb => ?restored, fun hp hb => ?switch,
    fun h => ?low, fun h => ?lowHeld, fun h => ?stopped⟩
  case on => rw [powerOn_unpowered h]
  case onAgain => rw [powerOn_powered h]
  case loss => rw [alwaysOnLoss_onVbat hp hb]
  case none => rw [alwaysOnLoss_else h, vddRestored_else h]; exact ⟨rfl, rfl⟩
  case restored => rw [vddRestored_onVbat hp hb]
  case switch => rw [vbatSwitch_onVdd hp hb]
  case low => rw [vbatLow_up h]
  case lowHeld => rw [vbatLow_held h]
  case stopped => rw [xt32Stopped_powered h]

end Sys2Proof.Machine
end

section
/-! Power states: the requests, and the steps of an entry and of a wake (spec/16_power_modes_and_supplies.md R418 to R423; spec/17
R442). -/

namespace Sys2Proof.Machine

/-! ## The commands -/

theorem exec_powerEntryStepDone (t : Nat) (s : State) :
    exec (.powerEntryStepDone t) s = .next (powerEntryStepDone (s.advance t)) := rfl
theorem exec_powerEntryDrainTimeout (t : Nat) (s : State) :
    exec (.powerEntryDrainTimeout t) s = .next (powerEntryDrainTimeout (s.advance t)) := rfl
theorem exec_wakeStepDone (t : Nat) (s : State) : exec (.wakeStepDone t) s = .next (wakeStepDone (s.advance t)) := rfl

/-! ## The requests (R418, R420, R421) -/

theorem State.powerRequest_ignored {s : State} (h : s.boot.phase ≠ .running ∨ s.pwr.trans ≠ none) (k : Nat) :
    s.powerRequest k = s := by
  unfold State.powerRequest
  refine if_pos ?_
  rcases h with h | h
  · simp [State.running, h]
  · simp [Option.isSome_iff_ne_none.2 h]

section
variable {s : State} (hup : s.held = false) (hrun : s.boot.phase = .running) (hidle : s.pwr.trans = none)
include hup hrun hidle

theorem State.powerRequest_run_sleep (h : s.pwr.state = .run) :
    s.powerRequest 1 = { s with eph := { s.eph with cutoff := some s.now }, pwr := { s.pwr with
      trans := some { target := .sleep, wake := false, step := 2, since := s.now } } } := by
  simp [State.powerRequest, State.live, State.running, State.putTrans, hup, hrun, hidle, h]

theorem State.powerRequest_run_deep (h : s.pwr.state = .run) :
    s.powerRequest 2 = if s.retainEn then { s with eph := { s.eph with cutoff := some s.now }, pwr := { s.pwr with
      trans := some { target := .deep, wake := false, step := 2, since := s.now } } } else s := by
  simp [State.powerRequest, State.live, State.running, State.putTrans, hup, hrun, hidle, h]

theorem State.powerRequest_sleep_run (h : s.pwr.state = .sleep) :
    s.powerRequest 0 = { s with pwr := { s.pwr with
      trans := some { target := .run, wake := true, step := 3, since := s.now } } } := by
  simp [State.powerRequest, State.live, State.running, State.putTrans, hup, hrun, hidle, h]

theorem State.powerRequest_sleep_deep (h : s.pwr.state = .sleep) :
    s.powerRequest 2 = if s.retainEn then { s with pwr := { s.pwr with
      trans := some { target := .deep, wake := false, step := 4, since := s.now } } } else s := by
  simp [State.powerRequest, State.live, State.running, State.putTrans, hup, hrun, hidle, h]

theorem State.powerRequest_deep_run (h : s.pwr.state = .deep) :
    s.powerRequest 0 = { s with pwr := { s.pwr with
      trans := some { target := .run, wake := true, step := 2, since := s.now } } } := by
  simp [State.powerRequest, State.live, State.running, State.putTrans, hup, hrun, hidle, h]

omit hup hrun hidle in
/-- A request for the present state, and SLEEP from DEEP_SLEEP, start nothing. -/
theorem State.powerRequest_vain {k : Nat} (h : s.pwr.state = .run ∧ k = 0 ∨ s.pwr.state = .deep ∧ (k = 1 ∨ k = 2)) :
    s.powerRequest k = s := by
  rcases h with ⟨h, rfl⟩ | ⟨h, rfl | rfl⟩ <;> simp [State.powerRequest, h]

end

/-- Settles O31: a request is accepted by the power state, or ignored. -/
theorem powerRequests : Obligations.PowerRequests := by
  unfold Obligations.PowerRequests
  refine fun s hup => ⟨fun hrun hidle => ?accepted, State.powerRequest_ignored⟩
  case accepted =>
    exact ⟨State.powerRequest_run_sleep hup hrun hidle, State.powerRequest_run_deep hup hrun hidle,
      fun h => State.powerRequest_vain (.inl ⟨h, rfl⟩), State.powerRequest_sleep_run hup hrun hidle,
      State.powerRequest_sleep_deep hup hrun hidle, State.powerRequest_deep_run hup hrun hidle,
      fun h => ⟨State.powerRequest_vain (.inr ⟨h, .inl rfl⟩),
        State.powerRequest_vain (.inr ⟨h, .inr rfl⟩)⟩⟩

/-! ## The steps of an entry (R418 to R420) -/

theorem powerEntryStepDone_idle {s : State} (h : s.pwr.trans = none) : powerEntryStepDone s = s := by
  simp [powerEntryStepDone, h]

theorem powerEntryDrainTimeout_idle {s : State} (h : s.pwr.trans = none) : powerEntryDrainTimeout s = s := by
  simp [powerEntryDrainTimeout, h]

section
variable {s : State} {x : Transition} (hup : s.held = false) (htrans : s.pwr.trans = some x) (hentry : x.wake = false)
include hup htrans hentry

theorem powerEntryStepDone_frames (h : x.step = 2) :
    powerEntryStepDone s = if s.flights.isEmpty then s.stopTx.putTrans (some { x with step := 3 }) else s := by
  simp [powerEntryStepDone, State.live, State.atStep, hup, htrans, hentry, h]

theorem powerEntryStepDone_ports (h : x.step = 3) :
    powerEntryStepDone s = if s.dmaRests && s.tx.all (fun e => e.2.sending.isNone) then
      s.putTrans (some { x with step := if x.target = .deep then 4 else 6 }) else s := by
  simp [powerEntryStepDone, State.live, State.atStep, hup, htrans, hentry, h]

theorem powerEntryStepDone_save (h : x.step = 4) :
    powerEntryStepDone s = if s.pwr.state = .sleep ∧ s.saveReady = false then s
      else s.saveCores.putTrans (some { x with step := 5 }) := by
  simp [powerEntryStepDone, State.live, State.atStep, hup, htrans, hentry, h]

theorem powerEntryStepDone_gate (h : x.step = 5) :
    powerEntryStepDone s = (State.updTarget { s with pwr := { s.pwr with dies := 0, saved := true } }).putTrans
      (some { x with step := 6 }) := by
  simp [powerEntryStepDone, State.live, State.atStep, hup, htrans, hentry, h]

theorem powerEntryStepDone_last (h : x.step = 6) : powerEntryStepDone s = s.endTrans x.target := by
  simp [powerEntryStepDone, State.live, hup, htrans, hentry, h]

theorem powerEntryDrainTimeout_due (h : x.step = 2) (hdue : x.since + 100_000_000 ≤ s.now) :
    powerEntryDrainTimeout s = (s.stopFrames false).cancelStreams := by
  have hlate : ¬ s.now < x.since + 100_000_000 := by omega
  simp [powerEntryDrainTimeout, State.live, hup, htrans, hentry, h, hlate]

omit hup hentry in
theorem powerEntryDrainTimeout_early (h : x.step ≠ 2 ∨ s.now < x.since + 100_000_000) : powerEntryDrainTimeout s = s := by
  rcases h with h | h <;> simp [powerEntryDrainTimeout, htrans, h]

end

/-- Settles O25, step by step of Table 16.5. -/
theorem powerEntry : Obligations.PowerEntry := by
  unfold Obligations.PowerEntry
  rintro s u t x rfl hup htrans hentry
  rw [exec_powerEntryStepDone, exec_powerEntryDrainTimeout]
  refine ⟨fun h hnone => ?frames, fun h hsome => ?framesLeft, fun h hdma htx => ?ports, fun h hbusy => ?portsBusy, fun h => ?save,
    fun h => ?gate, fun h => ?last, fun h hdue => ?timeout, fun h => ?early⟩
  case frames => rw [powerEntryStepDone_frames hup htrans hentry h, if_pos (List.isEmpty_iff.2 hnone)]
  case framesLeft => rw [powerEntryStepDone_frames hup htrans hentry h, if_neg (mt List.isEmpty_iff.1 hsome)]
  case ports =>
    rw [powerEntryStepDone_ports hup htrans hentry h, if_pos (by rw [hdma, htx]; rfl)]
    rfl
  case portsBusy => rw [powerEntryStepDone_ports hup htrans hentry h, if_neg (by rw [hbusy]; decide)]
  case save => rw [powerEntryStepDone_save hup htrans hentry h]
  case gate => rw [powerEntryStepDone_gate hup htrans hentry h]
  case last => rw [powerEntryStepDone_last hup htrans hentry h, State.endTrans]
  case timeout => rw [powerEntryDrainTimeout_due hup htrans hentry h hdue]
  case early => rw [powerEntryDrainTimeout_early htrans h]

/-! ## The steps of a wake (R421 to R423) -/

theorem wakeStepDone_idle {s : State} (h : s.pwr.trans = none) : wakeStepDone s = s := by simp [wakeStepDone, h]

section
variable {s : State} {x : Transition} (hup : s.held = false) (htrans : s.pwr.trans = some x) (hwake : x.wake = true)
include hup htrans hwake

theorem wakeStepDone_power (h : x.step = 2) :
    wakeStepDone s = (State.updTarget { s with pwr := { s.pwr with
      dies := if s.boot.profile = 2 then 2 ^ fld (s.rget 0x20) 2 2 else 15, saved := false } }).putTrans
      (some { x with step := 3 }) := by
  simp [wakeStepDone, State.live, State.atStep, hup, htrans, hwake, h]

theorem wakeStepDone_plls (h : x.step = 3) :
    wakeStepDone s = if s.pllsReady then s.putTrans (some { x with step := 4 }) else s := by
  simp [wakeStepDone, State.live, State.atStep, hup, htrans, hwake, h]

theorem wakeStepDone_stacks (h : x.step = 4) :
    wakeStepDone s = State.putTrans { s with mems := { s.mems with selfRefresh := 0 } }
      (some { x with step := if s.boot.retention.isSome then 5 else 6 }) := by
  simp [wakeStepDone, State.live, State.atStep, hup, htrans, hwake, h]

theorem wakeStepDone_restore (h : x.step = 5) :
    wakeStepDone s = s.restoreCores.putTrans (some { x with step := 6 }) := by
  simp [wakeStepDone, State.live, State.atStep, hup, htrans, hwake, h]

theorem wakeStepDone_last {v : State} (h : x.step = 6) (hv : v = s.endTrans .run) :
    wakeStepDone s = State.wakeAll (State.skipSlots (State.txArm { v with eph := { v.eph with cutoff := none } })) := by
  simp [wakeStepDone, State.live, hup, htrans, hwake, h, hv]

end

/-- Settles O26, step by step of Table 16.6. -/
theorem wake : Obligations.Wake := by
  unfold Obligations.Wake
  rintro s u t x rfl hup
  rw [exec_wakeStepDone, exec_powerEntryStepDone, exec_powerEntryDrainTimeout]
  refine ⟨fun htrans hwake => ⟨fun h => ?power, fun h => ?plls, fun h => ?hbm, fun h => ?restore, fun v hv h => ?last⟩,
    fun hidle => ?idle⟩
  case power => rw [wakeStepDone_power hup htrans hwake h]
  case plls => rw [wakeStepDone_plls hup htrans hwake h]; rfl
  case hbm => rw [wakeStepDone_stacks hup htrans hwake h]; rfl
  case restore => rw [wakeStepDone_restore hup htrans hwake h]
  case last => rw [wakeStepDone_last hup htrans hwake h (hv.trans rfl)]
  case idle =>
    rw [wakeStepDone_idle hidle, powerEntryStepDone_idle hidle, powerEntryDrainTimeout_idle hidle]
    exact ⟨rfl, rfl, rfl⟩

end Sys2Proof.Machine
end

section
/-! Fault records, the scrubber, the handshake watchdog and the fuses' programming (spec/14_faults_and_recovery.md R369, R373, R375,
R377, R378; spec/17 R426, R429). -/

namespace Sys2Proof.Machine

/-! ## Records (14 R375, R377) -/

/-- R375: the entry of the fault log that a report becomes. -/
def Report.record (r : Report) (seq time : Nat) : FaultRec :=
  { seq, cls := r.cls, action := r.action, unit := r.unit, time, detail := r.detail % 2 ^ 64, frame := r.frame
    flags := b2n (classNmi r.cls r.action) + 2 * b2n r.frame.isSome + 4 * b2n r.replayed + 8 * b2n r.hasCtx + 256 * (r.scope % 4) }

/-- The instants of the limits are remembered beside the log. -/
theorem State.noteRecord_log (s : State) (r : Report) :
    (s.noteRecord r).flt.seq = s.flt.seq ∧ (s.noteRecord r).flt.log = s.flt.log := by
  unfold State.noteRecord
  dsimp only
  cases r.origin <;> (repeat' split) <;> exact ⟨rfl, rfl⟩

/-- Writing a record advances SEQ and stores the entry of that number; pins, vectors and interrupts leave the log alone. -/
theorem State.writeRecord_log (s : State) (r : Report) (t : Nat) {q : Nat} (hq : q = (s.flt.seq + 1) % 2 ^ 32) :
    (s.writeRecord r t).flt.seq = q ∧ (s.writeRecord r t).flt.log = tput s.flt.log (q % 256) (r.record q t) := by
  obtain ⟨hseq, hlog⟩ := State.noteRecord_log
    { s with flt := { s.flt with seq := q, log := tput s.flt.log (q % 256) (r.record q t) } } r
  unfold Report.record at hseq hlog ⊢
  unfold State.writeRecord
  dsimp only
  rw [← hq]
  split
  · simp only [State.raiseIbi_flt, State.raiseVec_flt]
    exact ⟨hseq, hlog⟩
  · split
    · simp only [State.raiseVec_flt, State.setEvt_flt]
      exact ⟨hseq, hlog⟩
    · exact ⟨hseq, hlog⟩

theorem State.raiseAt_written {s : State} {r : Report} {b : Bool} (h : s.suppressed r = (false, b)) (t : Nat) :
    s.raiseAt r t = (s.bumpFault r.cls).writeRecord r t := by
  cases b <;> simp [State.raiseAt, h]

/-- R377: a report that a limit holds back only counts. -/
theorem State.raiseAt_heldBack {s : State} {r : Report} {b : Bool} (h : s.suppressed r = (true, b)) (t : Nat) :
    (s.raiseAt r t).flt = s.flt := by
  cases b <;> simp [State.raiseAt, h]

theorem State.suppressed_of_fenced {s : State} {r : Report} (h : s.unitFenced r = true) : s.suppressed r = (true, true) := by
  simp [State.suppressed, h]

/-- Settles O55: raising is counting and then writing the record or not, and both only report. -/
theorem recordWritten : Obligations.RecordWritten := by
  unfold Obligations.RecordWritten
  rintro s u r t q rfl hq
  refine ⟨fun b h => ?written, fun b h => ?heldBack, State.suppressed_of_fenced, State.raiseAt_reports (.refl s) r t⟩
  case written =>
    obtain ⟨hseq, hlog⟩ := State.writeRecord_log (s.bumpFault r.cls) r t (q := q) (by rw [State.bumpFault_flt, hq])
    rw [State.raiseAt_written h, hlog, State.bumpFault_flt]
    refine ⟨hseq, ?_, fun k hk => ?_⟩
    · rw [tfind_tput, if_pos rfl]; rfl
    · rw [tfind_tput, if_neg hk]
  case heldBack => rw [State.raiseAt_heldBack h]; exact ⟨rfl, rfl⟩

/-! ## The commands -/

theorem exec_scrubRead (t a : Nat) (x : ReadStatus) (s : State) :
    exec (.scrubRead t a x) s = .next (scrubRead a x (s.advance t)) := rfl
theorem exec_handshakeTimeout (t d p k : Nat) (s : State) :
    exec (.handshakeTimeout t d p k) s = .next (handshakeTimeout d p k (s.advance t)) := rfl
theorem exec_fuseProgramDone (t : Nat) (w : Word) (s : State) :
    exec (.fuseProgramDone t w) s = .next (fuseDone w (s.advance t)) := rfl

/-! ## The scrubber (14 R369) -/

/-- The scrubber runs, and a word at an address is one that it reads. -/
structure State.Scrubs (s : State) (a : Nat) : Prop where
  live : s.live = true
  zeroed : s.boot.memDone = true
  enabled : bit (s.rget 0x6_0010) 16 = true
  word : scrubbed a = true

section
variable {s : State} {a : Nat}

theorem scrubRead_off (h : s.live = false ∨ s.boot.memDone = false ∨ bit (s.rget 0x6_0010) 16 = false ∨ scrubbed a = false)
    (x : ReadStatus) : scrubRead a x s = s := by
  rcases h with h | h | h | h <;> simp [scrubRead, h]

variable (h : s.Scrubs a)
include h

theorem scrubRead_ok (hlast : a ≠ scrubLast) (hgood : s.poison.contains a = false) : scrubRead a .ok s = s := by
  simp only [scrubRead, h.live, h.zeroed, h.enabled, h.word, hgood, hlast]
  rfl

theorem scrubRead_ce (hlast : a ≠ scrubLast) (hgood : s.poison.contains a = false) : scrubRead a .ce s = s.raiseEcc 0x10 a := by
  simp only [scrubRead, h.live, h.zeroed, h.enabled, h.word, hgood, hlast]
  rfl

theorem scrubRead_ue (hlast : a ≠ scrubLast) (hgood : s.poison.contains a = false) :
    scrubRead a .ue s = State.raiseEcc { s with poison := a :: s.poison } 0x12 a := by
  simp only [scrubRead, h.live, h.zeroed, h.enabled, h.word, hgood, hlast]
  rfl

/-- A word that is marked already reads as an error whatever is upset. -/
theorem scrubRead_marked (hlast : a ≠ scrubLast) (hbad : s.poison.contains a = true) (x : ReadStatus) :
    scrubRead a x s = s.raiseEcc 0x12 a := by
  simp only [scrubRead, h.live, h.zeroed, h.enabled, h.word, hbad, hlast, Bool.true_or]
  rfl

/-- The last word ends a pass. -/
theorem scrubRead_last (hlast : a = scrubLast) (hgood : s.poison.contains a = false) :
    scrubRead a .ok s = { s with flt := { s.flt with
      scrubPasses := (s.flt.scrubPasses + 1) % 2 ^ 64, scrubAt := s.now } } := by
  simp only [scrubRead, h.live, h.zeroed, h.enabled, h.word, hgood, if_pos hlast]
  rfl

end

/-! ## The handshake watchdog (14 R373) -/

section
variable {s : State} {d p k : Nat}

theorem handshakeTimeout_off (h : s.timebaseRuns = false ∨ bit (s.rget 0x6_0014) 16 = false ∨ 8 ≤ d ∨ (4 ≤ d ∧ k ≤ 1) ∨ 36 ≤ p ∨ 6 ≤ k) :
    handshakeTimeout d p k s = s := by
  unfold handshakeTimeout
  refine if_pos ?_
  rcases h with h | h | h
  · simp [h]
  · simp [h]
  · simp only [hsDieOk, Bool.not_eq_true', Bool.and_eq_false_iff, Bool.or_eq_false_iff, decide_eq_false_iff_not]
    omega

variable (hruns : s.timebaseRuns = true) (hen : bit (s.rget 0x6_0014) 16 = true) (hp : p < 36)
include hruns hen hp

theorem handshakeTimeout_core (hd : d < 4) (hk : k ≤ 1) :
    handshakeTimeout d p k s
      = s.fenceCore (36 * d + p) { cls := 0x22, action := 3, unit := 36 * d + p, detail := d + p * 16 + k * 4096 } := by
  have hk6 : k < 6 := by omega
  simp [handshakeTimeout, hsDieOk, hruns, hen, hp, hd, hk, hk6]

theorem handshakeTimeout_die (hd : d < 8) (hk : 2 ≤ k) (hk6 : k < 6) :
    handshakeTimeout d p k s
      = s.fenceDie (d % 4) { cls := 0x22, action := 3, unit := 0x1000 + d, detail := d + p * 16 + k * 4096 } := by
  have hcore : ¬ k ≤ 1 := by omega
  simp [handshakeTimeout, hsDieOk, hruns, hen, hp, hd, hk, hk6, hcore]

end

/-! ## Fuses (17 R426, R429) -/

theorem State.fuse_burn (s : State) (r : FuseReq) {w : Nat} (hw : w < 128) :
    (s.burn r).fuse w = if w = r.word then s.fuse w ||| BitVec.ofNat 32 r.value else s.fuse w := by
  simp only [State.fuse, State.burn, if_pos hw, tget_tput]
  split
  · subst w
    simp [wd, BitVec.ofNat_or, hw]
  · rfl

theorem fuseDone_idle {s : State} (h : s.sec.busy = none) (w : Word) : fuseDone w s = s := by simp [fuseDone, h]

section
variable {s v : State} {r : FuseReq} {w : Word} (hbusy : s.sec.busy = some r) (hv : v = s.burn { r with value := r.value &&& w.toNat })
include hbusy hv

theorem fuseDone_took (h : r.value &&& w.toNat = r.value) :
    fuseDone w s = State.fuseWork { v with sec := { v.sec with
      busy := none, result := 0, debugEn := v.sec.debugEn && !v.debugDisable } } := by
  simp only [fuseDone, hbusy, ← hv]
  simp [h]

/-- R429: a bit that did not take ends a counter advance. -/
theorem fuseDone_failed (h : (s.fuse r.word).toNat ||| (r.value &&& w.toNat) ≠ (s.fuse r.word).toNat ||| r.value) :
    fuseDone w s = State.fuseWork { v with sec := { v.sec with
      busy := none, result := 2, svnGoal := none, debugEn := v.sec.debugEn && !v.debugDisable } } := by
  have hshort : r.value &&& w.toNat ≠ r.value := fun he => h (by rw [he])
  simp only [fuseDone, hbusy, ← hv]
  simp [h, hshort]

end

/-- Settles O56, command by command. -/
theorem repairWork : Obligations.RepairWork := by
  unfold Obligations.RepairWork
  refine ⟨?scrub, ?handshake, ?fuse, fun u r w => u.fuse_burn r⟩
  case scrub =>
    rintro s u t a rfl
    simp only [exec_scrubRead]
    refine ⟨fun hl hm hen hword => ?on, fun h x => by rw [scrubRead_off h]⟩
    have hs : (s.advance t).Scrubs a := ⟨hl, hm, hen, hword⟩
    exact ⟨fun hlast hgood => ⟨by rw [scrubRead_ok hs hlast hgood], by rw [scrubRead_ce hs hlast hgood],
        by rw [scrubRead_ue hs hlast hgood]⟩,
      fun hlast hbad x => by rw [scrubRead_marked hs hlast hbad],
      fun hlast hgood => by rw [scrubRead_last hs hlast hgood]⟩
  case handshake =>
    rintro s u t d p k rfl
    rw [exec_handshakeTimeout]
    exact ⟨fun hruns hen hp => ⟨fun hd hk => by rw [handshakeTimeout_core hruns hen hp hd hk],
        fun hd hk hk6 => by rw [handshakeTimeout_die hruns hen hp hd hk hk6]⟩,
      fun h => by rw [handshakeTimeout_off h]⟩
  case fuse =>
    rintro s u v t w r rfl
    rw [exec_fuseProgramDone]
    exact ⟨fun hidle => by rw [fuseDone_idle hidle], fun hbusy hv =>
      ⟨fun h => by rw [fuseDone_took hbusy hv h], fun h => by rw [fuseDone_failed hbusy hv h]⟩⟩

end Sys2Proof.Machine
end

section
/-! The JTAG port (spec/17_security_identity_and_time.md R435 to R437). -/

namespace Sys2Proof.Machine

/-! ## The commands -/

theorem exec_bypass (t : Nat) (s : State) : exec (.bypass t) s = .next (jtagBypass (s.advance t)) := rfl
theorem exec_idcode (t : Nat) (s : State) : exec (.idcode t) s = .next (jtagIdcode (s.advance t)) := rfl
theorem exec_samplePreload (t : Nat) (s : State) : exec (.samplePreload t) s = .next ((s.advance t).loadInstr .samplePreload) := rfl
theorem exec_extest (t : Nat) (s : State) : exec (.extest t) s = .next ((s.advance t).loadInstr .extest) := rfl
theorem exec_clamp (t : Nat) (s : State) : exec (.clamp t) s = .next ((s.advance t).loadInstr .clamp) := rfl
theorem exec_highz (t : Nat) (s : State) : exec (.highz t) s = .next ((s.advance t).loadInstr .highz) := rfl
theorem exec_testLogicReset (t : Nat) (s : State) : exec (.testLogicReset t) s = .next ((s.advance t).loadInstr .idcode) := rfl
theorem exec_dbgAccess (t : Nat) (op : DbgOp) (s : State) : exec (.dbgAccess t op) s = .next (dbgAccess op (s.advance t)) := rfl

/-! ## Instructions (R435) -/

section
variable {s : State} {j : JtagInstr}

theorem State.loadInstr_down (h : s.jtagUp = false) (j : JtagInstr) : s.loadInstr j = s := by simp [State.loadInstr, h]

theorem jtagBypass_down (h : s.jtagUp = false) : jtagBypass s = s := by simp [jtagBypass, h]

theorem jtagIdcode_down (h : s.jtagUp = false) : jtagIdcode s = s := by simp [jtagIdcode, h]

variable (hup : s.jtagUp = true)
include hup

/-- No reset is held, before or after. -/
theorem State.loadInstr_plain (hs : jtagHolds s.jtag = false) (hj : jtagHolds j = false) : s.loadInstr j = { s with jtag := j } := by
  simp [State.loadInstr, hup, hs, hj]

/-- The first instruction that holds reset acts like RESET_N. -/
theorem State.loadInstr_holds (hs : jtagHolds s.jtag = false) (hj : jtagHolds j = true) :
    s.loadInstr j = State.enterReset { s.noteCause 2 with jtag := j } := by
  simp [State.loadInstr, hup, hs, hj]

/-- Another instruction behind one that held reset: release, by the straps last latched. -/
theorem State.loadInstr_releases (hs : jtagHolds s.jtag = true) (hj : jtagHolds j = false)
    (hmay : State.mayRelease { s with jtag := j } = true) :
    s.loadInstr j = State.release { s with jtag := j } s.boot.straps := by
  simp [State.loadInstr, hup, hs, hj, hmay]

/-- R435: an instruction that holds reset puts a running device into it. -/
theorem State.loadInstr_resets (hs : jtagHolds s.jtag = false) (hj : jtagHolds j = true) (hlive : s.held = false)
    (hpow : s.aon.powered = true) :
    (s.loadInstr j).held = true ∧ (s.loadInstr j).jtag = j ∧ (s.loadInstr j).chr = s.chr ∧ (s.loadInstr j).mgmt = s.mgmt
      ∧ (s.loadInstr j).aon = { s.aon with causes := s.aon.causes ||| 2 } ∧ (∀ a, (s.loadInstr j).rget a = resetVal a)
      ∧ (∀ a, memByte (s.loadInstr j).mem a = 0) := by
  rw [State.loadInstr_holds hup hs hj, State.noteCause_powered hpow, State.enterReset_up (by exact hlive)]
  exact ⟨rfl, rfl, rfl, rfl, rfl, fun _ => rfl, fun _ => rfl⟩

end

/-! ## Debug access (R437) -/

theorem State.bar2Get_mem {s : State} {p a n : Nat} (hn : n ≠ 0) (hs : s.stagingOpen = false) (hm : s.bar2Mem a n = true)
    (st : ReadStatus) : s.bar2Get p a n st = s.addAux (.bar2 p a) false false false a n [] := by
  simp [State.bar2Get, hn, hs, hm]

theorem State.bar2Put_mem {s : State} {p a : Nat} {bs : List Byte} (hn : bs ≠ []) (hs : s.stagingOpen = false)
    (hm : s.bar2Mem a bs.length = true) : s.bar2Put p a bs = s.addAux (.bar2 p a) true false false a bs.length bs := by
  simp [State.bar2Put, hn, hs, hm]

/-- A read that reaches core-local space of a powered die, or memory by its BAR2 offset, becomes an access. -/
theorem State.dbgRead_access {s : State} {a n : Nat} (hn : n ≠ 0)
    (h : (coreLocal a n && s.past14) = true ∧ s.diePowered (dieOf ((a - localAt 0) / 0x20_0000)) = true
      ∨ (coreLocal a n && s.past14) = false ∧ s.stagingOpen = false ∧ s.bar2Mem a n = true) :
    s.dbgRead a n = s.addAux (.bar2 2 a) false false false a n [] := by
  unfold State.dbgRead
  rcases h with ⟨hlocal, hdie⟩ | ⟨hlocal, hs, hm⟩
  · rw [if_pos hlocal, if_pos (by simp [hdie, hn])]
  · rw [if_neg (by simp [hlocal]), State.bar2Get_mem hn hs hm]

section
variable {s v w : State} (hup : s.jtagUp = true) (hs : jtagHolds s.jtag = false) (hv : v = { s with jtag := .dbgAccess })
include hup hs hv

theorem dbgAccess_closed (h : v.pathUp .dbg = false) (op : DbgOp) : dbgAccess op s = v.out (.tdo 1 0) := by
  simp [dbgAccess, hup, State.loadInstr_plain hup hs (j := .dbgAccess) rfl, ← hv, h]

/-- With debug open the first access is noted before any is served. -/
theorem dbgAccess_open (h : v.pathUp .dbg = true)
    (hw : w = { v with sec := { v.sec with debugUsed := v.sec.debugUsed || !v.sec.debugSeen, debugSeen := true } }) (op : DbgOp) :
    dbgAccess op s = match op with
      | .readReg a => w.readOut .dbg a
      | .writeReg a x => w.writeIn .dbg a x
      | .readMem a n => w.dbgRead a n
      | .writeMem a bs => w.bar2Put 2 a bs := by
  cases op <;> simp [dbgAccess, hup, State.loadInstr_plain hup hs (j := .dbgAccess) rfl, ← hv, h, ← hw]

end

/-- Settles O57: whether JTAG is up, whether a reset is held, and whether debug is open decide every clause. -/
theorem jtag : Obligations.Jtag := by
  unfold Obligations.Jtag
  rintro s u t rfl
  refine ⟨fun hup hs => ⟨?bypass, ?idcode, ?sample, ?logicReset, fun hlive hpow cmd j hmem => ?holds, fun v op hv h => ?closed,
    fun v w hv hw h => ?opened⟩, fun hup hs hmay => ?releases, fun hdown cmd hmem => ?down⟩
  case bypass => rw [exec_bypass, jtagBypass, if_pos hup, State.loadInstr_plain hup hs rfl]
  case idcode => rw [exec_idcode, jtagIdcode, if_pos hup, State.loadInstr_plain hup hs rfl]
  case sample => rw [exec_samplePreload, State.loadInstr_plain hup hs rfl]
  case logicReset => rw [exec_testLogicReset, State.loadInstr_plain hup hs rfl]
  case holds =>
    simp only [List.mem_cons, Prod.mk.injEq, List.not_mem_nil, or_false] at hmem
    rcases hmem with ⟨rfl, rfl⟩ | ⟨rfl, rfl⟩ | ⟨rfl, rfl⟩
    · exact ⟨_, exec_extest t s, State.loadInstr_resets hup hs rfl hlive hpow⟩
    · exact ⟨_, exec_clamp t s, State.loadInstr_resets hup hs rfl hlive hpow⟩
    · exact ⟨_, exec_highz t s, State.loadInstr_resets hup hs rfl hlive hpow⟩
  case closed => rw [exec_dbgAccess, dbgAccess_closed hup hs hv h]
  case opened =>
    simp only [exec_dbgAccess, dbgAccess_open hup hs hv h hw, true_and, implies_true]
    exact ⟨fun a n hn hmem => by rw [State.dbgRead_access hn hmem],
      fun a bs hn hstage hmem => by rw [State.bar2Put_mem hn hstage hmem]⟩
  case releases => rw [exec_testLogicReset, State.loadInstr_releases hup hs rfl hmay]
  case down =>
    simp only [List.mem_cons, List.not_mem_nil, or_false] at hmem
    rcases hmem with rfl | rfl | rfl | rfl | rfl | rfl | rfl
    · rw [exec_bypass, jtagBypass_down hdown]
    · rw [exec_idcode, jtagIdcode_down hdown]
    · rw [exec_samplePreload, State.loadInstr_down hdown]
    · rw [exec_extest, State.loadInstr_down hdown]
    · rw [exec_clamp, State.loadInstr_down hdown]
    · rw [exec_highz, State.loadInstr_down hdown]
    · rw [exec_testLogicReset, State.loadInstr_down hdown]

end Sys2Proof.Machine
end

section
/-! The MGMT port: transactions, interrupts and common command codes (spec/17_security_identity_and_time.md R439, R440, R442). -/

namespace Sys2Proof.Machine

/-! ## The commands -/

theorem exec_mgmtWrite (t : Nat) (d : List Byte) (s : State) : exec (.mgmtWrite t d) s = .next (mgmtWrite d (s.advance t)) := rfl
theorem exec_mgmtRead (t n : Nat) (s : State) : exec (.mgmtRead t n) s = .next (mgmtRead n (s.advance t)) := rfl
theorem exec_mgmtIbiRetry (t : Nat) (s : State) : exec (.mgmtIbiRetry t) s = .next (mgmtIbiRetry (s.advance t)) := rfl
theorem exec_enec (t n : Nat) (s : State) : exec (.enec t n) s = .next (mgmtEvents true n (s.advance t)) := rfl
theorem exec_disec (t n : Nat) (s : State) : exec (.disec t n) s = .next (mgmtEvents false n (s.advance t)) := rfl
theorem exec_rstdaa (t : Nat) (s : State) : exec (.rstdaa t) s = .next ((s.advance t).ccc (fun s => s.setDyn none)) := rfl
theorem exec_entdaa (t a : Nat) (s : State) : exec (.entdaa t a) s = .next (mgmtEntdaa a (s.advance t)) := rfl
theorem exec_setdasa (t n a : Nat) (s : State) : exec (.setdasa t n a) s = .next (mgmtSetdasa n a (s.advance t)) := rfl
theorem exec_setnewda (t a : Nat) (s : State) :
    exec (.setnewda t a) s = .next ((s.advance t).direct (fun s => s.setDyn (some (a % 128)))) := rfl
theorem exec_getpid (t : Nat) (s : State) :
    exec (.getpid t) s = .next ((s.advance t).direct (fun s => s.out (.mgmtData (msbFirst 6 s.pid)))) := rfl
theorem exec_getbcr (t : Nat) (s : State) :
    exec (.getbcr t) s = .next ((s.advance t).direct (fun s => s.out (.mgmtData (msbFirst 1 bcr)))) := rfl
theorem exec_getdcr (t : Nat) (s : State) :
    exec (.getdcr t) s = .next ((s.advance t).direct (fun s => s.out (.mgmtData (msbFirst 1 dcr)))) := rfl
theorem exec_getstatus (t : Nat) (s : State) : exec (.getstatus t) s = .next (mgmtGetstatus (s.advance t)) := rfl
theorem exec_setmwl (t n : Nat) (s : State) : exec (.setmwl t n) s = .next (mgmtSetLen true n (s.advance t)) := rfl
theorem exec_getmwl (t : Nat) (s : State) :
    exec (.getmwl t) s = .next ((s.advance t).direct (fun s => s.out (.mgmtData (msbFirst 2 s.mgmt.mwl)))) := rfl
theorem exec_setmrl (t n : Nat) (s : State) : exec (.setmrl t n) s = .next (mgmtSetLen false n (s.advance t)) := rfl
theorem exec_getmrl (t : Nat) (s : State) :
    exec (.getmrl t) s = .next ((s.advance t).direct (fun s => s.out (.mgmtData (msbFirst 2 s.mgmt.mrl ++ msbFirst 1 1)))) := rfl
theorem exec_unsupportedCcc (t : Nat) (d : Bool) (s : State) :
    exec (.unsupportedCcc t d) s = .next ((s.advance t).ccc (fun s => if d then s.out .mgmtNack else s)) := rfl

/-! ## Transactions (R440) -/

section
variable {s v : State} (hup : s.pathUp .mgmt = true) (hv : v = s.mgmtUse)
include hup hv

/-- Whole words at an aligned address. -/
theorem mgmtWrite_words {d : List Byte} (hlen : 4 ≤ d.length) (ha : leAt d 0 4 % 4 = 0) (hw : d.length % 4 = 0) :
    mgmtWrite d s = State.mgmtWords { v with mgmt := { v.mgmt with addr := some (leAt d 0 4), addrAt := v.now } }
      ((min d.length s.mgmt.mwl - 4) / 4) (leAt d 0 4) (d.drop 4) := by
  simp [mgmtWrite, hup, ← hv, hlen, ha, hw]

theorem mgmtWrite_ignored {d : List Byte} (h : d.length < 4 ∨ leAt d 0 4 % 4 ≠ 0) :
    mgmtWrite d s = { v with mgmt := { v.mgmt with err := true } } := by
  unfold mgmtWrite
  rw [if_neg (by simp [hup]), if_pos (by simpa using h), ← hv]
  rfl

/-- A read in I2C, or 4 µs after the write: the bytes of the registers. -/
theorem mgmtRead_words (n : Nat) (h : s.mgmt.dynAddr = none ∨ v.mgmt.addrAt + 4000 ≤ v.now) :
    mgmtRead n s = (v.mgmtGather (ceilDiv (min n s.mgmt.mrl) 4) (v.mgmt.addr.getD 0)).2.out (.mgmtData
      ((v.mgmtGather (ceilDiv (min n s.mgmt.mrl) 4) (v.mgmt.addr.getD 0)).1.take (min n s.mgmt.mrl))) := by
  have hi3c : v.mgmt.i3c = s.mgmt.dynAddr.isSome := by rw [hv]; rfl
  have hlate : (v.mgmt.i3c && v.mgmt.addr.isSome && decide (v.now < v.mgmt.addrAt + 4000)) = false := by
    rcases h with h | h
    · simp [hi3c, h]
    · simp [h]
  unfold mgmtRead
  rw [if_neg (by simp [hup])]
  simp only [← hv, hlate]
  rfl

/-- In I3C, less than 4 µs after the write: bytes 0xFF, and ERR. -/
theorem mgmtRead_early (n : Nat) {a : Nat} (hdyn : s.mgmt.dynAddr ≠ none) (ha : s.mgmt.addr = some a)
    (h : v.now < v.mgmt.addrAt + 4000) :
    mgmtRead n s = State.out { v with mgmt := { v.mgmt with err := true } }
      (.mgmtData (List.replicate (min n s.mgmt.mrl) 0xFF)) := by
  have hi3c : v.mgmt.i3c = true := by rw [hv]; exact Option.isSome_iff_ne_none.2 hdyn
  have haddr : v.mgmt.addr = some a := by rw [hv]; exact ha
  unfold mgmtRead
  rw [if_neg (by simp [hup])]
  simp only [← hv]
  rw [if_pos (by simp [hi3c, haddr, h])]
  rfl

end

/-! ## Interrupts (R442) -/

section
variable {s : State}

theorem mgmtIbiRetry_due {c : Nat} (hup : s.pathUp .mgmt = true) (hev : s.mgmt.events = true) (hibi : s.mgmt.ibi = some c)
    (hdue : s.mgmt.ibiAt + 1_000_000 ≤ s.now) : mgmtIbiRetry s = s.putIbi c := by
  simp [mgmtIbiRetry, hup, hev, hibi, hdue]

theorem mgmtIbiRetry_notDue (h : s.mgmt.events = false ∨ s.mgmt.ibi = none ∨ s.now < s.mgmt.ibiAt + 1_000_000) :
    mgmtIbiRetry s = s := by
  unfold mgmtIbiRetry
  rcases h with h | h | h
  · simp [h]
  · simp [h]
  · have hearly : ¬ s.mgmt.ibiAt + 1_000_000 ≤ s.now := by omega
    simp only [hearly, if_false]
    split
    · rfl
    · split <;> rfl

end

/-! ## Common command codes (R439) -/

section
variable {s v : State} (hup : s.pathUp .mgmt = true) (hv : v = { s with mgmt := { s.mgmt with i3c := true } })
include hup hv

theorem State.ccc_up (f : State → State) : s.ccc f = f v := by simp [State.ccc, hup, hv]

/-- A direct code without a dynamic address is not acknowledged. -/
theorem State.direct_nack (h : s.mgmt.dynAddr = none) (f : State → State) : s.direct f = v.out .mgmtNack := by
  simp [State.direct, State.ccc_up hup hv, hv, h]

theorem State.direct_served (h : s.mgmt.dynAddr ≠ none) (f : State → State) : s.direct f = f v := by
  have hsome : v.mgmt.dynAddr.isSome = true := by rw [hv]; exact Option.isSome_iff_ne_none.2 h
  simp [State.direct, State.ccc_up hup hv, hsome]

theorem mgmtEvents_set (on : Bool) {n : Nat} (h : nbit n 0 = true) :
    mgmtEvents on n s = { v with mgmt := { v.mgmt with events := on } } := by
  simp [mgmtEvents, State.ccc_up hup hv, h]

theorem mgmtEvents_other (on : Bool) {n : Nat} (h : nbit n 0 = false) : mgmtEvents on n s = v := by
  simp [mgmtEvents, State.ccc_up hup hv, h]

theorem mgmtEntdaa_takes (h : s.mgmt.dynAddr = none) (a : Nat) :
    mgmtEntdaa a s = (v.out (.mgmtData (msbFirst 6 v.pid ++ [0x06, 0x00]))).setDyn (some (a % 128)) := by
  have hbytes : msbFirst 6 v.pid ++ msbFirst 1 bcr ++ msbFirst 1 dcr = msbFirst 6 v.pid ++ [0x06, 0x00] := by
    rw [List.append_assoc]; rfl
  have hnone : v.mgmt.dynAddr = none := by rw [hv]; exact h
  rw [mgmtEntdaa, State.ccc_up hup hv, hbytes, hnone]
  rfl

theorem mgmtEntdaa_assigned (h : s.mgmt.dynAddr ≠ none) (a : Nat) : mgmtEntdaa a s = v := by
  have hsome : v.mgmt.dynAddr.isSome = true := by rw [hv]; exact Option.isSome_iff_ne_none.2 h
  simp [mgmtEntdaa, State.ccc_up hup hv, hsome]

/-- SETDASA gives an address to a port without one, at its static address. -/
theorem mgmtSetdasa_eq (n a : Nat) :
    mgmtSetdasa n a s = if s.mgmt.dynAddr = none ∧ n = 0x48 + s.boot.straps.mgmtAddr then v.setDyn (some (a % 128)) else v := by
  simp [mgmtSetdasa, State.ccc_up hup hv, hv, State.staticAddr]

theorem mgmtGetstatus_served (h : s.mgmt.dynAddr ≠ none) :
    mgmtGetstatus s = State.out { v with freeCount := s.freeCount + 1 }
      (.mgmtData (msbFirst 2 (Config.freeWord s.freeCount).toNat)) := by
  rw [mgmtGetstatus, State.direct_served hup hv h, hv]
  rfl

theorem mgmtSetLen_served (h : s.mgmt.dynAddr ≠ none) (w : Bool) (n : Nat) :
    mgmtSetLen w n s
      = { v with mgmt := if w then { v.mgmt with mwl := min n 4096 } else { v.mgmt with mrl := min n 4096 } } := by
  rw [mgmtSetLen, State.direct_served hup hv h]

end

/-- Settles O58: transactions by their form and time, codes by the port's dynamic address. -/
theorem mgmtPort : Obligations.MgmtPort := by
  unfold Obligations.MgmtPort
  refine ⟨?transactions, ?codes⟩
  case transactions =>
    rintro s u v t rfl hup hv
    simp only [exec_mgmtWrite, exec_mgmtRead, exec_mgmtIbiRetry]
    refine ⟨fun d hlen ha hw => ?words, fun d h => ?ignored, fun w n a bs => ⟨rfl, rfl⟩, fun n h => ?read, fun n a hdyn ha h => ?early,
      fun c hev hibi hdue => ?retry, fun h => ?noRetry⟩
    case words => rw [mgmtWrite_words hup hv hlen ha hw]
    case ignored => rw [mgmtWrite_ignored hup hv h]
    case read => rw [mgmtRead_words hup hv n h]
    case early => rw [mgmtRead_early hup hv n hdyn ha h]
    case retry => rw [mgmtIbiRetry_due hup hev hibi hdue]
    case noRetry => rw [mgmtIbiRetry_notDue h]
  case codes =>
    rintro s u v t n a rfl hup hv
    simp only [exec_enec, exec_disec, exec_rstdaa, exec_unsupportedCcc, exec_entdaa, exec_setdasa]
    refine ⟨fun h => ?events, fun h => ?noEvents, ?rstdaa, ?nack, ?ignored, fun hnone => ?unassigned, fun hsome => ?assigned⟩
    case events => rw [mgmtEvents_set hup hv true h, mgmtEvents_set hup hv false h]; exact ⟨rfl, rfl⟩
    case noEvents => rw [mgmtEvents_other hup hv true h, mgmtEvents_other hup hv false h]; exact ⟨rfl, rfl⟩
    case rstdaa => rw [State.ccc_up hup hv]; rfl
    case nack => rw [State.ccc_up hup hv]; rfl
    case ignored => rw [State.ccc_up hup hv]; rfl
    case unassigned =>
      refine ⟨⟨_, rfl, by rw [mgmtEntdaa_takes hup hv hnone]; rfl⟩, ?_, fun hn => ?_, fun cmd hmem => ?_⟩
      · rw [mgmtSetdasa_eq hup hv, if_pos ⟨hnone, rfl⟩]; rfl
      · rw [mgmtSetdasa_eq hup hv, if_neg fun h => hn h.2]
      · simp only [List.mem_cons, List.not_mem_nil, or_false] at hmem
        rcases hmem with rfl | rfl | rfl | rfl | rfl | rfl | rfl | rfl | rfl
        all_goals exact congrArg Host.Outcome.next (State.direct_nack hup hv hnone _)
    case assigned =>
      rw [exec_setnewda, exec_getpid, exec_getbcr, exec_getdcr, exec_getstatus, exec_setmwl, exec_setmrl, exec_getmwl, exec_getmrl]
      simp only [State.direct_served hup hv hsome, mgmtGetstatus_served hup hv hsome, mgmtSetLen_served hup hv hsome,
        mgmtEntdaa_assigned hup hv hsome, mgmtSetdasa_eq hup hv, hsome, false_and, if_false, true_and, and_true]
      have hmwl : (s.advance t).mgmt.mwl = v.mgmt.mwl := by rw [hv]
      have hmrl : (s.advance t).mgmt.mrl = v.mgmt.mrl := by rw [hv]
      rw [hmwl, hmrl]
      exact ⟨rfl, rfl, rfl, ⟨_, rfl⟩, rfl, rfl, rfl, rfl⟩

end Sys2Proof.Machine
end

section
/-! The Chronograph: SET and SET_AT_PPS, the edges of PPS_IN and holdover (spec/17_security_identity_and_time.md R446, R448). -/

namespace Sys2Proof.Machine

/-! ## The commands -/

theorem exec_ppsEdge (t w : Nat) (s : State) : exec (.ppsEdge t w) s = .next (ppsEdge w (s.advance t)) := rfl
theorem exec_ppsHoldover (t : Nat) (s : State) : exec (.ppsHoldover t) s = .next (ppsHoldover (s.advance t)) := rfl
theorem exec_set (t : Nat) (p : Path) (s : State) : exec (.set t p) s = .next ((s.advance t).writeIn p 0x5_004C 1) := rfl
theorem exec_setAtPps (t : Nat) (p : Path) (s : State) :
    exec (.setAtPps t p) s = .next ((s.advance t).writeIn p 0x5_004C 2) := rfl

/-! ## The count that SET stores (R446) -/

theorem Chrono.setTo_sec (c : Chrono) (sec frac : Nat) : (c.setTo sec frac).sec = sec % 2 ^ 48 := by
  simp only [Chrono.setTo, Chrono.sec]
  omega

theorem Chrono.setTo_frac (c : Chrono) (sec frac : Nat) : (c.setTo sec frac).frac = frac % 2 ^ 32 := by
  simp only [Chrono.setTo, Chrono.frac]
  omega

/-- Seconds and fraction follow from the count. -/
theorem Chrono.sec_frac_of_count {c d : Chrono} (h : c.count = d.count) : c.sec = d.sec ∧ c.frac = d.frac := by
  simp [Chrono.sec, Chrono.frac, h]

/-! ## Arithmetic of the loop (R448) -/

theorem clampI_eq_max_min {lo hi : Int} (h : lo ≤ hi) (x : Int) : clampI lo hi x = max lo (min hi x) := by
  unfold clampI; omega

theorem trunc8_eq_tdiv (x : Int) : trunc8 x = x.tdiv 8 := by
  unfold trunc8
  split
  case isTrue h => rw [Int.tdiv_eq_ediv_of_nonneg h]
  case isFalse h =>
    have hneg : x = - -x := by omega
    conv_rhs => rw [hneg, Int.neg_tdiv, Int.tdiv_eq_ediv_of_nonneg (by omega)]

/-! ## What an accepted edge does (R448) -/

/-- The error of an edge at a nanosecond view: the part of a second, counted from the nearer side. -/
def edgeError (t : Nat) : Int :=
  if t % 10 ^ 9 < 500_000_000 then ((t % 10 ^ 9 : Nat) : Int) else ((t % 10 ^ 9 : Nat) : Int) - 1_000_000_000

/-- `Chrono.edge` measures that error. -/
theorem edgeError_eq (t : Nat) :
    (if ((t % 10 ^ 9 : Nat) : Int) ≥ 500000000 then ((t % 10 ^ 9 : Nat) : Int) - 1000000000 else ((t % 10 ^ 9 : Nat) : Int))
      = edgeError t := by
  unfold edgeError; split <;> split <;> omega

/-- PHASE_STEP is on, and an error is above its threshold. -/
def Chrono.stepDue (c : Chrono) (e : Int) : Prop := bit c.cfg 3 = true ∧ ((fld c.cfg 16 16 * 1000 : Nat) : Int) < e.natAbs

theorem Chrono.stepDue_iff (c : Chrono) (e : Int) :
    (bit c.cfg 3 && decide (((fld c.cfg 16 16 * 1000 : Nat) : Int) < if e < 0 then -e else e)) = true ↔ c.stepDue e := by
  have habs : (if e < 0 then -e else e) = e.natAbs := by split <;> omega
  rw [habs, Bool.and_eq_true, decide_eq_true_eq, Chrono.stepDue]

section
variable {c : Chrono} {t : Nat} (now : Nat)

/-- A SET_AT_PPS that waits is applied, and a slew ends. -/
theorem Chrono.edge_pending (h : c.setPending = true) :
    (c.edge now).count = (c.setTo c.setSec c.setFrac).count ∧ (c.edge now).valid = true ∧ (c.edge now).stepped = true
      ∧ (c.edge now).setPending = false ∧ (c.edge now).slew = 0 := by
  simp only [Chrono.edge, h, if_true, and_true]
  exact ⟨rfl, rfl, rfl⟩

/-- MEASURE corrects nothing. -/
theorem Chrono.edge_measure (h : c.setPending = false) (hmode : c.mode ≠ 2) :
    (c.edge now).count = c.count ∧ (c.edge now).freq = c.freq ∧ (c.edge now).slew = c.slew := by
  simp only [Chrono.edge, h, if_pos hmode]
  exact ⟨rfl, rfl, rfl⟩

variable (ht : c.ns = t)
include ht

/-- LOCK steps the count by a large error. -/
theorem Chrono.edge_step (h : c.setPending = false) (hmode : c.mode = 2) (hstep : c.stepDue (edgeError t)) :
    (c.edge now).count = chronoOfNs ((t : Int) - edgeError t).toNat ∧ (c.edge now).stepped = true ∧ (c.edge now).slew = 0
      ∧ (c.edge now).freq = c.freq := by
  unfold Chrono.edge
  dsimp only
  rw [ht, edgeError_eq, h, if_neg (by decide), if_neg (not_not.2 hmode), if_pos ((Chrono.stepDue_iff ..).2 hstep)]
  exact ⟨rfl, rfl, rfl, rfl⟩

/-- LOCK corrects FREQ and slews otherwise. -/
theorem Chrono.edge_loop (h : c.setPending = false) (hmode : c.mode = 2) (hstep : ¬ c.stepDue (edgeError t)) :
    (c.edge now).count = c.count ∧ (c.edge now).slew = max (-500_000) (min 500_000 (-edgeError t))
      ∧ (c.edge now).freq = max (-200_000) (min 200_000 (c.freq - (edgeError t).tdiv 8)) := by
  unfold Chrono.edge
  dsimp only
  rw [ht, edgeError_eq, h, if_neg (by decide), if_neg (not_not.2 hmode), if_neg (mt (Chrono.stepDue_iff ..).1 hstep)]
  dsimp only
  rw [clampI_eq_max_min (by decide), clampI_eq_max_min (by decide), trunc8_eq_tdiv]
  exact ⟨rfl, rfl, rfl⟩

/-- Every accepted edge notes time, error and instant. -/
theorem Chrono.edge_notes :
    (c.edge now).ppsLast = t ∧ (c.edge now).ppsErr = edgeError t ∧ (c.edge now).lastEdge = some now := by
  unfold Chrono.edge
  dsimp only
  rw [ht, edgeError_eq]
  cases c.setPending
  case true => exact ⟨rfl, rfl, rfl⟩
  case false =>
    rw [if_neg (by decide)]
    by_cases hmode : c.mode = 2
    · rw [if_neg (not_not.2 hmode)]
      by_cases hstep : c.stepDue (edgeError t)
      · rw [if_pos ((Chrono.stepDue_iff ..).2 hstep)]
        exact ⟨rfl, rfl, rfl⟩
      · rw [if_neg (mt (Chrono.stepDue_iff ..).1 hstep)]
        exact ⟨rfl, rfl, rfl⟩
    · rw [if_pos hmode]
      exact ⟨rfl, rfl, rfl⟩

end

theorem Chrono.accepts_iff (c : Chrono) (now w : Nat) :
    c.accepts now w = true ↔ 100 ≤ w ∧ ∀ l, c.lastEdge = some l → l + 999_800_000 ≤ now ∧ now ≤ l + 1_000_200_000 := by
  cases h : c.lastEdge <;> simp [Chrono.accepts, h]

section
variable {s : State} {c : Chrono} {w : Nat} (hc : c = s.chr.settle)
include hc

theorem ppsEdge_accepted (hup : s.held = false) (hserved : c.served = true) (hacc : c.accepts s.now w = true) :
    ppsEdge w s = { s with chr := c.edge s.now } := by
  simp [ppsEdge, ← hc, hup, hserved, hacc]

/-- Any other edge only brings the state in line with the mode. -/
theorem ppsEdge_ignored (h : s.held = true ∨ c.served = false ∨ c.accepts s.now w = false) : ppsEdge w s = { s with chr := c } := by
  unfold ppsEdge
  rw [← hc]
  exact if_pos (by simpa [or_assoc] using h)

end

/-! ## Holdover (R448) -/

section
variable {s : State} {l : Nat} (hl : s.chr.lastEdge = some l)
include hl

theorem ppsHoldover_due (hserved : s.chr.served = true) (hpps : s.chr.pps = .locked ∨ s.chr.pps = .acquiring)
    (hdue : l + 1_500_000_000 ≤ s.now) :
    ppsHoldover s = { s with chr := { s.chr with
      pps := .holdover, lost := true, slew := 0, slewLeft := 0, good := 0, lastEdge := none } } := by
  simp [ppsHoldover, hl, hserved, hpps, hdue]

theorem ppsHoldover_early (h : s.now < l + 1_500_000_000) : ppsHoldover s = s := by
  have hnot : ¬ l + 1_500_000_000 ≤ s.now := by omega
  simp [ppsHoldover, hl, hnot]

end

/-- Settles O59: acceptance first, then the cases of an accepted edge, then holdover. -/
theorem ppsEdges : Obligations.PpsEdges := by
  unfold Obligations.PpsEdges
  refine ⟨?accepts, ?edge, ?holdover⟩
  case accepts =>
    rintro s u t w c rfl hc
    rw [exec_ppsEdge]
    exact ⟨fun hup hserved hacc => by rw [ppsEdge_accepted hc hup hserved hacc], fun h => by rw [ppsEdge_ignored hc h],
      c.accepts_iff _ w⟩
  case edge =>
    rintro c d now r e rfl he rfl
    generalize ht : c.ns = x at he ⊢
    obtain rfl : e = edgeError x := he
    obtain ⟨hlast, herr, hedge⟩ := Chrono.edge_notes now ht
    refine ⟨hlast, herr, hedge, fun h => ?_, Chrono.edge_measure now,
      fun h hmode hphase hbig => Chrono.edge_step now ht h hmode ⟨hphase, hbig⟩, fun h hmode hsmall => Chrono.edge_loop now ht h hmode ?_⟩
    · obtain ⟨hcount, hvalid, -, hpend, hslew⟩ := Chrono.edge_pending now h
      exact ⟨hcount, hvalid, hpend, hslew⟩
    · rintro ⟨hphase, hbig⟩
      rcases hsmall with hoff | hle
      · simp [hoff] at hphase
      · omega
  case holdover =>
    rintro s u t l rfl hl hserved
    rw [exec_ppsHoldover]
    exact ⟨fun hpps hdue => by rw [ppsHoldover_due hl hserved hpps hdue], fun h => by rw [ppsHoldover_early hl h]⟩

/-! ## CHRONO_CTRL (R446) -/

section
variable {s : State} {p : Path}

/-- Passing the register's gate, which is open to every path, a write acts on the Chronograph alone. -/
theorem State.writeReg_chronoCtrl (hw : s.writable p 0x5_004C = true) {w : Word} {c : Chrono}
    (h : s.writeChrono p 0x5_004C w = { s with chr := c }) : s.writeReg p 0x5_004C w = { s with chr := c } := by
  have hr : rowOf 0x5_004C = some (ro 0x5_004C) := rfl
  have hshut : s.windowShut p 0x5_004C = false := by simp [State.windowShut]
  have hspecial : s.writeSpecial p 0x5_004C w = some { s with chr := c } := by rw [← h]; rfl
  have hhere : s.writeHere p 0x5_004C w = { s with chr := c } := by
    simp [State.writeHere, hr, ro, State.gateOpen, hshut, hspecial]
  rw [State.writeReg_unlocked hw hr rfl, hhere]
  exact State.noteEvt_same rfl

/-- The image's record goes to the register, which stores nothing to remember. -/
theorem State.writeIn_image_chronoCtrl {l : Load} (hup : s.held = false) (hload : s.boot.load = some l) {w : Word} {c : Chrono}
    (h : s.writeChrono .image 0x5_004C w = { s with chr := c }) : s.writeIn .image 0x5_004C w = { s with chr := c } := by
  have hr : rowOf 0x5_004C = some (ro 0x5_004C) := rfl
  have hpath : s.pathUp .image = true := by simp [State.pathUp, State.live, hup, hload]
  have hreach : s.writable .image 0x5_004C = true := by simp [State.writable, State.dieGone, State.coreOut, hr]
  have hbad : badTarget 0x5_004C = false := rfl
  have hsave : s.saveReg 0x5_004C = s := State.saveReg_unstored rfl
  simp [State.writeIn, hpath, hload, hbad, State.lockBroken_of_unlocked s hr rfl, State.imageWrite, hsave,
    State.writeReg_chronoCtrl hreach h]

theorem State.writeChrono_set (h : s.setAllowed p = true) :
    s.writeChrono p 0x5_004C 1 = { s with chr := { s.chr.setTo s.chr.setSec s.chr.setFrac with setPending := false } } := by
  show s.chronoSet p = _
  exact if_pos h

theorem State.writeChrono_setAtPps (h : s.setAllowed p = true) :
    s.writeChrono p 0x5_004C 2 = { s with chr := { s.chr with setPending := true } } := by
  show s.chronoSetAtPps p = _
  exact if_pos h

/-- R446: from BAR0 with HOST_SET 0 a SET changes nothing. -/
theorem State.writeChrono_refused (h : s.setAllowed p = false) :
    s.writeChrono p 0x5_004C 1 = s ∧ s.writeChrono p 0x5_004C 2 = s := by
  refine ⟨?_, ?_⟩
  · show s.chronoSet p = s
    exact if_neg (by simp [h])
  · show s.chronoSetAtPps p = s
    exact if_neg (by simp [h])

theorem State.setAllowed_iff : s.setAllowed p = true ↔ (p = .bar0 → bit s.chr.cfg 0 = true) := by
  cases p <;> simp [State.setAllowed]

end

/-- Settles O29: each path's write reaches the register, where only `setAllowed` decides; the pending value waits for an edge. -/
theorem chronoSet : Obligations.ChronoSet := by
  unfold Obligations.ChronoSet
  refine ⟨fun c sec frac => ⟨c.setTo_sec sec frac, c.setTo_frac sec frac, rfl, rfl⟩, ?software, ?edge, ?image⟩
  case software =>
    rintro s u v t p rfl hv ⟨hp, -, hpath, hw⟩
    have hreach : v.writable p 0x5_004C = true := by rw [hv, State.linkRx_writable]; exact hw
    have hchr : v.chr = (s.advance t).chr := by rw [hv]; unfold State.linkRx; split <;> rfl
    have hallow : v.setAllowed p = true ↔ (p = .bar0 → bit (s.advance t).chr.cfg 0 = true) := by rw [State.setAllowed_iff, hchr]
    rw [exec_set, exec_setAtPps, State.writeIn_up hp hpath, State.writeIn_up hp hpath, ← hv, ← hchr]
    refine ⟨fun h => ?allowed, fun hbar h => ?refused⟩
    case allowed =>
      have ha := hallow.2 (by rwa [← hchr])
      rw [State.writeReg_chronoCtrl hreach (State.writeChrono_set ha), State.writeReg_chronoCtrl hreach (State.writeChrono_setAtPps ha)]
      exact ⟨rfl, rfl⟩
    case refused =>
      have ha : v.setAllowed p = false := by
        rw [Bool.eq_false_iff]
        intro ha
        rw [State.setAllowed_iff.1 ha hbar] at h
        exact absurd h (by decide)
      obtain ⟨hset, hpps⟩ := State.writeChrono_refused ha
      rw [State.writeReg_chronoCtrl hreach (c := v.chr) hset, State.writeReg_chronoCtrl hreach (c := v.chr) hpps]
      exact ⟨rfl, rfl⟩
  case edge =>
    rintro s u t width rfl hup hserved hacc hpend
    refine ⟨_, exec_ppsEdge t width s, ?_⟩
    rw [ppsEdge_accepted rfl hup hserved hacc]
    obtain ⟨hcount, hvalid, hstepped, hdone, -⟩ := Chrono.edge_pending (s.advance t).now hpend
    obtain ⟨hsec, hfrac⟩ := Chrono.sec_frac_of_count hcount
    exact ⟨rfl, hdone, hvalid, hstepped, hsec.trans (Chrono.setTo_sec ..), hfrac.trans (Chrono.setTo_frac ..)⟩
  case image =>
    rintro s u t l rfl hup hload
    rw [exec_set, exec_setAtPps, State.writeIn_image_chronoCtrl hup hload (State.writeChrono_set rfl),
      State.writeIn_image_chronoCtrl hup hload (State.writeChrono_setAtPps rfl)]
    exact ⟨rfl, rfl⟩

end Sys2Proof.Machine
end

section
/-! Commands at the edge of the device leave its work alone: device memory, the cores, the frames and the DMA channels (spec/15, spec/16,
spec/17, spec/12). One lemma per operation, in the order of the chapters. -/

namespace Sys2Proof.Machine

/-! ## The frame -/

/-- Device memory, cores, frames in progress and DMA channels are as before. -/
structure KeepsWork (z u : State) : Prop where
  mem : u.mem = z.mem
  cores : u.cores = z.cores
  flights : u.flights = z.flights
  dma : u.dma = z.dma

theorem KeepsWork.refl (z : State) : KeepsWork z z := ⟨rfl, rfl, rfl, rfl⟩

theorem KeepsWork.trans {z u v : State} (h : KeepsWork z u) (k : KeepsWork u v) : KeepsWork z v :=
  ⟨k.mem.trans h.mem, k.cores.trans h.cores, k.flights.trans h.flights, k.dma.trans h.dma⟩

/-- `trans` with the later step first, which names the state between. -/
theorem KeepsWork.after {z u v : State} (k : KeepsWork u v) (h : KeepsWork z u) : KeepsWork z v := h.trans k

theorem KeepsWork.ite {z a b : State} {c : Prop} [Decidable c] (ha : KeepsWork z a) (hb : KeepsWork z b) :
    KeepsWork z (if c then a else b) := by split <;> assumption

theorem KeepsWork.foldl {α : Type} {f : State → α → State} (hf : ∀ u x, KeepsWork u (f u x)) (l : List α) (z : State) :
    KeepsWork z (l.foldl f z) := by
  induction l generalizing z with
  | nil => exact .refl z
  | cons x l ih => exact (hf z x).trans (ih (f z x))

/-- Reporting touches none of it. -/
theorem Reports.keepsWork {z u : State} (h : Reports z u) : KeepsWork z u := by
  rw [h.rest]; exact ⟨rfl, rfl, rfl, rfl⟩

theorem State.advance_keepsWork (s : State) (t : Nat) : KeepsWork s (s.advance t) := ⟨by simp, by simp, by simp, by simp⟩

theorem State.out_keepsWork (s : State) (o : Out) : KeepsWork s (s.out o) := ⟨rfl, rfl, rfl, rfl⟩

theorem State.raise_keepsWork (s : State) (r : Report) : KeepsWork s (s.raise r) := (State.raise_reports (.refl s) r).keepsWork
theorem State.raiseEcc_keepsWork (s : State) (c a : Nat) : KeepsWork s (s.raiseEcc c a) := s.raise_keepsWork _
theorem State.noteEvt_keepsWork (s : State) (b : Nat) : KeepsWork s (s.noteEvt b) := (State.noteEvt_reports (.refl s) b).keepsWork
theorem State.setEvt_keepsWork (s : State) (b : Nat) : KeepsWork s (s.setEvt b) := (State.setEvt_reports (.refl s) b).keepsWork
theorem State.bumpHost_keepsWork (s : State) (i : Nat) : KeepsWork s (s.bumpHost i) := (State.bumpHost_reports (.refl s) i).keepsWork
theorem State.bumpPort_keepsWork (s : State) (n i : Nat) : KeepsWork s (s.bumpPort n i) := (State.bumpPort_reports (.refl s) n i).keepsWork

theorem State.flushMsix_keepsWork (s : State) : KeepsWork s s.flushMsix := by
  unfold State.flushMsix
  exact .ite (.refl s) (.foldl (fun u v => .ite (State.sendMsix_reports (.refl u) v).keepsWork (.refl u)) _ s)

section
variable (s : State)

/-! ## The references (15) -/

theorem rcStart_keepsWork : KeepsWork s (rcStart s) := by
  unfold rcStart; split <;> exact ⟨rfl, rfl, rfl, rfl⟩

theorem State.senseFuses_keepsWork : KeepsWork s s.senseFuses := by
  unfold State.senseFuses; split <;> exact ⟨rfl, rfl, rfl, rfl⟩

theorem vddSettled_keepsWork : KeepsWork s (vddSettled s) := by
  unfold vddSettled
  exact .ite (s.senseFuses_keepsWork.trans ⟨rfl, rfl, rfl, rfl⟩) (.refl s)

theorem xtalAmp_keepsWork : KeepsWork s (xtalAmp s) := by
  unfold xtalAmp
  dsimp only
  exact .ite (.refl s) (.ite ⟨rfl, rfl, rfl, rfl⟩ ⟨rfl, rfl, rfl, rfl⟩)

theorem xtalCount_keepsWork : KeepsWork s (xtalCount s) := by
  unfold xtalCount
  split
  · exact .ite ⟨rfl, rfl, rfl, rfl⟩ (.refl s)
  · exact .refl s

theorem xtalDly_keepsWork : KeepsWork s (xtalDly s) := by
  unfold xtalDly
  split
  · exact .ite ⟨rfl, rfl, rfl, rfl⟩ (.refl s)
  · exact .refl s

theorem xoTimeout_keepsWork : KeepsWork s (xoTimeout s) := by
  unfold xoTimeout
  exact .ite (.after (State.raise_keepsWork _ _) ⟨rfl, rfl, rfl, rfl⟩) (.refl s)

/-! ## Supplies and the always-on domain (16) -/

theorem avsPeriod_keepsWork : KeepsWork s (avsPeriod s) := by
  unfold avsPeriod; split <;> exact ⟨rfl, rfl, rfl, rfl⟩

theorem avsResponse_keepsWork (g : Bool) (mv amp : Nat) : KeepsWork s (avsResponse g mv amp s) := by
  unfold avsResponse
  exact .ite (.refl s) (.ite ⟨rfl, rfl, rfl, rfl⟩ ⟨rfl, rfl, rfl, rfl⟩)

theorem vbatLow_keepsWork (mv : Nat) : KeepsWork s (vbatLow mv s) := by
  unfold vbatLow; split <;> exact ⟨rfl, rfl, rfl, rfl⟩

theorem vbatSwitch_keepsWork : KeepsWork s (vbatSwitch s) := by
  unfold vbatSwitch; split <;> exact ⟨rfl, rfl, rfl, rfl⟩

theorem vddRestored_keepsWork : KeepsWork s (vddRestored s) := by
  unfold vddRestored; split <;> exact ⟨rfl, rfl, rfl, rfl⟩

theorem xt32Stopped_keepsWork : KeepsWork s (xt32Stopped s) := by
  unfold xt32Stopped; split <;> exact ⟨rfl, rfl, rfl, rfl⟩

theorem powerOn_keepsWork : KeepsWork s (powerOn s) := by
  unfold powerOn; split <;> exact ⟨rfl, rfl, rfl, rfl⟩

theorem alwaysOnLoss_keepsWork : KeepsWork s (alwaysOnLoss s) := by
  unfold alwaysOnLoss; split <;> exact ⟨rfl, rfl, rfl, rfl⟩

/-! ## The Chronograph, the fuses and the MGMT port (17) -/

theorem ppsEdge_keepsWork (w : Nat) : KeepsWork s (ppsEdge w s) := by
  unfold ppsEdge
  exact .ite ⟨rfl, rfl, rfl, rfl⟩ ⟨rfl, rfl, rfl, rfl⟩

theorem ppsHoldover_keepsWork : KeepsWork s (ppsHoldover s) := by
  unfold ppsHoldover
  dsimp only
  split
  · exact .ite ⟨rfl, rfl, rfl, rfl⟩ (.refl s)
  · exact .refl s

theorem State.fuseNext_keepsWork : KeepsWork s s.fuseNext := by
  unfold State.fuseNext; split <;> exact ⟨rfl, rfl, rfl, rfl⟩

theorem State.fuseWork_keepsWork : KeepsWork s s.fuseWork := by
  unfold State.fuseWork
  refine .ite (.refl s) ?_
  split
  · split
    · exact ⟨rfl, rfl, rfl, rfl⟩
    · exact .after (State.fuseNext_keepsWork _) ⟨rfl, rfl, rfl, rfl⟩
  · exact s.fuseNext_keepsWork

theorem fuseDone_keepsWork (w : Word) : KeepsWork s (fuseDone w s) := by
  unfold fuseDone
  dsimp only
  split
  · exact .refl s
  · exact .after (State.fuseWork_keepsWork _) ⟨rfl, rfl, rfl, rfl⟩

theorem mgmtIbiRetry_keepsWork : KeepsWork s (mgmtIbiRetry s) := by
  unfold mgmtIbiRetry
  refine .ite (.refl s) ?_
  split
  · exact .ite ⟨rfl, rfl, rfl, rfl⟩ (.refl s)
  · exact .refl s

variable {f : State → State} (hf : ∀ u, KeepsWork u (f u))
include hf

/-- A common command code touches no more than what it does on the port. -/
theorem State.ccc_keepsWork : KeepsWork s (s.ccc f) := by
  unfold State.ccc
  exact .ite (.after (hf _) ⟨rfl, rfl, rfl, rfl⟩) (.refl s)

theorem State.direct_keepsWork : KeepsWork s (s.direct f) :=
  s.ccc_keepsWork fun u => .ite (hf u) ⟨rfl, rfl, rfl, rfl⟩

omit hf

theorem mgmtEvents_keepsWork (on : Bool) (n : Nat) : KeepsWork s (mgmtEvents on n s) :=
  s.ccc_keepsWork fun u => .ite ⟨rfl, rfl, rfl, rfl⟩ (.refl u)

theorem mgmtEntdaa_keepsWork (a : Nat) : KeepsWork s (mgmtEntdaa a s) :=
  s.ccc_keepsWork fun u => .ite (.refl u) ⟨rfl, rfl, rfl, rfl⟩

theorem mgmtSetdasa_keepsWork (n a : Nat) : KeepsWork s (mgmtSetdasa n a s) :=
  s.ccc_keepsWork fun u => .ite ⟨rfl, rfl, rfl, rfl⟩ (.refl u)

/-! ## The host link (12) -/

theorem linkUp_keepsWork (g w : Nat) : KeepsWork s (linkUp g w s) := by
  unfold linkUp
  dsimp only
  exact .ite (.refl s) (.after (State.noteEvt_keepsWork _ _) ⟨rfl, rfl, rfl, rfl⟩)

theorem hotReset_keepsWork : KeepsWork s (hotReset s) := by
  unfold hotReset; split <;> exact ⟨rfl, rfl, rfl, rfl⟩

theorem d3hot_keepsWork (b : Bool) : KeepsWork s (d3hot b s) := by
  unfold d3hot
  dsimp only
  exact .ite (.after (State.flushMsix_keepsWork _) ⟨rfl, rfl, rfl, rfl⟩) (.refl s)

theorem State.cfgRead_keepsWork (off : Nat) : KeepsWork s (s.cfgRead off).2 := by
  unfold State.cfgRead
  dsimp only
  split <;> exact ⟨rfl, rfl, rfl, rfl⟩

theorem State.capRead_keepsWork (x : Bool) (id off : Nat) : KeepsWork s (s.capRead x id off) := by
  unfold State.capRead; split <;> exact ⟨rfl, rfl, rfl, rfl⟩

/-- A write of a configuration field may let messages go. -/
theorem State.cfgWrite_keepsWork (h : HostS) :
    KeepsWork s (((State.bump64 { s with host := h } 0x10_0180 4).flushMsix).out (.cfgReply (some 0))) :=
  (State.out_keepsWork _ _).after ((State.flushMsix_keepsWork _).after ⟨rfl, rfl, rfl, rfl⟩)

theorem pcieConfig_keepsWork (op : CfgOp) : KeepsWork s (pcieConfig op s) := by
  unfold pcieConfig
  dsimp only
  refine .ite (.refl s) (.ite ⟨rfl, rfl, rfl, rfl⟩ ?_)
  cases op with
  | read off => exact (s.cfgRead_keepsWork off).trans ⟨rfl, rfl, rfl, rfl⟩
  | capability x id off => exact s.capRead_keepsWork x id off
  | _ => exact s.cfgWrite_keepsWork _

theorem bar0Bad_keepsWork (a : Nat) (w : Bool) (n : Nat) : KeepsWork s (bar0Bad a w n s) := by
  unfold bar0Bad
  dsimp only
  refine .ite (.refl s) (.ite (.ite (.after (State.bumpHost_keepsWork _ 0) ⟨rfl, rfl, rfl, rfl⟩) (.refl s)) ?_)
  exact KeepsWork.trans (.ite (s.bumpHost_keepsWork 0) (.refl s)) ⟨rfl, rfl, rfl, rfl⟩

/-- The answer to a read of BAR2 counts its bytes and goes out. -/
theorem State.bar2Reply_keepsWork (path off n : Nat) (bs : List Byte) (ep : Bool) :
    KeepsWork s ((if path = 3 then s.bump64 0x10_0188 n else s).out (.readBytes path off bs ep)) :=
  (State.out_keepsWork _ _).after (.ite ⟨rfl, rfl, rfl, rfl⟩ (.refl s))

theorem State.bar2Get_keepsWork (path off n : Nat) (st : ReadStatus) : KeepsWork s (s.bar2Get path off n st) := by
  unfold State.bar2Get
  dsimp only
  refine .ite (s.bar2Reply_keepsWork ..) (.ite ?_ (.ite ⟨rfl, rfl, rfl, rfl⟩ ?_))
  · cases st with
    | ue => exact (s.raiseEcc_keepsWork ..).trans (State.bar2Reply_keepsWork ..)
    | _ => exact s.bar2Reply_keepsWork ..
  · exact KeepsWork.trans (.ite (s.bumpHost_keepsWork 1) (.refl s)) (State.bar2Reply_keepsWork ..)

theorem bar2Read_keepsWork (off n : Nat) (st : ReadStatus) : KeepsWork s (bar2Read off n st s) := by
  unfold bar2Read
  exact .ite (.ite ⟨rfl, rfl, rfl, rfl⟩ (.refl s)) (s.bar2Get_keepsWork 3 off n st)

theorem dmaBeat_keepsWork (p : Nat) : KeepsWork s (dmaBeat p s) := by
  unfold dmaBeat; split <;> exact ⟨rfl, rfl, rfl, rfl⟩

/-! ## The scrubber (14) -/

theorem scrubRead_keepsWork (a : Nat) (x : ReadStatus) : KeepsWork s (scrubRead a x s) := by
  unfold scrubRead
  dsimp only
  have hread : KeepsWork s (if s.poison.contains a || x == .ue then
      State.raiseEcc { s with poison := if s.poison.contains a then s.poison else a :: s.poison } 0x12 a
      else if x == .ce then s.raiseEcc 0x10 a else s) :=
    .ite (.after (State.raiseEcc_keepsWork _ _ _) ⟨rfl, rfl, rfl, rfl⟩) (.ite (s.raiseEcc_keepsWork _ _) (.refl s))
  exact .ite (.refl s) (.ite (hread.trans ⟨rfl, rfl, rfl, rfl⟩) hread)

/-! ## GENLOCK, the sensors' bus and the ports (03), partitions (10) and pace (01) -/

theorem genlockEdge_keepsWork (w : Nat) : KeepsWork s (genlockEdge w s) := by
  unfold genlockEdge
  dsimp only
  refine .ite (.refl s) ?_
  split
  · exact ⟨rfl, rfl, rfl, rfl⟩
  · exact .ite ⟨rfl, rfl, rfl, rfl⟩ (.ite (.refl s) (.ite ⟨rfl, rfl, rfl, rfl⟩
      (.ite (.after (State.setEvt_keepsWork _ 3) ⟨rfl, rfl, rfl, rfl⟩) ⟨rfl, rfl, rfl, rfl⟩)))

theorem genlockLost_keepsWork : KeepsWork s (genlockLost s) := by
  unfold genlockLost
  dsimp only
  split
  · exact .refl s
  · exact .ite (.refl s) (.after (State.setEvt_keepsWork _ 3) ⟨rfl, rfl, rfl, rfl⟩)

theorem hotJoin_keepsWork (n : Nat) : KeepsWork s (hotJoin n s) := by
  unfold hotJoin; split <;> exact ⟨rfl, rfl, rfl, rfl⟩

theorem sensorIbi_keepsWork (n a : Nat) (bs : List Byte) : KeepsWork s (sensorIbi n a bs s) := by
  unfold sensorIbi
  dsimp only
  exact .ite (.refl s) (.ite ⟨rfl, rfl, rfl, rfl⟩ (.ite ⟨rfl, rfl, rfl, rfl⟩ ⟨rfl, rfl, rfl, rfl⟩))

theorem hsBurstEnd_keepsWork (n : Nat) : KeepsWork s (hsBurstEnd n s) := by
  unfold hsBurstEnd; split <;> exact ⟨rfl, rfl, rfl, rfl⟩

theorem phyErr_keepsWork (n : Nat) : KeepsWork s (phyErr n s) := by
  unfold phyErr
  exact .ite (s.bumpPort_keepsWork n 14) (.refl s)

theorem deskew_keepsWork (n : Nat) : KeepsWork s (deskew n s) := by
  unfold deskew; split <;> exact ⟨rfl, rfl, rfl, rfl⟩

theorem stallTimeout_keepsWork (p : Nat) : KeepsWork s (stallTimeout p s) := by
  unfold stallTimeout
  dsimp only
  split
  · exact .ite (.refl s) (.after (State.noteEvt_keepsWork _ _) ⟨rfl, rfl, rfl, rfl⟩)
  · exact .refl s

theorem paceProbeStart_keepsWork (n : Nat) : KeepsWork s (paceProbeStart n s) := by
  unfold paceProbeStart
  exact .ite ⟨rfl, rfl, rfl, rfl⟩ (.refl s)

end

/-- Settles O60: each command named keeps the work of the state at its instant, and passing time keeps it too. -/
theorem edgeFrames : Obligations.EdgeFrames := by
  unfold Obligations.EdgeFrames
  intro i s u h hi
  have hkeeps : KeepsWork (s.advance i.time) u := by
    cases i with
    | rcOscillatorStart t => cases h; exact rcStart_keepsWork _
    | vddCoreSettled t => cases h; exact vddSettled_keepsWork _
    | xtalAmpDetect t => cases h; exact xtalAmp_keepsWork _
    | xtalCountDone t => cases h; exact xtalCount_keepsWork _
    | xtalDlyDone t => cases h; exact xtalDly_keepsWork _
    | xoStartTimeout t => cases h; exact xoTimeout_keepsWork _
    | avsPeriod t => cases h; exact avsPeriod_keepsWork _
    | avsResponse t g mv amp => cases h; exact avsResponse_keepsWork ..
    | vbatLow t mv => cases h; exact vbatLow_keepsWork ..
    | vbatSwitchover t => cases h; exact vbatSwitch_keepsWork _
    | vdd1v8Restored t => cases h; exact vddRestored_keepsWork _
    | xt32Stopped t => cases h; exact xt32Stopped_keepsWork _
    | powerOn t => cases h; exact powerOn_keepsWork _
    | alwaysOnPowerLoss t => cases h; exact alwaysOnLoss_keepsWork _
    | ppsEdge t w => cases h; exact ppsEdge_keepsWork ..
    | ppsHoldover t => cases h; exact ppsHoldover_keepsWork _
    | fuseProgramDone t w => cases h; exact fuseDone_keepsWork ..
    | mgmtIbiRetry t => cases h; exact mgmtIbiRetry_keepsWork _
    | enec t n => cases h; exact mgmtEvents_keepsWork ..
    | disec t n => cases h; exact mgmtEvents_keepsWork ..
    | rstdaa t => cases h; exact State.ccc_keepsWork _ fun _ => ⟨rfl, rfl, rfl, rfl⟩
    | entdaa t a => cases h; exact mgmtEntdaa_keepsWork ..
    | setdasa t n a => cases h; exact mgmtSetdasa_keepsWork ..
    | unsupportedCcc t d => cases h; exact State.ccc_keepsWork _ fun v => .ite ⟨rfl, rfl, rfl, rfl⟩ (.refl v)
    | setnewda | getpid | getbcr | getdcr | getstatus | setmwl | getmwl | setmrl | getmrl =>
      cases h; exact State.direct_keepsWork _ fun _ => ⟨rfl, rfl, rfl, rfl⟩
    | linkUp t g w => cases h; exact linkUp_keepsWork ..
    | hotReset t => cases h; exact hotReset_keepsWork _
    | d3hot t b => cases h; exact d3hot_keepsWork ..
    | pcieConfigRequest t op => cases h; exact pcieConfig_keepsWork ..
    | bar0Bad t a w n => cases h; exact bar0Bad_keepsWork ..
    | bar2Read t a n x => cases h; exact bar2Read_keepsWork ..
    | dmaBeat t p => cases h; exact dmaBeat_keepsWork ..
    | scrubRead t a x => cases h; exact scrubRead_keepsWork ..
    | genlockEdge t w => cases h; exact genlockEdge_keepsWork ..
    | genlockLost t => cases h; exact genlockLost_keepsWork _
    | hotJoin t n => cases h; exact hotJoin_keepsWork ..
    | ibi t n a bs => cases h; exact sensorIbi_keepsWork ..
    | hsBurstEnd t n => cases h; exact hsBurstEnd_keepsWork ..
    | phyErr t n => cases h; exact phyErr_keepsWork ..
    | deskew t n => cases h; exact deskew_keepsWork ..
    | stallTimeout t p => cases h; exact stallTimeout_keepsWork ..
    | paceProbeStart t n => cases h; exact paceProbeStart_keepsWork ..
    | _ => exact hi.elim
  obtain ⟨hmem, hcores, hflights, hdma⟩ := (s.advance_keepsWork i.time).trans hkeeps
  exact ⟨hmem, hcores, hflights, hdma⟩

end Sys2Proof.Machine
end
